-- ==== Sys2Proof/Word.lean ====
section
/-! DEFINITION. The byte of the two serial links and the small fixed collections the spec uses: three switch positions,
four cells, rows or slots, eight light outputs or patterns. -/

namespace Sys2Proof

/-- One byte on the receiver link or the pit link. -/
abbrev Byte := BitVec 8

/-- A stored or transmitted CRC-16. -/
abbrev Crc16 := BitVec 16

/-- Three like things, one for each switch position 0, 1, 2. -/
structure Three (α : Type) where
  at0 : α
  at1 : α
  at2 : α
  deriving DecidableEq, Repr, Inhabited

/-- Four like things: cell taps 1 to 4, profile slots 0 to 3, scenes 0 to 3. -/
structure Four (α : Type) where
  at0 : α
  at1 : α
  at2 : α
  at3 : α
  deriving DecidableEq, Repr, Inhabited

/-- Eight like things: light outputs L0 to L7, patterns 0 to 7. -/
structure Eight (α : Type) where
  at0 : α
  at1 : α
  at2 : α
  at3 : α
  at4 : α
  at5 : α
  at6 : α
  at7 : α
  deriving DecidableEq, Repr, Inhabited

def Three.get {α : Type} (t : Three α) : Fin 3 → α
  | 0 => t.at0
  | 1 => t.at1
  | 2 => t.at2

def Four.get {α : Type} (t : Four α) : Fin 4 → α
  | 0 => t.at0
  | 1 => t.at1
  | 2 => t.at2
  | 3 => t.at3

def Four.set {α : Type} (t : Four α) (i : Fin 4) (a : α) : Four α :=
  match i with
  | 0 => { t with at0 := a }
  | 1 => { t with at1 := a }
  | 2 => { t with at2 := a }
  | 3 => { t with at3 := a }

def Four.map {α β : Type} (f : α → β) (t : Four α) : Four β :=
  ⟨f t.at0, f t.at1, f t.at2, f t.at3⟩

def Four.toList {α : Type} (t : Four α) : List α := [t.at0, t.at1, t.at2, t.at3]

def Eight.get {α : Type} (t : Eight α) : Fin 8 → α
  | 0 => t.at0
  | 1 => t.at1
  | 2 => t.at2
  | 3 => t.at3
  | 4 => t.at4
  | 5 => t.at5
  | 6 => t.at6
  | 7 => t.at7

def Eight.set {α : Type} (t : Eight α) (i : Fin 8) (a : α) : Eight α :=
  match i with
  | 0 => { t with at0 := a }
  | 1 => { t with at1 := a }
  | 2 => { t with at2 := a }
  | 3 => { t with at3 := a }
  | 4 => { t with at4 := a }
  | 5 => { t with at5 := a }
  | 6 => { t with at6 := a }
  | 7 => { t with at7 := a }

def Eight.map {α β : Type} (f : α → β) (t : Eight α) : Eight β :=
  ⟨f t.at0, f t.at1, f t.at2, f t.at3, f t.at4, f t.at5, f t.at6, f t.at7⟩

def Eight.zipWith {α β γ : Type} (f : α → β → γ) (t : Eight α) (u : Eight β) : Eight γ :=
  ⟨f t.at0 u.at0, f t.at1 u.at1, f t.at2 u.at2, f t.at3 u.at3, f t.at4 u.at4, f t.at5 u.at5, f t.at6 u.at6,
    f t.at7 u.at7⟩

def Eight.toList {α : Type} (t : Eight α) : List α := [t.at0, t.at1, t.at2, t.at3, t.at4, t.at5, t.at6, t.at7]

/-- Every one of the eight the same. -/
def Eight.all {α : Type} (a : α) : Eight α := ⟨a, a, a, a, a, a, a, a⟩

/-- Every one of the four the same. -/
def Four.all {α : Type} (a : α) : Four α := ⟨a, a, a, a⟩

end Sys2Proof
end

