-- ==== Sys2Proof/Machine/Crc.lean ====
section
/-! DEFINITION. The two cyclic redundancy checks: CRC-8 of the receiver link (R150) and CRC-16 of the pit link and the
stored records (R158, R168). -/

namespace Sys2Proof.Machine

/-- Shift a CRC-8 register left by `n` bits under the polynomial 0x07. -/
def crc8Shift : Nat → BitVec 8 → BitVec 8
  | 0, c => c
  | n + 1, c => crc8Shift n (if c.msb then (c <<< 1) ^^^ 0x07#8 else c <<< 1)

/-- CRC-8 continued from a register value: each byte is taken most significant bit first (R150). -/
def crc8From : BitVec 8 → List Byte → BitVec 8
  | c, [] => c
  | c, b :: bs => crc8From (crc8Shift 8 (c ^^^ b)) bs

/-- CRC-8 of the receiver link: polynomial 0x07, initial value 0, no final inversion (R150). -/
def crc8 (bytes : List Byte) : BitVec 8 := crc8From 0#8 bytes

/-- Shift a CRC-16 register left by `n` bits under the polynomial 0x1021. -/
def crc16Shift : Nat → Crc16 → Crc16
  | 0, c => c
  | n + 1, c => crc16Shift n (if c.msb then (c <<< 1) ^^^ 0x1021#16 else c <<< 1)

/-- CRC-16 continued from a register value. -/
def crc16From : Crc16 → List Byte → Crc16
  | c, [] => c
  | c, b :: bs => crc16From (crc16Shift 8 (c ^^^ (b.zeroExtend 16 <<< 8))) bs

/-- CRC-16: polynomial 0x1021, initial value 0xFFFF, each byte most significant bit first, no final inversion (R158,
R168). -/
def crc16 (bytes : List Byte) : Crc16 := crc16From 0xFFFF#16 bytes

/-- The two bytes of a CRC-16, low byte first (section 9.1). -/
def crcBytes (c : Crc16) : List Byte := [c.truncate 8, (c >>> 8).truncate 8]

end Sys2Proof.Machine
end

