-- ==== Sys2Proof/Machine/Settings.lean ====
section
/-! DEFINITION. The settings of the working copy and of each profile record (10_stored_profiles_and_settings.md, R171):
their types, their defaults, the settings table with numbers, lengths and ranges, and the order checks of R29, R63, R78,
R101 and R108. Quantities are in the spec's units. -/

namespace Sys2Proof.Machine

/-- Steering modes, in the order of R69 and R167. -/
inductive SteerMode where
  | front
  | rear
  | counter
  | crab
  deriving DecidableEq, Repr, Inhabited

/-- Gears, in the order of R84 and R167. -/
inductive Gear where
  | high
  | low
  | dig
  deriving DecidableEq, Repr, Inhabited

/-- Count edges of WCH_ENC (R104). -/
inductive CountEdge where
  | rising
  | falling
  | both
  deriving DecidableEq, Repr, Inhabited

/-- Output roles, in the order of R132 and R171. -/
inductive Role where
  | head
  | tail
  | brake
  | reverse
  | turnL
  | turnR
  | roof
  | beacon
  | aux
  deriving DecidableEq, Repr, Inhabited

/-- Drive types of a light output (R132). -/
inductive DriveType where
  | pwm
  | onOff
  deriving DecidableEq, Repr, Inhabited

/-- A binding (R155). Channel index 0 is unbound. -/
structure Binding where
  channel : Nat
  reverse : Bool
  trim : Int
  deadBand : Nat
  deriving DecidableEq, Repr, Inhabited

/-- The endpoints of one steering axle, in µs (R78). -/
structure Axle where
  min : Nat
  centre : Nat
  max : Nat
  deriving DecidableEq, Repr, Inhabited

/-- The outputs of the throttle curve at inputs 0, 250, 500, 750 and 1000 (R89). -/
structure Curve where
  p0 : Nat
  p1 : Nat
  p2 : Nat
  p3 : Nat
  p4 : Nat
  deriving DecidableEq, Repr, Inhabited

/-- Role, nominal current in mA and drive type of a light output (R132). -/
structure OutputSetting where
  role : Role
  nominal : Nat
  drive : DriveType
  deriving DecidableEq, Repr, Inhabited

/-- One scene: a level for each of the nine roles (R135). -/
structure SceneLevels where
  head : Nat
  tail : Nat
  brake : Nat
  reverse : Nat
  turnL : Nat
  turnR : Nat
  roof : Nat
  beacon : Nat
  aux : Nat
  deriving DecidableEq, Repr, Inhabited

/-- One step of a pattern: a level and a duration in light steps (R138). -/
structure PatternStep where
  level : Nat
  duration : Nat
  deriving DecidableEq, Repr, Inhabited

/-- The settings RXL owns (R152, R155). -/
structure RxlSettings where
  throttle : Binding
  steer : Binding
  steerMode : Binding
  gear : Binding
  winch : Binding
  lights : Binding
  failsafeTime : Nat
  deriving DecidableEq, Repr, Inhabited

/-- The settings BSV owns (R22, R29, R32, R39, R43). -/
structure BsvSettings where
  cellResistance : Nat
  warn : Nat
  cut : Nat
  storage : Nat
  packCapacity : Nat
  energyWarnPercent : Nat
  parkTime : Nat
  wakeRadio : Bool
  wakeWinch : Bool
  wakePit : Bool
  deriving DecidableEq, Repr, Inhabited

/-- The settings of the budget (R63). -/
structure BgaSettings where
  currentLimit : Nat
  sagStart : Nat
  sagEnd : Nat
  winchFloor : Nat
  railLimit : Nat
  deriving DecidableEq, Repr, Inhabited

/-- The settings STC owns (R82). -/
structure StcSettings where
  refreshPeriod : Nat
  slewLimit : Nat
  centreBand : Nat
  rearRatio : Nat
  front : Axle
  rear : Axle
  modeList : Three SteerMode
  deriving DecidableEq, Repr, Inhabited

/-- The settings DRC owns (R101). -/
structure DrcSettings where
  curve : Curve
  reversePercent : Nat
  punch : Nat
  dragStrength : Nat
  gateTime : Nat
  stallCurrent : Nat
  assistDuty : Nat
  shiftThreshold : Nat
  highPulse : Nat
  lowPulse : Nat
  digPulse : Nat
  startGear : Gear
  deriving DecidableEq, Repr, Inhabited

/-- The settings WNC owns (R130). -/
structure WncSettings where
  spoolCapacity : Nat
  countEdge : CountEdge
  lineReserve : Nat
  operationDuty : Nat
  winchRamp : Nat
  jamCurrent : Nat
  assistThreshold : Nat
  stallCurrent : Nat
  deriving DecidableEq, Repr, Inhabited

/-- The settings LTC owns (R147). A parked scene of OFF is `none`. -/
structure LtcSettings where
  outputs : Eight OutputSetting
  scenes : Four SceneLevels
  sceneList : Three (Fin 4)
  parkedScene : Option (Fin 4)
  turnThreshold : Nat
  brakeLevel : Nat
  reverseLevel : Nat
  patterns : Eight (List PatternStep)
  deriving DecidableEq, Repr, Inhabited

/-- One value for every setting of the settings table (R171): the working copy, and the contents of a profile record. -/
structure Settings where
  rxl : RxlSettings
  bsv : BsvSettings
  bga : BgaSettings
  stc : StcSettings
  drc : DrcSettings
  wnc : WncSettings
  ltc : LtcSettings
  deriving DecidableEq, Repr, Inhabited

/-! ### Defaults (R171 and the owners' tables) -/

/-- The default of a binding with a stick: trim 0, dead band 20 (R155). -/
def Binding.stick (channel : Nat) : Binding := ⟨channel, false, 0, 20⟩

/-- The default of a binding with a switch: trim 0, dead band 0 (R155). -/
def Binding.switch (channel : Nat) : Binding := ⟨channel, false, 0, 0⟩

def RxlSettings.defaults : RxlSettings where
  throttle := .stick 2
  steer := .stick 1
  steerMode := .switch 5
  gear := .switch 4
  winch := .stick 3
  lights := .switch 6
  failsafeTime := 500

def BsvSettings.defaults : BsvSettings where
  cellResistance := 8
  warn := 3500
  cut := 3300
  storage := 3000
  packCapacity := 0
  energyWarnPercent := 80
  parkTime := 5
  wakeRadio := true
  wakeWinch := true
  wakePit := true

def BgaSettings.defaults : BgaSettings where
  currentLimit := 300
  sagStart := 3400
  sagEnd := 3100
  winchFloor := 30
  railLimit := 80

def StcSettings.defaults : StcSettings where
  refreshPeriod := 10
  slewLimit := 80
  centreBand := 60
  rearRatio := 100
  front := ⟨1000, 1500, 2000⟩
  rear := ⟨1000, 1500, 2000⟩
  modeList := ⟨.front, .counter, .crab⟩

def DrcSettings.defaults : DrcSettings where
  curve := ⟨0, 150, 330, 600, 1000⟩
  reversePercent := 60
  punch := 40
  dragStrength := 800
  gateTime := 300
  stallCurrent := 400
  assistDuty := 150
  shiftThreshold := 100
  highPulse := 1100
  lowPulse := 1500
  digPulse := 1900
  startGear := .low

def WncSettings.defaults : WncSettings where
  spoolCapacity := 4000
  countEdge := .rising
  lineReserve := 400
  operationDuty := 600
  winchRamp := 50
  jamCurrent := 120
  assistThreshold := 40
  stallCurrent := 150

/-- A scene that gives levels to HEAD, TAIL, ROOF and AUX only, as the default scenes of R135 do. -/
def SceneLevels.ofFour (head tail roof aux : Nat) : SceneLevels := ⟨head, tail, 0, 0, 0, 0, roof, 0, aux⟩

def LtcSettings.defaults : LtcSettings where
  outputs := ⟨⟨.head, 400, .pwm⟩, ⟨.head, 400, .pwm⟩, ⟨.tail, 60, .pwm⟩, ⟨.brake, 150, .pwm⟩, ⟨.turnL, 100, .onOff⟩,
    ⟨.turnR, 100, .onOff⟩, ⟨.roof, 900, .pwm⟩, ⟨.beacon, 120, .onOff⟩⟩
  scenes := ⟨.ofFour 0 0 0 0, .ofFour 160 64 0 0, .ofFour 255 128 255 0, .ofFour 255 128 255 255⟩
  sceneList := ⟨0, 1, 2⟩
  parkedScene := none
  turnThreshold := 700
  brakeLevel := 255
  reverseLevel := 255
  patterns := ⟨[⟨255, 20⟩, ⟨0, 20⟩], [⟨255, 20⟩, ⟨0, 20⟩], [⟨255, 5⟩, ⟨0, 45⟩],
    [⟨255, 10⟩, ⟨0, 10⟩, ⟨255, 10⟩, ⟨0, 50⟩], [⟨40, 25⟩, ⟨0, 25⟩], [⟨255, 3⟩, ⟨0, 3⟩, ⟨255, 3⟩, ⟨0, 41⟩],
    [⟨255, 50⟩], [⟨255, 50⟩]⟩

/-- The default value of every setting (R171). -/
def Settings.defaults : Settings where
  rxl := .defaults
  bsv := .defaults
  bga := .defaults
  stc := .defaults
  drc := .defaults
  wnc := .defaults
  ltc := .defaults

/-! ### Named values: the place of a name in the list that names it, from 0 (R170) -/

def SteerMode.place : SteerMode → Nat
  | .front => 0
  | .rear => 1
  | .counter => 2
  | .crab => 3

def SteerMode.ofPlace : Nat → Option SteerMode
  | 0 => some .front
  | 1 => some .rear
  | 2 => some .counter
  | 3 => some .crab
  | _ => none

def Gear.place : Gear → Nat
  | .high => 0
  | .low => 1
  | .dig => 2

def Gear.ofPlace : Nat → Option Gear
  | 0 => some .high
  | 1 => some .low
  | 2 => some .dig
  | _ => none

def CountEdge.place : CountEdge → Nat
  | .rising => 0
  | .falling => 1
  | .both => 2

def CountEdge.ofPlace : Nat → Option CountEdge
  | 0 => some .rising
  | 1 => some .falling
  | 2 => some .both
  | _ => none

def Role.place : Role → Nat
  | .head => 0
  | .tail => 1
  | .brake => 2
  | .reverse => 3
  | .turnL => 4
  | .turnR => 5
  | .roof => 6
  | .beacon => 7
  | .aux => 8

def Role.ofPlace : Nat → Option Role
  | 0 => some .head
  | 1 => some .tail
  | 2 => some .brake
  | 3 => some .reverse
  | 4 => some .turnL
  | 5 => some .turnR
  | 6 => some .roof
  | 7 => some .beacon
  | 8 => some .aux
  | _ => none

def DriveType.place : DriveType → Nat
  | .pwm => 0
  | .onOff => 1

def DriveType.ofPlace : Nat → Option DriveType
  | 0 => some .pwm
  | 1 => some .onOff
  | _ => none

/-- A scene's level for a role (R135). -/
def SceneLevels.level (c : SceneLevels) : Role → Nat
  | .head => c.head
  | .tail => c.tail
  | .brake => c.brake
  | .reverse => c.reverse
  | .turnL => c.turnL
  | .turnR => c.turnR
  | .roof => c.roof
  | .beacon => c.beacon
  | .aux => c.aux

/-- The setting of a gear's pulse (R99). -/
def DrcSettings.pulse (d : DrcSettings) : Gear → Nat
  | .high => d.highPulse
  | .low => d.lowPulse
  | .dig => d.digPulse

/-! ### The settings table -/

/-- The six functions, in the order of settings 0x0101 to 0x0106 (R171). -/
inductive Func where
  | throttle
  | steer
  | steerMode
  | gear
  | winch
  | lights
  deriving DecidableEq, Repr

/-- The settings that are one number, one flag or one named value. -/
inductive ScalarId where
  | failsafeTime
  | cellResistance
  | warn
  | cut
  | storage
  | packCapacity
  | energyWarnPercent
  | parkTime
  | wakeRadio
  | wakeWinch
  | wakePit
  | currentLimit
  | sagStart
  | sagEnd
  | winchFloor
  | railLimit
  | refreshPeriod
  | slewLimit
  | centreBand
  | rearRatio
  | frontMin
  | frontCentre
  | frontMax
  | rearMin
  | rearCentre
  | rearMax
  | curve0
  | curve1
  | curve2
  | curve3
  | curve4
  | reversePercent
  | punch
  | dragStrength
  | gateTime
  | driveStall
  | assistDuty
  | shiftThreshold
  | highPulse
  | lowPulse
  | digPulse
  | startGear
  | spoolCapacity
  | countEdge
  | lineReserve
  | operationDuty
  | winchRamp
  | jamCurrent
  | assistThreshold
  | winchStall
  | parkedScene
  | turnThreshold
  | brakeLevel
  | reverseLevel
  deriving DecidableEq, Repr

/-- The settings of the settings table (R171). -/
inductive SettingId where
  | binding (f : Func)
  | scalar (x : ScalarId)
  | modeList
  | output (i : Fin 8)
  | scene (i : Fin 4)
  | sceneList
  | pattern (i : Fin 8)
  deriving DecidableEq, Repr

/-- A scalar's number, its length in bytes and its fixed range (R171 and the owners' tables). The lower limit of the sag
start, the upper limits of the sag end and the line reserve depend on other settings and are order checks (R63, R108). -/
structure ScalarRow where
  number : Nat
  bytes : Nat
  lo : Nat
  hi : Nat
  deriving DecidableEq, Repr

def ScalarId.row : ScalarId → ScalarRow
  | .failsafeTime => ⟨0x0110, 2, 200, 1000⟩
  | .cellResistance => ⟨0x0201, 1, 0, 50⟩
  | .warn => ⟨0x0202, 2, 3300, 3800⟩
  | .cut => ⟨0x0203, 2, 3000, 3500⟩
  | .storage => ⟨0x0204, 2, 2800, 3200⟩
  | .packCapacity => ⟨0x0205, 2, 0, 20000⟩
  | .energyWarnPercent => ⟨0x0206, 1, 50, 95⟩
  | .parkTime => ⟨0x0207, 1, 0, 30⟩
  | .wakeRadio => ⟨0x0208, 1, 0, 1⟩
  | .wakeWinch => ⟨0x0209, 1, 0, 1⟩
  | .wakePit => ⟨0x020A, 1, 0, 1⟩
  | .currentLimit => ⟨0x0301, 2, 50, 1200⟩
  | .sagStart => ⟨0x0302, 2, 0, 4000⟩
  | .sagEnd => ⟨0x0303, 2, 2800, 65535⟩
  | .winchFloor => ⟨0x0304, 1, 0, 100⟩
  | .railLimit => ⟨0x0305, 1, 20, 150⟩
  | .refreshPeriod => ⟨0x0401, 1, 4, 20⟩
  | .slewLimit => ⟨0x0402, 2, 1, 1000⟩
  | .centreBand => ⟨0x0403, 1, 1, 200⟩
  | .rearRatio => ⟨0x0404, 1, 0, 100⟩
  | .frontMin => ⟨0x0405, 2, 800, 2200⟩
  | .frontCentre => ⟨0x0406, 2, 800, 2200⟩
  | .frontMax => ⟨0x0407, 2, 800, 2200⟩
  | .rearMin => ⟨0x0408, 2, 800, 2200⟩
  | .rearCentre => ⟨0x0409, 2, 800, 2200⟩
  | .rearMax => ⟨0x040A, 2, 800, 2200⟩
  | .curve0 => ⟨0x0501, 2, 0, 1000⟩
  | .curve1 => ⟨0x0502, 2, 0, 1000⟩
  | .curve2 => ⟨0x0503, 2, 0, 1000⟩
  | .curve3 => ⟨0x0504, 2, 0, 1000⟩
  | .curve4 => ⟨0x0505, 2, 0, 1000⟩
  | .reversePercent => ⟨0x0506, 1, 25, 100⟩
  | .punch => ⟨0x0507, 2, 1, 1000⟩
  | .dragStrength => ⟨0x0508, 2, 0, 1000⟩
  | .gateTime => ⟨0x0509, 2, 0, 1000⟩
  | .driveStall => ⟨0x050A, 2, 50, 1500⟩
  | .assistDuty => ⟨0x050B, 2, 0, 300⟩
  | .shiftThreshold => ⟨0x050C, 2, 20, 300⟩
  | .highPulse => ⟨0x050D, 2, 800, 2200⟩
  | .lowPulse => ⟨0x050E, 2, 800, 2200⟩
  | .digPulse => ⟨0x050F, 2, 800, 2200⟩
  | .startGear => ⟨0x0510, 1, 0, 2⟩
  | .spoolCapacity => ⟨0x0601, 2, 100, 20000⟩
  | .countEdge => ⟨0x0602, 1, 0, 2⟩
  | .lineReserve => ⟨0x0603, 2, 0, 65535⟩
  | .operationDuty => ⟨0x0604, 2, 100, 1000⟩
  | .winchRamp => ⟨0x0605, 2, 1, 1000⟩
  | .jamCurrent => ⟨0x0606, 2, 20, 400⟩
  | .assistThreshold => ⟨0x0607, 2, 10, 400⟩
  | .winchStall => ⟨0x0608, 2, 20, 400⟩
  | .parkedScene => ⟨0x0715, 1, 0, 4⟩
  | .turnThreshold => ⟨0x0716, 2, 200, 1000⟩
  | .brakeLevel => ⟨0x0717, 1, 0, 255⟩
  | .reverseLevel => ⟨0x0718, 1, 0, 255⟩

/-- A flag as a number (R170). -/
def flagNat (b : Bool) : Nat := if b then 1 else 0

/-- A scalar's value in a copy of the settings, as the number R170 writes. -/
def Settings.scalar (w : Settings) : ScalarId → Nat
  | .failsafeTime => w.rxl.failsafeTime
  | .cellResistance => w.bsv.cellResistance
  | .warn => w.bsv.warn
  | .cut => w.bsv.cut
  | .storage => w.bsv.storage
  | .packCapacity => w.bsv.packCapacity
  | .energyWarnPercent => w.bsv.energyWarnPercent
  | .parkTime => w.bsv.parkTime
  | .wakeRadio => flagNat w.bsv.wakeRadio
  | .wakeWinch => flagNat w.bsv.wakeWinch
  | .wakePit => flagNat w.bsv.wakePit
  | .currentLimit => w.bga.currentLimit
  | .sagStart => w.bga.sagStart
  | .sagEnd => w.bga.sagEnd
  | .winchFloor => w.bga.winchFloor
  | .railLimit => w.bga.railLimit
  | .refreshPeriod => w.stc.refreshPeriod
  | .slewLimit => w.stc.slewLimit
  | .centreBand => w.stc.centreBand
  | .rearRatio => w.stc.rearRatio
  | .frontMin => w.stc.front.min
  | .frontCentre => w.stc.front.centre
  | .frontMax => w.stc.front.max
  | .rearMin => w.stc.rear.min
  | .rearCentre => w.stc.rear.centre
  | .rearMax => w.stc.rear.max
  | .curve0 => w.drc.curve.p0
  | .curve1 => w.drc.curve.p1
  | .curve2 => w.drc.curve.p2
  | .curve3 => w.drc.curve.p3
  | .curve4 => w.drc.curve.p4
  | .reversePercent => w.drc.reversePercent
  | .punch => w.drc.punch
  | .dragStrength => w.drc.dragStrength
  | .gateTime => w.drc.gateTime
  | .driveStall => w.drc.stallCurrent
  | .assistDuty => w.drc.assistDuty
  | .shiftThreshold => w.drc.shiftThreshold
  | .highPulse => w.drc.highPulse
  | .lowPulse => w.drc.lowPulse
  | .digPulse => w.drc.digPulse
  | .startGear => w.drc.startGear.place
  | .spoolCapacity => w.wnc.spoolCapacity
  | .countEdge => w.wnc.countEdge.place
  | .lineReserve => w.wnc.lineReserve
  | .operationDuty => w.wnc.operationDuty
  | .winchRamp => w.wnc.winchRamp
  | .jamCurrent => w.wnc.jamCurrent
  | .assistThreshold => w.wnc.assistThreshold
  | .winchStall => w.wnc.stallCurrent
  | .parkedScene => match w.ltc.parkedScene with
    | some i => i.val
    | none => 4
  | .turnThreshold => w.ltc.turnThreshold
  | .brakeLevel => w.ltc.brakeLevel
  | .reverseLevel => w.ltc.reverseLevel

/-- The number 0 to 3 as a scene number; a number outside gives `none`, which R171 writes 4 for the parked scene. -/
def sceneOf (v : Nat) : Option (Fin 4) := if h : v < 4 then some ⟨v, h⟩ else none

/-- The settings with one scalar's number replaced. A number outside the table's range is never given here: the range is
checked first (R170). -/
def Settings.setScalar (w : Settings) (x : ScalarId) (v : Nat) : Settings :=
  match x with
  | .failsafeTime => { w with rxl := { w.rxl with failsafeTime := v } }
  | .cellResistance => { w with bsv := { w.bsv with cellResistance := v } }
  | .warn => { w with bsv := { w.bsv with warn := v } }
  | .cut => { w with bsv := { w.bsv with cut := v } }
  | .storage => { w with bsv := { w.bsv with storage := v } }
  | .packCapacity => { w with bsv := { w.bsv with packCapacity := v } }
  | .energyWarnPercent => { w with bsv := { w.bsv with energyWarnPercent := v } }
  | .parkTime => { w with bsv := { w.bsv with parkTime := v } }
  | .wakeRadio => { w with bsv := { w.bsv with wakeRadio := v = 1 } }
  | .wakeWinch => { w with bsv := { w.bsv with wakeWinch := v = 1 } }
  | .wakePit => { w with bsv := { w.bsv with wakePit := v = 1 } }
  | .currentLimit => { w with bga := { w.bga with currentLimit := v } }
  | .sagStart => { w with bga := { w.bga with sagStart := v } }
  | .sagEnd => { w with bga := { w.bga with sagEnd := v } }
  | .winchFloor => { w with bga := { w.bga with winchFloor := v } }
  | .railLimit => { w with bga := { w.bga with railLimit := v } }
  | .refreshPeriod => { w with stc := { w.stc with refreshPeriod := v } }
  | .slewLimit => { w with stc := { w.stc with slewLimit := v } }
  | .centreBand => { w with stc := { w.stc with centreBand := v } }
  | .rearRatio => { w with stc := { w.stc with rearRatio := v } }
  | .frontMin => { w with stc := { w.stc with front := { w.stc.front with min := v } } }
  | .frontCentre => { w with stc := { w.stc with front := { w.stc.front with centre := v } } }
  | .frontMax => { w with stc := { w.stc with front := { w.stc.front with max := v } } }
  | .rearMin => { w with stc := { w.stc with rear := { w.stc.rear with min := v } } }
  | .rearCentre => { w with stc := { w.stc with rear := { w.stc.rear with centre := v } } }
  | .rearMax => { w with stc := { w.stc with rear := { w.stc.rear with max := v } } }
  | .curve0 => { w with drc := { w.drc with curve := { w.drc.curve with p0 := v } } }
  | .curve1 => { w with drc := { w.drc with curve := { w.drc.curve with p1 := v } } }
  | .curve2 => { w with drc := { w.drc with curve := { w.drc.curve with p2 := v } } }
  | .curve3 => { w with drc := { w.drc with curve := { w.drc.curve with p3 := v } } }
  | .curve4 => { w with drc := { w.drc with curve := { w.drc.curve with p4 := v } } }
  | .reversePercent => { w with drc := { w.drc with reversePercent := v } }
  | .punch => { w with drc := { w.drc with punch := v } }
  | .dragStrength => { w with drc := { w.drc with dragStrength := v } }
  | .gateTime => { w with drc := { w.drc with gateTime := v } }
  | .driveStall => { w with drc := { w.drc with stallCurrent := v } }
  | .assistDuty => { w with drc := { w.drc with assistDuty := v } }
  | .shiftThreshold => { w with drc := { w.drc with shiftThreshold := v } }
  | .highPulse => { w with drc := { w.drc with highPulse := v } }
  | .lowPulse => { w with drc := { w.drc with lowPulse := v } }
  | .digPulse => { w with drc := { w.drc with digPulse := v } }
  | .startGear => { w with drc := { w.drc with startGear := (Gear.ofPlace v).getD w.drc.startGear } }
  | .spoolCapacity => { w with wnc := { w.wnc with spoolCapacity := v } }
  | .countEdge => { w with wnc := { w.wnc with countEdge := (CountEdge.ofPlace v).getD w.wnc.countEdge } }
  | .lineReserve => { w with wnc := { w.wnc with lineReserve := v } }
  | .operationDuty => { w with wnc := { w.wnc with operationDuty := v } }
  | .winchRamp => { w with wnc := { w.wnc with winchRamp := v } }
  | .jamCurrent => { w with wnc := { w.wnc with jamCurrent := v } }
  | .assistThreshold => { w with wnc := { w.wnc with assistThreshold := v } }
  | .winchStall => { w with wnc := { w.wnc with stallCurrent := v } }
  | .parkedScene => { w with ltc := { w.ltc with parkedScene := sceneOf v } }
  | .turnThreshold => { w with ltc := { w.ltc with turnThreshold := v } }
  | .brakeLevel => { w with ltc := { w.ltc with brakeLevel := v } }
  | .reverseLevel => { w with ltc := { w.ltc with reverseLevel := v } }

/-- A function's binding (R155). -/
def Settings.binding (w : Settings) : Func → Binding
  | .throttle => w.rxl.throttle
  | .steer => w.rxl.steer
  | .steerMode => w.rxl.steerMode
  | .gear => w.rxl.gear
  | .winch => w.rxl.winch
  | .lights => w.rxl.lights

def Settings.setBinding (w : Settings) (f : Func) (b : Binding) : Settings :=
  match f with
  | .throttle => { w with rxl := { w.rxl with throttle := b } }
  | .steer => { w with rxl := { w.rxl with steer := b } }
  | .steerMode => { w with rxl := { w.rxl with steerMode := b } }
  | .gear => { w with rxl := { w.rxl with gear := b } }
  | .winch => { w with rxl := { w.rxl with winch := b } }
  | .lights => { w with rxl := { w.rxl with lights := b } }

def Func.number : Func → Nat
  | .throttle => 0x0101
  | .steer => 0x0102
  | .steerMode => 0x0103
  | .gear => 0x0104
  | .winch => 0x0105
  | .lights => 0x0106

/-- A setting's number (R171). -/
def SettingId.number : SettingId → Nat
  | .binding f => f.number
  | .scalar x => x.row.number
  | .modeList => 0x040B
  | .output i => 0x0701 + i.val
  | .scene i => 0x0710 + i.val
  | .sceneList => 0x0714
  | .pattern i => 0x0720 + i.val

def Func.list : List Func := [.throttle, .steer, .steerMode, .gear, .winch, .lights]

def ScalarId.list : List ScalarId :=
  [.failsafeTime, .cellResistance, .warn, .cut, .storage, .packCapacity, .energyWarnPercent, .parkTime, .wakeRadio,
    .wakeWinch, .wakePit, .currentLimit, .sagStart, .sagEnd, .winchFloor, .railLimit, .refreshPeriod, .slewLimit,
    .centreBand, .rearRatio, .frontMin, .frontCentre, .frontMax, .rearMin, .rearCentre, .rearMax, .curve0, .curve1,
    .curve2, .curve3, .curve4, .reversePercent, .punch, .dragStrength, .gateTime, .driveStall, .assistDuty,
    .shiftThreshold, .highPulse, .lowPulse, .digPulse, .startGear, .spoolCapacity, .countEdge, .lineReserve,
    .operationDuty, .winchRamp, .jamCurrent, .assistThreshold, .winchStall, .parkedScene, .turnThreshold, .brakeLevel,
    .reverseLevel]

/-- The indices of the eight outputs or patterns. -/
def indices8 : List (Fin 8) := [0, 1, 2, 3, 4, 5, 6, 7]

/-- The indices of the four slots or scenes. -/
def indices4 : List (Fin 4) := [0, 1, 2, 3]

/-- Every setting of the table. -/
def SettingId.list : List SettingId :=
  List.flatten [Func.list.map SettingId.binding, ScalarId.list.map SettingId.scalar,
    [SettingId.modeList, SettingId.sceneList], indices8.map SettingId.output, indices4.map SettingId.scene,
    indices8.map SettingId.pattern]

/-- The setting a number names, if the settings table holds the number. -/
def SettingId.ofNumber (n : Nat) : Option SettingId := SettingId.list.find? (fun i => i.number = n)

/-! ### Order and range -/

/-- The strict order of the four thresholds, each at least 50 mV above the next, limit being 3400 (R29). -/
def BsvSettings.ordered (b : BsvSettings) : Bool :=
  3450 ≤ b.warn && b.cut + 50 ≤ 3400 && b.storage + 50 ≤ b.cut

/-- The order of the cut threshold, the sag start and the sag end (R63). -/
def Settings.sagOrdered (w : Settings) : Bool :=
  w.bsv.cut ≤ w.bga.sagStart && w.bga.sagEnd + 100 ≤ w.bga.sagStart

/-- min < centre < max (R78). -/
def Axle.ordered (a : Axle) : Bool := a.min < a.centre && a.centre < a.max

/-- The five outputs do not decrease (R101). -/
def Curve.ordered (c : Curve) : Bool := c.p0 ≤ c.p1 && c.p1 ≤ c.p2 && c.p2 ≤ c.p3 && c.p3 ≤ c.p4

/-- The line reserve is at most half the spool capacity (R108). -/
def WncSettings.ordered (d : WncSettings) : Bool := d.lineReserve ≤ d.spoolCapacity / 2

/-- A pattern step obeys R138. -/
def PatternStep.legal (p : PatternStep) : Bool := p.level ≤ 255 && 1 ≤ p.duration && p.duration ≤ 50

/-- A pattern's step list obeys R138. -/
def patternLegal (l : List PatternStep) : Bool := 1 ≤ l.length && l.length ≤ 16 && l.all PatternStep.legal

/-- A binding is within its ranges (R155). -/
def Binding.legal (b : Binding) : Bool :=
  b.channel ≤ 12 && -100 ≤ b.trim && b.trim ≤ 100 && b.deadBand ≤ 100

/-- Every level of a scene is at most 255 (R135). -/
def SceneLevels.legal (c : SceneLevels) : Bool :=
  c.head ≤ 255 && c.tail ≤ 255 && c.brake ≤ 255 && c.reverse ≤ 255 && c.turnL ≤ 255 && c.turnR ≤ 255 &&
    c.roof ≤ 255 && c.beacon ≤ 255 && c.aux ≤ 255

/-- A scalar is within the fixed range of its row. -/
def Settings.scalarInRange (w : Settings) (x : ScalarId) : Bool :=
  x.row.lo ≤ w.scalar x && w.scalar x ≤ x.row.hi

/-- Every setting is within its range and every order of the settings table holds. -/
def Settings.legal (w : Settings) : Bool :=
  ScalarId.list.all w.scalarInRange && Func.list.all (fun f => (w.binding f).legal) &&
    w.ltc.outputs.toList.all (fun o => o.nominal ≤ 1000) && w.ltc.scenes.toList.all SceneLevels.legal &&
    w.ltc.patterns.toList.all patternLegal && w.bsv.ordered && w.sagOrdered && w.stc.front.ordered &&
    w.stc.rear.ordered && w.drc.curve.ordered && w.wnc.ordered

end Sys2Proof.Machine
end

