-- ==== Sys2Proof/Config.lean ====
section
/-! DEFINITION. What the spec leaves open, as constants with no body: nothing in Lean can evaluate them, so no proof can
lean on a value. A free value is one of them applied to the counter `State.free`, which every draw advances. -/

namespace Sys2Proof

/-- The free values of the model, one for each draw. Entries 4 to 6, 8 and 25 of the assumption log say where they are
used. -/
opaque Config.freeNat : Nat → Nat

/-- The settings that a RESET request reads from a slot whose programming has not ended (R169, entry 9). -/
opaque Config.freeSettings : Nat → Machine.Settings

/-- The bytes of a profile record over which its stored CRC-16 runs: R168 names the contents, the spec gives no layout
(entry 7). -/
opaque Config.profileBytes : Machine.Settings → List Byte

/-- The stored CRC-16 of a record that does not match its contents (R168, R172, entry 8). -/
opaque Config.freeCrc : Nat → Crc16

/-- A free natural number below `n`. -/
def Config.freeBelow (n k : Nat) : Nat := Config.freeNat k % n

/-- A free function command, −1000 to 1000 (section 4.1). -/
def Config.freeCommand (k : Nat) : Int := (Config.freeBelow 2001 k : Int) - 1000

/-- Free settings within the limits the spec sets: legal ones (R171). -/
def Config.freeLegalSettings (k : Nat) : Machine.Settings :=
  if (Config.freeSettings k).legal then Config.freeSettings k else Machine.Settings.defaults

end Sys2Proof
end

