-- ==== Sys2Proof/Syntax.lean ====
section
/-! DEFINITION. The commands of the block: one constructor for each row of spec/opcode_table.json, in the table's order,
with the operands its rule gives it. -/

namespace Sys2Proof

/-- The readings of one scan as the converters give them, before R20 limits each to its range: taps 1 to 4 in mV, the
three currents in 0.1 A. -/
structure Readings where
  tap1 : Int
  tap2 : Int
  tap3 : Int
  tap4 : Int
  pack : Int
  rail : Int
  winch : Int
  deriving DecidableEq, Repr

/-- An edge of WCH_ENC (R104). -/
inductive Edge where
  | rising
  | falling
  deriving DecidableEq, Repr

/-- The two rows that have a pit hold deadline (R1, R14). -/
inductive DeadlineRow where
  | drive
  | steer
  deriving DecidableEq, Repr

/-- One request block of a pit link batch (section 9.1): its FLAGS byte, its parameter bytes (PLEN is their number) and
whether it is the last block of its batch. Its CODE is the constructor. -/
structure Block where
  flags : Byte
  params : List Byte
  last : Bool
  deriving DecidableEq, Repr

/-- Why the receiver link discards a frame in progress (R149). -/
inductive ReceiverDiscard where
  | missingStopBit
  | badLength (len : Byte)
  deriving DecidableEq, Repr

/-- Why the pit link discards a frame (R158). -/
inductive PitDiscard where
  | missingStopBit
  | byteWhileTransmitting
  | badLength (len : Byte)
  | crcMismatch (body : List Byte) (low high : Byte)
  | notWholeBlocks (body : List Byte)
  deriving DecidableEq, Repr

/-- The operations and events of the part, one for each row of spec/opcode_table.json. -/
inductive Instr where
  | powerOnReset
  | brownoutReset
  | scanCompletion (r : Readings)
  | parkIdleTimerExpiry
  | servoRefreshExpiry
  | driveUpdateExpiry
  | gateTimerExpiry
  | shiftServoRefresh
  | shiftTravelTimerExpiry
  /-- The operand is the level of HOOK_HOME read at stage 2 of the update: true for active. -/
  | winchUpdateExpiry (hookHome : Bool)
  | backOffTimerExpiry
  | drumPulseArrival (edge : Edge)
  | hookHomeArrival
  | winchBoundaryTimerExpiry
  | pitHoldDeadlineExpiry (row : DeadlineRow)
  | lightStepExpiry
  /-- The operand is the frame from LEN to the CRC byte. -/
  | channelFrame (bytes : List Byte)
  | rxlByteGapTimeout
  | holdMarkExpiry
  | failsafeMarkExpiry
  | pitByteGapTimeout
  | replyTransmit
  | resetRequestEffect
  /-- The operand says whether the slot read back matches its CRC. -/
  | commitProgrammingEnd (verified : Bool)
  /-- The operand says whether the record read back matches its CRC. -/
  | packSaveEnd (verified : Bool)
  | reportStatus (b : Block)
  | requestSense (b : Block)
  | identify (b : Block)
  | claim (b : Block)
  | release (b : Block)
  | setDrive (b : Block)
  | setSteer (b : Block)
  | setGear (b : Block)
  | setScene (b : Block)
  | winchPayOut (b : Block)
  | winchHaulIn (b : Block)
  | winchHaulToTension (b : Block)
  | winchHome (b : Block)
  | winchAssistHaul (b : Block)
  | winchFreespool (b : Block)
  | winchStop (b : Block)
  | abort (b : Block)
  | readSetting (b : Block)
  | writeSetting (b : Block)
  | selectProfile (b : Block)
  | commitProfile (b : Block)
  | loadDefaults (b : Block)
  | park (b : Block)
  | reset (b : Block)
  | receiverFrameDiscard (why : ReceiverDiscard)
  | pitFrameDiscard (why : PitDiscard)
  | unknownCode (code : Byte) (b : Block)
  deriving DecidableEq, Repr

end Sys2Proof
end

