-- ==== Sys2Proof/Machine/State.lean ====
section
/-! DEFINITION. The state of the ten blocks as plain data, the queue of waiting commands, and the state right after
reset. Timers are held as stopped or running (assumption log, entry 2). Quantities are in the spec's units (section
4.1): permille, 0.1 A, mV, µs, ms, pulses, mA. -/

namespace Sys2Proof.Machine

/-! ### AU (chapter 1) -/

/-- AUTO reasons (R1). -/
inductive AutoReason where
  | failsafe
  | assist
  deriving DecidableEq, Repr

/-- The holder of an authority row; AUTO always carries its reason and no other holder does (R1). -/
inductive Holder where
  | radio
  | pit
  | auto (reason : AutoReason)
  | noParty
  deriving DecidableEq, Repr

/-- The pending holders that can arise (R1): RADIO, NONE, AUTO(ASSIST). -/
inductive PendingHolder where
  | radio
  | noParty
  | assist
  deriving DecidableEq, Repr

/-- The four rows of the authority table, in the order of R1 and R167. -/
inductive Row where
  | drive
  | steer
  | gear
  | winch
  deriving DecidableEq, Repr

/-- One row of the authority table (R1). `deadline` is set while the pit hold deadline runs. -/
structure AuthRow where
  holder : Holder
  pending : Option PendingHolder
  deadline : Bool
  deriving DecidableEq, Repr

/-- Kinds of the DRIVE entry (R2). -/
inductive DriveKind where
  | command
  | fullBrake
  | assist
  deriving DecidableEq, Repr

/-- The DRIVE entry of the control image (R2). -/
structure DriveEntry where
  kind : DriveKind
  throttle : Int
  deriving DecidableEq, Repr

/-- The STEER entry of the control image (R2). -/
structure SteerEntry where
  steer : Int
  hold : Bool
  mode : SteerMode
  deriving DecidableEq, Repr

/-- Kinds of the WINCH entry (R2). -/
inductive WinchKind where
  | speed
  | operation
  | freespool
  | hold
  deriving DecidableEq, Repr

/-- The WINCH entry of the control image (R2). -/
structure WinchEntry where
  kind : WinchKind
  speed : Int
  deriving DecidableEq, Repr

/-- The control image (R2). An empty requested gear is `none`. -/
structure ControlImage where
  drive : DriveEntry
  steer : SteerEntry
  gear : Option Gear
  winch : WinchEntry
  deriving DecidableEq, Repr

/-- The Authority Unit: its table, the winch boundary timer (R6) and the control image. -/
structure Authority where
  drive : AuthRow
  steer : AuthRow
  gear : AuthRow
  winch : AuthRow
  winchTimer : Bool
  image : ControlImage
  deriving DecidableEq, Repr

/-! ### RXL (chapter 8) -/

/-- Link states, in the order of R151. -/
inductive LinkState where
  | absent
  | live
  | hold
  | lost
  | recovering
  deriving DecidableEq, Repr

/-- Switch positions 0, 1 and 2 (R156). -/
abbrev SwitchPos := Fin 3

/-- The six function commands as last published; `none` is "not live" (R151, R154). -/
structure Commands where
  throttle : Option Int
  steer : Option Int
  steerMode : Option SwitchPos
  gear : Option SwitchPos
  winch : Option Int
  lights : Option SwitchPos
  deriving DecidableEq, Repr

/-- A running gap timer: the failsafe time it was started with and whether its hold mark has passed (R152). -/
structure GapTimer where
  failsafeTime : Nat
  holdPassed : Bool
  deriving DecidableEq, Repr

/-- A frame assembler: hunting, or assembling with the bytes so far (R149, R158, entry 11). -/
inductive Assembler where
  | hunting
  | assembling (got : List Byte)
  deriving DecidableEq, Repr

/-- The Receiver Link interface (R151). -/
structure Receiver where
  link : LinkState
  slots : List (Option Nat)
  channels : Nat
  published : Commands
  lastCounter : Option Nat
  run : Nat
  gap : Option GapTimer
  assembler : Assembler
  deriving DecidableEq, Repr

/-! ### BSV (chapter 2) -/

/-- Protection stages, in the order of section 2.3. -/
inductive Stage where
  | ident
  | normal
  | warn
  | limit
  | cut
  | shutdown
  | fault
  deriving DecidableEq, Repr

/-- Power states (R38 to R46). -/
inductive PowerState where
  | active
  | parked
  | shutdown
  deriving DecidableEq, Repr

/-- Reset causes (R47). -/
inductive ResetCause where
  | powerOn
  | brownout
  | request
  deriving DecidableEq, Repr

/-- What the scan interval of the next scan completion is (R20): 4 ms, 100 ms, or the first after a wake. -/
inductive ScanPace where
  | four
  | hundred
  | afterWake
  deriving DecidableEq, Repr

/-- The Battery Supervisor. `charge` is the energy accumulator in 0.1 A·ms, `parkTimer` the park time in minutes the
running timer was started with. -/
structure Battery where
  vRaw : Four Nat
  vComp : Four (Option Nat)
  cellCount : Nat
  minComp : Nat
  minRaw : Nat
  packCurrent : Nat
  railCurrent : Nat
  winchCurrent : Nat
  stage : Stage
  identScans : Nat
  warnRun : Nat
  limitRun : Nat
  cutRun : Nat
  recoveryRun : Nat
  storageRun : Nat
  gateWarned : Bool
  gateCrossed : Bool
  charge : Nat
  identityCells : Nat
  identityAverage : Nat
  power : PowerState
  parkTimer : Option Nat
  nextScan : ScanPace
  resetCause : ResetCause
  pwrHold : Bool
  railEn : Bool
  deriving DecidableEq, Repr

/-! ### BGA (chapter 3) -/

/-- State of a budget row (R60). -/
inductive GrantState where
  | full
  | partly
  | starved
  deriving DecidableEq, Repr

/-- One row of the budget table (R49). `passDemand` is the demand the latest pass used (R60, R65). -/
structure BudgetRow where
  demand : Nat
  passDemand : Nat
  rank : Nat
  protectedGrant : Nat
  grant : Nat
  state : GrantState
  deriving DecidableEq, Repr

/-- The Budget Arbiter (R49) with the figures of its latest pass (R65). -/
structure Budget where
  steer : BudgetRow
  drive : BudgetRow
  winch : BudgetRow
  lights : BudgetRow
  stagePercent : Nat
  sagFactor : Nat
  available : Nat
  remaining : Nat
  assistRanks : Bool
  deriving DecidableEq, Repr

/-! ### STC (chapter 4) -/

/-- The Steering Controller (R66), with the interval of the running refresh timer (R67) and the pulses of the latest
refresh (R79, R83). `unpulsed` says that no pulse has begun since the reset, or since RAIL_EN was asserted again at a
wake (R79, R80); `shownRestraint` is the assist restraint as it stood at the latest refresh (R83). -/
structure Steering where
  active : SteerMode
  pendingMode : Option SteerMode
  front : Int
  rear : Int
  frontTarget : Int
  rearTarget : Int
  overload : Bool
  restraint : Bool
  published : Int
  interval : Nat
  frontPulse : Option Nat
  rearPulse : Option Nat
  unpulsed : Bool
  shownRestraint : Bool
  deriving DecidableEq, Repr

/-! ### DRC (chapter 5) -/

/-- Direction states, in the order of R84. -/
inductive DirState where
  | neutral
  | forward
  | brake
  | gate
  | reverse
  deriving DecidableEq, Repr

/-- Bridge actions of the drive (R92). -/
inductive DriveBridge where
  | driveForward
  | driveReverse
  | brake (strength : Nat)
  | opened
  deriving DecidableEq, Repr

/-- Whether the pulse setting of each gear has been changed since the previous shift pulse (R99). -/
structure GearMarks where
  high : Bool
  low : Bool
  dig : Bool
  deriving DecidableEq, Repr

/-- What REPORT STATUS shows of the drive, as of the latest drive update (R102, entry 38). -/
structure DriveShown where
  armed : Bool
  armCount : Nat
  dir : DirState
  gateRuns : Bool
  requested : Nat
  present : Nat
  grant : Nat
  cap : Nat
  brakeFlag : Bool
  reverseFlag : Bool
  deriving DecidableEq, Repr

/-- What REPORT STATUS shows of the transmission, as of the latest shift servo refresh (R102, entry 38). -/
structure ShiftShown where
  gear : Gear
  pendingGear : Option Gear
  travel : Bool
  deriving DecidableEq, Repr

/-- The Drive Controller (R84). `gateTimer` holds the gate time the running timer was started with. `unpulsed` says that no
shift pulse has begun since the reset, or since RAIL_EN was asserted again at a wake (R99, R100). The last two fields are
what REPORT STATUS shows (R102). -/
structure Drive where
  armed : Bool
  armCount : Nat
  dir : DirState
  gateTimer : Option Nat
  requested : Nat
  present : Nat
  grant : Nat
  cap : Nat
  bridge : DriveBridge
  brakeFlag : Bool
  reverseFlag : Bool
  neutralCount : Nat
  gear : Gear
  pendingGear : Option Gear
  travel : Bool
  shiftPulse : Option Nat
  pulseChanged : GearMarks
  unpulsed : Bool
  shownDrive : DriveShown
  shownShift : ShiftShown
  deriving DecidableEq, Repr

/-! ### WNC (chapter 6) -/

/-- Winch modes, in the order of R103. -/
inductive WinchMode where
  | hold
  | driven
  | operation
  | freespool
  | jammed
  deriving DecidableEq, Repr

/-- Directions of the drum. -/
inductive WinchDir where
  | out
  | inward
  deriving DecidableEq, Repr

/-- Bridge actions of the winch (R111). -/
inductive WinchBridge where
  | windOut
  | windIn
  | brake
  | opened
  deriving DecidableEq, Repr

/-- Kinds of winch operation, in the order of R116. -/
inductive OpKind where
  | payOut
  | haulIn
  | haulToTension
  | home
  | assistHaul
  deriving DecidableEq, Repr

/-- The operation record (R116). `tension` and `settle` belong to HAUL_TO_TENSION. `starvedFor` is the time in ms from
the first update of the present starvation to the latest update (starved-since, entry 32). -/
structure OpRecord where
  kind : OpKind
  target : Nat
  moved : Nat
  tension : Nat
  settle : Nat
  run : Nat
  immediate : Bool
  reserveNoted : Bool
  retries : Nat
  recovered : Nat
  recoveryAwaited : Bool
  starvedFor : Option Nat
  deriving DecidableEq, Repr

/-- What REPORT STATUS shows of the winch, as of the latest winch update or pulse (R131, entry 38). -/
structure WinchShown where
  mode : WinchMode
  position : Option Nat
  remaining : Option Nat
  reserveWarned : Bool
  hookHome : Bool
  requested : Nat
  present : Nat
  grant : Nat
  cap : Nat
  stallTime : Nat
  backOff : Bool
  record : Option OpRecord
  deriving DecidableEq, Repr

/-- The Winch Controller (R103). `position` is `some` while the flag is KNOWN and `none` while it is UNKNOWN; `capacity`
and `edge` are the spool capacity and the count edge in force (R104, R108); `shown` is what REPORT STATUS shows (R131). -/
structure Winch where
  mode : WinchMode
  position : Option Nat
  reserveWarned : Bool
  record : Option OpRecord
  requested : Nat
  present : Nat
  drivenDir : WinchDir
  requestedDir : WinchDir
  stopMark : Bool
  hookHome : Bool
  bridge : WinchBridge
  grant : Nat
  cap : Nat
  stallTime : Nat
  backOff : Bool
  pulseSinceScan : Bool
  capacity : Nat
  edge : CountEdge
  shown : WinchShown
  deriving DecidableEq, Repr

/-! ### LTC (chapter 7) -/

/-- Overlays, in the priority order of R140, and OFF (R133). -/
inductive Overlay where
  | fault
  | cut
  | hazard
  | warn
  | turn
  | brake
  | reverse
  | beacon
  | scene
  | off
  deriving DecidableEq, Repr

/-- A playback position (R139). -/
structure Playback where
  index : Nat
  shown : Nat
  deriving DecidableEq, Repr

/-- What a light pin does (R132). -/
inductive LightPin where
  | released
  | pwm (level : Nat)
  | on
  deriving DecidableEq, Repr

/-- What LTC holds of one output (R133). -/
structure LightOut where
  overlay : Overlay
  playback : Option Playback
  selected : Nat
  driven : Nat
  pin : LightPin
  deriving DecidableEq, Repr

/-- The Light Controller (R133), the demand it last posted, the scene and the held position as of the latest light step
(R148), and the pattern-written marks (R139). -/
structure Lights where
  scene : Fin 4
  heldPos : Option SwitchPos
  leftTurn : Bool
  rightTurn : Bool
  outs : Eight LightOut
  grant : Nat
  signalSum : Nat
  ambientSum : Nat
  demand : Nat
  stepScene : Fin 4
  stepPos : Option SwitchPos
  patternWritten : Eight Bool
  deriving DecidableEq, Repr

/-! ### PLI (chapter 9) -/

/-- The codes of the sense key table (section 9.6), with `clear` for key NONE and no code. -/
inductive SenseKind where
  | clear
  | hookHome
  | lineReserve
  | identifying
  | inMotion
  | positionUnknown
  | assistActive
  | winchJammedState
  | storeBusy
  | unknownCode
  | badParameter
  | settingOrder
  | settingInUse
  | radioActive
  | autoHeld
  | notHolder
  | radioTakeover
  | byRequest
  | lineEnd
  | tensionNotReached
  | budgetWithdrawn
  | stageCut
  | winchJammed
  | storeWriteFailed
  | resetOccurred
  | packChanged
  | defaultsLoaded
  deriving DecidableEq, Repr

/-- A sense (R164). -/
structure Sense where
  kind : SenseKind
  residualValid : Bool
  deferred : Bool
  more : Bool
  residual : Nat
  deriving DecidableEq, Repr

/-- Attention entries, in the order of R165. -/
inductive Attention where
  | resetOccurred
  | packChanged
  | defaultsLoaded
  deriving DecidableEq, Repr

/-- Statuses of a reply entry (section 9.1). -/
inductive Status where
  | good
  | check
  | busy
  | skipped
  deriving DecidableEq, Repr

/-- A reply entry (section 9.1). -/
structure ReplyEntry where
  code : Byte
  status : Status
  data : List Byte
  deriving DecidableEq, Repr

/-- A reply that is ready; `owed` marks an owed reply, which goes first (R158). -/
structure Reply where
  entries : List ReplyEntry
  owed : Bool
  deriving DecidableEq, Repr

/-- The batch in progress: the entries formed, whether a block was not GOOD (R161), and whether a reply was owed when
its frame completed (R162). -/
structure Batch where
  entries : List ReplyEntry
  stopped : Bool
  restricted : Bool
  deriving DecidableEq, Repr

/-- The owed-reply record (R159). -/
structure Owed where
  entries : List ReplyEntry
  code : Byte
  deriving DecidableEq, Repr

/-- The deferred result (R159, R163). -/
structure Deferred where
  source : Byte
  sense : Sense
  moved : Nat
  recovered : Nat
  more : Bool
  deriving DecidableEq, Repr

/-- The Pit Link interface (R158, R159). `lastSent` is the frame last put on PIT_TX; `resetAwaited` says that the last
byte of a GOOD RESET reply has been transmitted (R161). The pit hold deadlines stand in the authority rows. -/
structure PitLink where
  assembler : Assembler
  batch : Option Batch
  owed : Option Owed
  sense : Sense
  attention : List Attention
  deferred : Option Deferred
  ready : List Reply
  lastSent : List Byte
  resetAwaited : Bool
  deriving DecidableEq, Repr

/-! ### PST (chapter 10) -/

/-- A profile record of the array: one whose stored CRC matches its contents, or one whose stored CRC does not (R168,
entry 8). -/
inductive StoredProfile where
  | valid (contents : Settings)
  | invalid (crc : Crc16)
  deriving DecidableEq, Repr

/-- The contents of the pack record (R35, R168). An UNKNOWN position is `none`. -/
structure PackRecord where
  cellCount : Nat
  average : Nat
  used : Nat
  position : Option Nat
  active : Fin 4
  deriving DecidableEq, Repr

/-- The pack record of the array (R168). -/
inductive StoredPack where
  | absent
  | valid (r : PackRecord)
  | invalid
  deriving DecidableEq, Repr

/-- The program engine (R172): IDLE, or PROGRAMMING with what it programs. -/
inductive Engine where
  | idle
  | commit (slot : Fin 4) (contents : Settings)
  | pack (contents : PackRecord)
  deriving DecidableEq, Repr

/-- The pattern staging list (R170). -/
structure Staging where
  pattern : Fin 8
  count : Nat
  steps : List PatternStep
  deriving DecidableEq, Repr

/-- The Profile Store (R168 to R173). -/
structure Store where
  slots : Four StoredProfile
  marks : Four Bool
  pack : StoredPack
  active : Fin 4
  working : Settings
  engine : Engine
  packPending : Bool
  staging : Option Staging
  deriving DecidableEq, Repr

/-- The state of the part. `free` is the model's own field: which free value of Config is drawn next (entry 3).
`pending` is the queue of waiting commands, oldest first. -/
structure State where
  rxl : Receiver
  au : Authority
  bsv : Battery
  bga : Budget
  stc : Steering
  drc : Drive
  wnc : Winch
  ltc : Lights
  pli : PitLink
  pst : Store
  free : Nat
  pending : List Instr
  deriving DecidableEq, Repr

/-- No command stops this part: the spec gives every row of the table an effect in every state (NOTES.md, Stops). The
type has no constructor, so that no meaning can answer with a fault; this is safe. -/
inductive Fault
  deriving DecidableEq, Repr

/-- Refusals. -/
inductive Refusal where
  /-- Raised by `exec` for a command that has no meaning yet; safe. No arm raises it now. -/
  | notModelled (mnemonic : String)
  deriving DecidableEq, Repr

/-! ### Reset values -/

/-- A row after any reset: holder NONE and the rest empty (R1). -/
def AuthRow.reset : AuthRow := ⟨.noParty, none, false⟩

/-- AU after any reset: the NONE entry for every row, requested mode FRONT (R1, R2). -/
def Authority.reset : Authority where
  drive := .reset
  steer := .reset
  gear := .reset
  winch := .reset
  winchTimer := false
  image := ⟨⟨.command, 0⟩, ⟨0, false, .front⟩, none, ⟨.hold, 0⟩⟩

/-- Every function not live (R151). -/
def Commands.notLive : Commands := ⟨none, none, none, none, none, none⟩

/-- RXL after any reset (R151). -/
def Receiver.reset : Receiver where
  link := .absent
  slots := List.replicate 12 none
  channels := 0
  published := .notLive
  lastCounter := none
  run := 0
  gap := none
  assembler := .hunting

/-- BSV after a power-on or brownout reset (R24, R48, entry 21); V_comp is empty until the first scan (R22, entry 54). -/
def Battery.reset (cause : ResetCause) : Battery where
  vRaw := .all 0
  vComp := .all none
  cellCount := 0
  minComp := 0
  minRaw := 0
  packCurrent := 0
  railCurrent := 0
  winchCurrent := 0
  stage := .ident
  identScans := 0
  warnRun := 0
  limitRun := 0
  cutRun := 0
  recoveryRun := 0
  storageRun := 0
  gateWarned := false
  gateCrossed := false
  charge := 0
  identityCells := 0
  identityAverage := 0
  power := .active
  parkTimer := none
  nextScan := .four
  resetCause := cause
  pwrHold := true
  railEn := true

/-- A budget row after any reset, with its normal rank (R49, R59). -/
def BudgetRow.reset (rank : Nat) : BudgetRow := ⟨0, 0, rank, 0, 0, .full⟩

/-- BGA after any reset (R49, R65). -/
def Budget.reset : Budget where
  steer := .reset 1
  drive := .reset 2
  winch := .reset 3
  lights := .reset 4
  stagePercent := 0
  sagFactor := 0
  available := 0
  remaining := 0
  assistRanks := false

/-- STC after any reset; the refresh timer starts with the refresh period setting (R66, R67). -/
def Steering.reset (w : Settings) : Steering where
  active := .front
  pendingMode := none
  front := 0
  rear := 0
  frontTarget := 0
  rearTarget := 0
  overload := false
  restraint := false
  published := 0
  interval := w.stc.refreshPeriod
  frontPulse := none
  rearPulse := none
  unpulsed := true
  shownRestraint := false

/-- DRC after any reset; the present gear is the start gear of the working copy (R84). Until the first drive update and
the first shift servo refresh, REPORT STATUS shows these values (entry 41). -/
def Drive.reset (w : Settings) : Drive where
  armed := false
  armCount := 0
  dir := .neutral
  gateTimer := none
  requested := 0
  present := 0
  grant := 0
  cap := 0
  bridge := .opened
  brakeFlag := false
  reverseFlag := false
  neutralCount := 0
  gear := w.drc.startGear
  pendingGear := none
  travel := false
  shiftPulse := none
  pulseChanged := ⟨false, false, false⟩
  unpulsed := true
  shownDrive := ⟨false, 0, .neutral, false, 0, 0, 0, 0, false, false⟩
  shownShift := ⟨w.drc.startGear, none, false⟩

/-- WNC after a power-on or brownout reset, with the line position that R107 restores (R103). Until the first winch update
or pulse, REPORT STATUS shows these values (entry 41). -/
def Winch.reset (w : Settings) (position : Option Nat) : Winch where
  mode := .hold
  position := position
  reserveWarned := false
  record := none
  requested := 0
  present := 0
  drivenDir := .out
  requestedDir := .out
  stopMark := false
  hookHome := false
  bridge := .opened
  grant := 0
  cap := 0
  stallTime := 0
  backOff := false
  pulseSinceScan := false
  capacity := w.wnc.spoolCapacity
  edge := w.wnc.countEdge
  shown := ⟨.hold, position, position.map fun p => w.wnc.spoolCapacity - p, false, false, 0, 0, 0, 0, 0, false, none⟩

/-- An output after any reset (R133). -/
def LightOut.reset : LightOut := ⟨.off, none, 0, 0, .released⟩

/-- LTC after any reset (R133). -/
def Lights.reset : Lights where
  scene := 0
  heldPos := none
  leftTurn := false
  rightTurn := false
  outs := .all .reset
  grant := 0
  signalSum := 0
  ambientSum := 0
  demand := 0
  stepScene := 0
  stepPos := none
  patternWritten := .all false

/-- The clear sense (R164). -/
def Sense.cleared : Sense := ⟨.clear, false, false, false, 0⟩

/-- PLI after any reset, with the given attention list (R158, R159, R165). -/
def PitLink.reset (attention : List Attention) : PitLink where
  assembler := .hunting
  batch := none
  owed := none
  sense := .cleared
  attention := attention
  deferred := none
  ready := []
  lastSent := []
  resetAwaited := false

/-- The array as the part leaves the factory, after its first power-on check (R168, R169). -/
def Store.factory : Store where
  slots := .all (.valid .defaults)
  marks := .all false
  pack := .absent
  active := 0
  working := .defaults
  engine := .idle
  packPending := false
  staging := none

/-- The machine right after reset: a power-on reset of the part as it leaves the factory, with no command waiting. The
law `State.powerOn_reset` says that the power-on reset of Machine/Resets.lean leaves it as it is. -/
def State.reset : State where
  rxl := .reset
  au := .reset
  bsv := .reset .powerOn
  bga := .reset
  stc := .reset .defaults
  drc := .reset .defaults
  wnc := .reset .defaults none
  ltc := .reset
  pli := .reset [.resetOccurred]
  pst := .factory
  free := 0
  pending := []

end Sys2Proof.Machine
end

