-- ==== Sys2Proof/Machine/Operands.lean ====
section
/-! DEFINITION. The operands of the commands: multi-byte values and parameters of the pit link (section 9.1, R167, R170),
the request catalogue's codes and lengths, setting values as bytes, and the fields of a receiver frame (R149). -/

namespace Sys2Proof.Machine

/-! ### Numbers as bytes: little-endian, two's complement (section 9.1) -/

/-- A quantity as 1 byte. -/
def byteOf (n : Nat) : Byte := BitVec.ofNat 8 n

/-- A quantity as 2 bytes, low byte first. -/
def le16 (n : Nat) : List Byte := [byteOf (n % 256), byteOf (n / 256)]

/-- A signed quantity as 2 bytes in two's complement, low byte first. -/
def leSigned (v : Int) : List Byte := le16 (v % 65536).toNat

/-- Two bytes, low byte first, as a number. -/
def ofLe16 (lo hi : Byte) : Nat := lo.toNat + 256 * hi.toNat

/-- A 16-bit number read as two's complement. -/
def signed16 (n : Nat) : Int := if n < 32768 then (n : Int) else (n : Int) - 65536

/-- A byte read as two's complement. -/
def signed8 (b : Byte) : Int := if b.toNat < 128 then (b.toNat : Int) else (b.toNat : Int) - 256

/-- A flag as 1 byte, 0 or 1 (R166, R170). -/
def flagByte (b : Bool) : Byte := byteOf (flagNat b)

/-! ### Parameters of requests (R167). `none` is a length or a value the catalogue refuses. -/

/-- No parameter. -/
def noParams : List Byte → Option Unit
  | [] => some ()
  | _ => none

/-- One byte within a range. -/
def byteParam (lo hi : Nat) : List Byte → Option Nat
  | [b] => if lo ≤ b.toNat ∧ b.toNat ≤ hi then some b.toNat else none
  | _ => none

/-- One 2-byte number within a range. -/
def wordParam (lo hi : Nat) : List Byte → Option Nat
  | [a, b] => if lo ≤ ofLe16 a b ∧ ofLe16 a b ≤ hi then some (ofLe16 a b) else none
  | _ => none

/-- A function command, −1000 to 1000, in 2 bytes. -/
def commandParam : List Byte → Option Int
  | [a, b] => if -1000 ≤ signed16 (ofLe16 a b) ∧ signed16 (ofLe16 a b) ≤ 1000 then some (signed16 (ofLe16 a b)) else none
  | _ => none

/-- A row: 0 DRIVE, 1 STEER, 2 GEAR, 3 WINCH. -/
def Row.ofPlace : Nat → Option Row
  | 0 => some .drive
  | 1 => some .steer
  | 2 => some .gear
  | 3 => some .winch
  | _ => none

def rowParam : List Byte → Option Row
  | [b] => Row.ofPlace b.toNat
  | _ => none

/-- SET STEER: a steer and an optional mode. -/
def steerParam : List Byte → Option (Int × Option SteerMode)
  | [a, b] => (commandParam [a, b]).map fun v => (v, none)
  | [a, b, m] => match commandParam [a, b], SteerMode.ofPlace m.toNat with
    | some v, some mode => some (v, some mode)
    | _, _ => none
  | _ => none

def gearParam : List Byte → Option Gear
  | [b] => Gear.ofPlace b.toNat
  | _ => none

/-- A profile slot, a scene or another number 0 to 3 in 1 byte. -/
def fourParam : List Byte → Option (Fin 4)
  | [b] => sceneOf b.toNat
  | _ => none

/-- The parameters of WINCH HAUL TO TENSION. -/
structure TensionParams where
  allowance : Nat
  tension : Nat
  settle : Nat
  deriving DecidableEq, Repr

def tensionParam : List Byte → Option TensionParams
  | [a, b, c, d, k] => match wordParam 1 20000 [a, b], wordParam 10 400 [c, d], byteParam 1 100 [k] with
    | some allowance, some tension, some settle => some ⟨allowance, tension, settle⟩
    | _, _, _ => none
  | _ => none

/-- READ SETTING: a setting number of 2 bytes that the settings table holds. -/
def settingParam : List Byte → Option SettingId
  | [a, b] => SettingId.ofNumber (ofLe16 a b)
  | _ => none

/-- WRITE SETTING: a setting number that the table holds and a value of 1 to 14 bytes. -/
def settingValueParam : List Byte → Option (SettingId × List Byte)
  | a :: b :: value => if 1 ≤ value.length ∧ value.length ≤ 14 then
      (SettingId.ofNumber (ofLe16 a b)).map fun i => (i, value)
    else none
  | _ => none

/-- The IMMEDIATE flag: bit 0 of FLAGS, the other bits ignored (section 9.1). -/
def isImmediate (b : Block) : Bool := b.flags.getLsbD 0

/-! ### The request catalogue (R167) -/

/-- The requests of the catalogue. -/
inductive Request where
  | reportStatus
  | requestSense
  | identify
  | claim
  | release
  | setDrive
  | setSteer
  | setGear
  | setScene
  | winchPayOut
  | winchHaulIn
  | winchHaulToTension
  | winchHome
  | winchAssistHaul
  | winchFreespool
  | winchStop
  | abort
  | readSetting
  | writeSetting
  | selectProfile
  | commitProfile
  | loadDefaults
  | park
  | reset
  deriving DecidableEq, Repr

/-- The CODE of a request. -/
def Request.code : Request → Byte
  | .reportStatus => 0x01
  | .requestSense => 0x02
  | .identify => 0x03
  | .claim => 0x10
  | .release => 0x11
  | .setDrive => 0x20
  | .setSteer => 0x21
  | .setGear => 0x22
  | .setScene => 0x23
  | .winchPayOut => 0x30
  | .winchHaulIn => 0x31
  | .winchHaulToTension => 0x32
  | .winchHome => 0x33
  | .winchAssistHaul => 0x34
  | .winchFreespool => 0x35
  | .winchStop => 0x36
  | .abort => 0x37
  | .readSetting => 0x40
  | .writeSetting => 0x41
  | .selectProfile => 0x42
  | .commitProfile => 0x43
  | .loadDefaults => 0x44
  | .park => 0x50
  | .reset => 0x51

def Request.list : List Request :=
  [.reportStatus, .requestSense, .identify, .claim, .release, .setDrive, .setSteer, .setGear, .setScene, .winchPayOut,
    .winchHaulIn, .winchHaulToTension, .winchHome, .winchAssistHaul, .winchFreespool, .winchStop, .abort, .readSetting,
    .writeSetting, .selectProfile, .commitProfile, .loadDefaults, .park, .reset]

/-- The request a CODE names, if the catalogue holds it. -/
def Request.ofCode (c : Byte) : Option Request := Request.list.find? (fun r => r.code = c)

/-- The largest GOOD data of a request, in bytes. -/
def Request.largestData : Request → Nat
  | .reportStatus => 96
  | .requestSense => 5
  | .identify => 12
  | .winchPayOut => 3
  | .winchHaulIn => 3
  | .winchHaulToTension => 3
  | .winchHome => 3
  | .winchAssistHaul => 3
  | .readSetting => 34
  | _ => 0

/-- REPORT STATUS, REQUEST SENSE and IDENTIFY are exempt (R160). -/
def Request.exempt : Request → Bool
  | .reportStatus => true
  | .requestSense => true
  | .identify => true
  | _ => false

/-- The three requests that run while a reply is owed (R162). -/
def Request.runsWhileOwed : Request → Bool
  | .reportStatus => true
  | .requestSense => true
  | .abort => true
  | _ => false

/-- COMMIT PROFILE, SELECT PROFILE and LOAD DEFAULTS get BUSY while the engine programs (R160). -/
def Request.needsStore : Request → Bool
  | .selectProfile => true
  | .commitProfile => true
  | .loadDefaults => true
  | _ => false

/-! ### Setting values as bytes (R170, R171) -/

/-- The length in bytes of a setting's value; a pattern is written in parts and has none. -/
def SettingId.bytes : SettingId → Nat
  | .binding _ => 4
  | .scalar x => x.row.bytes
  | .modeList => 3
  | .output _ => 4
  | .scene _ => 9
  | .sceneList => 3
  | .pattern _ => 0

/-- A number in 1 or 2 bytes, little-endian. -/
def numberBytes (len n : Nat) : List Byte := if len = 1 then [byteOf n] else le16 n

/-- A number from 1 or 2 bytes, little-endian; `none` when the length differs. -/
def numberOf (len : Nat) : List Byte → Option Nat
  | [a] => if len = 1 then some a.toNat else none
  | [a, b] => if len = 2 then some (ofLe16 a b) else none
  | _ => none

def PatternStep.toBytes (p : PatternStep) : List Byte := [byteOf p.level, byteOf p.duration]

def SceneLevels.toList (c : SceneLevels) : List Nat :=
  [c.head, c.tail, c.brake, c.reverse, c.turnL, c.turnR, c.roof, c.beacon, c.aux]

/-- A setting's value as READ SETTING returns it (R170). -/
def settingBytes (w : Settings) : SettingId → List Byte
  | .binding f =>
    let b := w.binding f
    [byteOf b.channel, flagByte b.reverse, byteOf (b.trim % 256).toNat, byteOf b.deadBand]
  | .scalar x => numberBytes x.row.bytes (w.scalar x)
  | .modeList => [byteOf w.stc.modeList.at0.place, byteOf w.stc.modeList.at1.place, byteOf w.stc.modeList.at2.place]
  | .output i =>
    let o := w.ltc.outputs.get i
    byteOf o.role.place :: le16 o.nominal ++ [byteOf o.drive.place]
  | .scene i => (w.ltc.scenes.get i).toList.map byteOf
  | .sceneList => [byteOf w.ltc.sceneList.at0, byteOf w.ltc.sceneList.at1, byteOf w.ltc.sceneList.at2]
  | .pattern i => (w.ltc.patterns.get i).flatMap PatternStep.toBytes

/-- A binding from its 4 bytes, `none` outside the ranges of R155. -/
def bindingOf : List Byte → Option Binding
  | [c, r, t, d] =>
    let b : Binding := ⟨c.toNat, r.toNat = 1, signed8 t, d.toNat⟩
    if r.toNat ≤ 1 ∧ b.legal then some b else none
  | _ => none

def modeListOf : List Byte → Option (Three SteerMode)
  | [a, b, c] => match SteerMode.ofPlace a.toNat, SteerMode.ofPlace b.toNat, SteerMode.ofPlace c.toNat with
    | some x, some y, some z => some ⟨x, y, z⟩
    | _, _, _ => none
  | _ => none

def outputOf : List Byte → Option OutputSetting
  | [r, a, b, d] => match Role.ofPlace r.toNat, DriveType.ofPlace d.toNat with
    | some role, some drive => if ofLe16 a b ≤ 1000 then some ⟨role, ofLe16 a b, drive⟩ else none
    | _, _ => none
  | _ => none

def sceneLevelsOf : List Byte → Option SceneLevels
  | [a, b, c, d, e, f, g, h, i] =>
    some ⟨a.toNat, b.toNat, c.toNat, d.toNat, e.toNat, f.toNat, g.toNat, h.toNat, i.toNat⟩
  | _ => none

def sceneListOf : List Byte → Option (Three (Fin 4))
  | [a, b, c] => match sceneOf a.toNat, sceneOf b.toNat, sceneOf c.toNat with
    | some x, some y, some z => some ⟨x, y, z⟩
    | _, _, _ => none
  | _ => none

/-- The settings with one setting's value replaced by the value the bytes spell; `none` when the length or the range of
the settings table is not met (R170, step 1). A pattern is written in parts and is not written here. -/
def writeValue (w : Settings) (i : SettingId) (v : List Byte) : Option Settings :=
  match i with
  | .binding f => (bindingOf v).map fun b => w.setBinding f b
  | .scalar x => match numberOf x.row.bytes v with
    | some n => if x.row.lo ≤ n ∧ n ≤ x.row.hi then some (w.setScalar x n) else none
    | none => none
  | .modeList => (modeListOf v).map fun l => { w with stc := { w.stc with modeList := l } }
  | .output k => (outputOf v).map fun o => { w with ltc := { w.ltc with outputs := w.ltc.outputs.set k o } }
  | .scene k => (sceneLevelsOf v).map fun c => { w with ltc := { w.ltc with scenes := w.ltc.scenes.set k c } }
  | .sceneList => (sceneListOf v).map fun l => { w with ltc := { w.ltc with sceneList := l } }
  | .pattern _ => none

/-- One part of a pattern (R170): the first step's index, the step count of the whole list and the steps carried. -/
structure PatternPart where
  first : Nat
  count : Nat
  steps : List PatternStep
  deriving DecidableEq, Repr

/-- Steps from pairs of bytes, level then duration; `none` for a byte left over. -/
def stepsOf : List Byte → Option (List PatternStep)
  | [] => some []
  | [_] => none
  | l :: d :: rest => (stepsOf rest).map fun t => ⟨l.toNat, d.toNat⟩ :: t

/-- A pattern part from its bytes; `none` when R170 refuses its form or its length. -/
def patternPartOf : List Byte → Option PatternPart
  | f :: n :: rest =>
    if (f.toNat = 1 ∨ f.toNat = 7 ∨ f.toNat = 13) ∧ n.toNat ≤ 16 ∧ f.toNat ≤ n.toNat ∧
        rest.length = 2 * min 6 (n.toNat - f.toNat + 1) then
      (stepsOf rest).map fun steps => ⟨f.toNat, n.toNat, steps⟩
    else none
  | _ => none

/-- The settings with one pattern's step list replaced (R138). -/
def setPattern (w : Settings) (k : Fin 8) (l : List PatternStep) : Settings :=
  { w with ltc := { w.ltc with patterns := w.ltc.patterns.set k l } }

/-! ### The receiver frame (R149) -/

/-- The fields of a complete receiver frame from LEN to the CRC byte. -/
structure ReceiverFrame where
  checked : List Byte
  counter : Nat
  failsafe : Bool
  values : List Nat
  crc : Byte
  deriving DecidableEq, Repr

/-- LEN is odd and within 9 to 25 (R149). -/
def receiverLenOk (len : Byte) : Bool := len.toNat % 2 = 1 && 9 ≤ len.toNat && len.toNat ≤ 25

/-- Channel values from pairs of bytes, low byte first. -/
def channelValues : List Byte → List Nat
  | lo :: hi :: rest => ofLe16 lo hi :: channelValues rest
  | _ => []

/-- The fields of the bytes of a frame from LEN on; `none` when LEN is not good or the number of bytes is not LEN + 2,
which is no complete frame. -/
def receiverFrameOf : List Byte → Option ReceiverFrame
  | len :: hdr :: rest =>
    if receiverLenOk len && rest.length = len.toNat then
      some { checked := len :: hdr :: rest.dropLast
             counter := hdr.toNat % 16
             failsafe := hdr.getLsbD 7
             values := channelValues rest.dropLast
             crc := rest.getLastD 0 }
    else none
  | _ => none

end Sys2Proof.Machine
end

