-- ==== Sys2Proof/Machine/Frames.lean ====
section
/-! DEFINITION. The frames of the two links as bytes (R149, R158): request blocks of a body, the command each block is, and
the frame of a batch. -/

namespace Sys2Proof.Machine

/-! ### Request blocks and commands (section 9.1, R167) -/

/-- The command a request block of a catalogued CODE is. -/
def Request.command (r : Request) (b : Block) : Instr :=
  match r with
  | .reportStatus => .reportStatus b
  | .requestSense => .requestSense b
  | .identify => .identify b
  | .claim => .claim b
  | .release => .release b
  | .setDrive => .setDrive b
  | .setSteer => .setSteer b
  | .setGear => .setGear b
  | .setScene => .setScene b
  | .winchPayOut => .winchPayOut b
  | .winchHaulIn => .winchHaulIn b
  | .winchHaulToTension => .winchHaulToTension b
  | .winchHome => .winchHome b
  | .winchAssistHaul => .winchAssistHaul b
  | .winchFreespool => .winchFreespool b
  | .winchStop => .winchStop b
  | .abort => .abort b
  | .readSetting => .readSetting b
  | .writeSetting => .writeSetting b
  | .selectProfile => .selectProfile b
  | .commitProfile => .commitProfile b
  | .loadDefaults => .loadDefaults b
  | .park => .park b
  | .reset => .reset b

/-- The command a request block is: UNKNOWN_CODE for a CODE that the catalogue does not hold. -/
def blockCommand (code : Byte) (b : Block) : Instr :=
  match Request.ofCode code with
  | some r => r.command b
  | none => .unknownCode code b

/-- The CODE and the block of a command that is a request block; `none` for an event. -/
def commandBlock : Instr → Option (Byte × Block)
  | .reportStatus b => some (Request.reportStatus.code, b)
  | .requestSense b => some (Request.requestSense.code, b)
  | .identify b => some (Request.identify.code, b)
  | .claim b => some (Request.claim.code, b)
  | .release b => some (Request.release.code, b)
  | .setDrive b => some (Request.setDrive.code, b)
  | .setSteer b => some (Request.setSteer.code, b)
  | .setGear b => some (Request.setGear.code, b)
  | .setScene b => some (Request.setScene.code, b)
  | .winchPayOut b => some (Request.winchPayOut.code, b)
  | .winchHaulIn b => some (Request.winchHaulIn.code, b)
  | .winchHaulToTension b => some (Request.winchHaulToTension.code, b)
  | .winchHome b => some (Request.winchHome.code, b)
  | .winchAssistHaul b => some (Request.winchAssistHaul.code, b)
  | .winchFreespool b => some (Request.winchFreespool.code, b)
  | .winchStop b => some (Request.winchStop.code, b)
  | .abort b => some (Request.abort.code, b)
  | .readSetting b => some (Request.readSetting.code, b)
  | .writeSetting b => some (Request.writeSetting.code, b)
  | .selectProfile b => some (Request.selectProfile.code, b)
  | .commitProfile b => some (Request.commitProfile.code, b)
  | .loadDefaults b => some (Request.loadDefaults.code, b)
  | .park b => some (Request.park.code, b)
  | .reset b => some (Request.reset.code, b)
  | .unknownCode code b => some (code, b)
  | .powerOnReset | .brownoutReset | .scanCompletion _ | .parkIdleTimerExpiry | .servoRefreshExpiry
  | .driveUpdateExpiry | .gateTimerExpiry | .shiftServoRefresh | .shiftTravelTimerExpiry | .winchUpdateExpiry _
  | .backOffTimerExpiry | .drumPulseArrival _ | .hookHomeArrival | .winchBoundaryTimerExpiry
  | .pitHoldDeadlineExpiry _ | .lightStepExpiry | .channelFrame _ | .rxlByteGapTimeout | .holdMarkExpiry
  | .failsafeMarkExpiry | .pitByteGapTimeout | .replyTransmit | .resetRequestEffect | .commitProgrammingEnd _
  | .packSaveEnd _ | .receiverFrameDiscard _ | .pitFrameDiscard _ => none

/-! ### The body of a pit frame (R158) -/

/-- A request block as the line carries it. -/
structure RawBlock where
  code : Byte
  flags : Byte
  params : List Byte
  deriving DecidableEq, Repr

/-- A body as at most `n` whole request blocks with PLEN at most 16 and no bytes left over. -/
def splitBlocks : Nat → List Byte → Option (List RawBlock)
  | _, [] => some []
  | n + 1, c :: f :: k :: rest =>
    if k.toNat ≤ 16 ∧ k.toNat ≤ rest.length then
      (splitBlocks n (rest.drop k.toNat)).map fun l => ⟨c, f, rest.take k.toNat⟩ :: l
    else none
  | _, _ => none

/-- The blocks of a body: 1 to 4. A body has at least 2 bytes, so it has a block. -/
def bodyBlocks (body : List Byte) : Option (List RawBlock) := splitBlocks 4 body

/-- The commands of a batch, in order; the last block is marked. -/
def batchCommands : List RawBlock → List Instr
  | [] => []
  | [r] => [blockCommand r.code ⟨r.flags, r.params, true⟩]
  | r :: rest => blockCommand r.code ⟨r.flags, r.params, false⟩ :: batchCommands rest

/-- LEN of a pit frame is within 2 to 120 (R158). -/
def pitLenOk (len : Byte) : Bool := 2 ≤ len.toNat && len.toNat ≤ 120

/-- What a complete pit frame is: a discard, or the commands of its blocks (R158). -/
def pitFrameCommands (len : Byte) (body : List Byte) (lo hi : Byte) : List Instr :=
  if crcBytes (crc16 (len :: body)) ≠ [lo, hi] then [.pitFrameDiscard (.crcMismatch body lo hi)]
  else match bodyBlocks body with
    | some l => batchCommands l
    | none => [.pitFrameDiscard (.notWholeBlocks body)]

/-! ### Frames written -/

/-- A body framed: START, LEN, body, CRC-16 over LEN and the body, low byte first (section 9.1). -/
def frameBody (body : List Byte) : List Byte :=
  0x5C :: byteOf body.length :: body ++ crcBytes (crc16 (byteOf body.length :: body))

/-- A command's request block as bytes; an event has none. -/
def blockBytes (i : Instr) : List Byte :=
  match commandBlock i with
  | some (code, b) => code :: b.flags :: byteOf b.params.length :: b.params
  | none => []

/-- The frame of a batch of commands. -/
def batchFrame (l : List Instr) : List Byte := frameBody (l.flatMap blockBytes)

/-- The bytes from LEN to the CRC byte of a receiver frame (section 8.1). -/
def receiverBytes (hdr : Byte) (values : List Nat) : List Byte :=
  let body := byteOf (1 + 2 * values.length) :: hdr :: values.flatMap le16
  body ++ [crc8 body]

end Sys2Proof.Machine
end

