-- ==== Sys2Proof/Decode.lean ====
section
/-! DEFINITION. How bytes on the two lines become commands: the frame assemblers of R149 and R158, byte by byte, for bytes
with a stop bit and without a gap (the other discards are commands of their own, entry 11). The opcode table gives no
row any bits, so no word spells a command. -/

namespace Sys2Proof

/-- The table gives bits to no row: no word spells a command (entry 51). -/
def decodeTableWord (_nbits _w : Nat) : Option Instr := none

namespace Machine

/-- The receiver link's assembler at one byte (R149): sync 0xB5, LEN, then LEN + 1 further bytes. -/
def receiverByte (a : Assembler) (b : Byte) : Assembler × List Instr :=
  match a with
  | .hunting => (if b = 0xB5 then .assembling [] else .hunting, [])
  | .assembling [] =>
    if receiverLenOk b then (.assembling [b], []) else (.hunting, [.receiverFrameDiscard (.badLength b)])
  | .assembling (len :: got) =>
    if got.length = len.toNat then (.hunting, [.channelFrame (len :: (got ++ [b]))])
    else (.assembling (len :: (got ++ [b])), [])

/-- The commands of a stream of bytes on RXL_IN, from an assembler's state. -/
def readReceiver : Assembler → List Byte → List Instr
  | _, [] => []
  | a, b :: rest => (receiverByte a b).2 ++ readReceiver (receiverByte a b).1 rest

/-- The pit link's assembler at one byte (R158): START 0x5C, LEN, LEN body bytes, two CRC bytes. -/
def pitByte (a : Assembler) (b : Byte) : Assembler × List Instr :=
  match a with
  | .hunting => (if b = 0x5C then .assembling [] else .hunting, [])
  | .assembling [] => if pitLenOk b then (.assembling [b], []) else (.hunting, [.pitFrameDiscard (.badLength b)])
  | .assembling (len :: got) =>
    if got.length = len.toNat + 1 then
      (.hunting, pitFrameCommands len (got.take len.toNat) (got.getD len.toNat 0) b)
    else (.assembling (len :: (got ++ [b])), [])

/-- The commands of a stream of bytes on PIT_RX, from an assembler's state. -/
def readPit : Assembler → List Byte → List Instr
  | _, [] => []
  | a, b :: rest => (pitByte a b).2 ++ readPit (pitByte a b).1 rest

end Machine

end Sys2Proof
end

