-- ==== Sys2Proof/Machine/Ops.lean ====
section
/-! DEFINITION. The operations that several commands share: one block replaced in the state, a free value drawn, results
placed by PLI, pack record saves, the park idle timer, wake and the entry to PARKED, a change of holder, the row
boundaries, and the ending of a winch operation. -/

namespace Sys2Proof.Machine

/-! ### One block replaced -/

def State.setRxl (s : State) (b : Receiver) : State := { s with rxl := b }
def State.setAu (s : State) (b : Authority) : State := { s with au := b }
def State.setBsv (s : State) (b : Battery) : State := { s with bsv := b }
def State.setBga (s : State) (b : Budget) : State := { s with bga := b }
def State.setStc (s : State) (b : Steering) : State := { s with stc := b }
def State.setDrc (s : State) (b : Drive) : State := { s with drc := b }
def State.setWnc (s : State) (b : Winch) : State := { s with wnc := b }
def State.setLtc (s : State) (b : Lights) : State := { s with ltc := b }
def State.setPli (s : State) (b : PitLink) : State := { s with pli := b }
def State.setPst (s : State) (b : Store) : State := { s with pst := b }
def State.setPending (s : State) (q : List Instr) : State := { s with pending := q }

/-- One free value has been drawn (entry 3). -/
def State.drawn (s : State) : State := { s with free := s.free + 1 }

/-- The settings in use. -/
abbrev State.w (s : State) : Settings := s.pst.working

/-- `a ÷ b`, rounded up. -/
def ceilDiv (a b : Nat) : Nat := (a + b - 1) / b

/-! ### PLI: sense, replies, deferred results, attention (R162 to R165) -/

/-- A sense with no residual and its flags clear. -/
def Sense.of (k : SenseKind) : Sense := ⟨k, false, false, false, 0⟩

/-- The key of a sense code (section 9.6). -/
def SenseKind.key : SenseKind → Nat
  | .clear | .hookHome | .lineReserve => 0
  | .identifying | .inMotion | .positionUnknown | .assistActive | .winchJammedState | .storeBusy => 1
  | .unknownCode | .badParameter | .settingOrder | .settingInUse => 2
  | .radioActive | .autoHeld | .notHolder => 3
  | .radioTakeover | .byRequest => 4
  | .lineEnd | .tensionNotReached | .budgetWithdrawn | .stageCut => 5
  | .winchJammed | .storeWriteFailed => 6
  | .resetOccurred | .packChanged | .defaultsLoaded => 7

/-- The place of a sense code in its key's list, from 1; 0 for no code (section 9.6). -/
def SenseKind.code : SenseKind → Nat
  | .clear => 0
  | .hookHome | .identifying | .unknownCode | .radioActive | .radioTakeover | .lineEnd | .winchJammed
  | .resetOccurred => 1
  | .lineReserve | .inMotion | .badParameter | .autoHeld | .byRequest | .tensionNotReached | .storeWriteFailed
  | .packChanged => 2
  | .positionUnknown | .settingOrder | .notHolder | .budgetWithdrawn | .defaultsLoaded => 3
  | .assistActive | .settingInUse | .stageCut => 4
  | .winchJammedState => 5
  | .storeBusy => 6

/-- The five bytes of a sense (R164). -/
def Sense.toBytes (e : Sense) : List Byte :=
  [byteOf e.kind.key, byteOf e.kind.code, byteOf (flagNat e.residualValid + 2 * flagNat e.deferred + 4 * flagNat e.more)]
    ++ le16 (if e.residualValid then e.residual else 0)

/-- The code with which an attention entry is reported (R165). -/
def Attention.kind : Attention → SenseKind
  | .resetOccurred => .resetOccurred
  | .packChanged => .packChanged
  | .defaultsLoaded => .defaultsLoaded

/-- An entry queued; one of its kind already present leaves the list as it is (R165). -/
def queueAttention (l : List Attention) (a : Attention) : List Attention := if a ∈ l then l else l ++ [a]

/-- A result reaches the deferred slot: it fills an empty slot, and sets the more flag of a filled one (R163). -/
def placeDeferred (slot : Option Deferred) (d : Deferred) : Option Deferred :=
  match slot with
  | none => some { d with more := false }
  | some held => some { held with more := true }

/-- The owed work has ended: the owing entry completes the owed batch, the reply is ready, and the record is emptied
(R162). Without an owed reply nothing changes. -/
def PitLink.completeOwed (p : PitLink) (status : Status) (data : List Byte) : PitLink :=
  match p.owed with
  | none => p
  | some o => { p with owed := none, ready := p.ready ++ [⟨o.entries ++ [⟨o.code, status, data⟩], true⟩] }

/-- The owed work has ended with a CHECK: the sense record takes its sense as well (R162, R164). -/
def PitLink.completeOwedCheck (p : PitLink) (e : Sense) (tail : List Byte) : PitLink :=
  match p.owed with
  | none => p
  | some _ => { p.completeOwed .check (e.toBytes ++ tail) with sense := e }

/-! ### PST: pack record saves (R35, R172) -/

/-- What a pack record save takes at the moment programming begins (R35). -/
def State.packContents (s : State) : PackRecord where
  cellCount := s.bsv.identityCells
  average := s.bsv.identityAverage
  used := min 65535 (s.bsv.charge / 36000)
  position := s.wnc.position
  active := s.pst.active

/-- A pack record save begins. While it programs, the record does not match its CRC (entry 8). -/
def State.beginPackSave (s : State) : State :=
  s.setPst { s.pst with engine := .pack s.packContents, pack := .invalid, packPending := false }

/-- BSV requests a pack record save: none in FAULT; at once if the engine is IDLE; otherwise pending (R35). -/
def State.requestPackSave (s : State) : State :=
  if s.bsv.stage = .fault then s
  else if s.pst.engine = .idle then s.beginPackSave
  else s.setPst { s.pst with packPending := true }

/-! ### BSV: the park idle timer, PARKED and wake (R39, R42, R44) -/

/-- The timer's running state when it is started or restarted: a park time of 0 disables it (R39). -/
def parkPeriod (w : Settings) : Option Nat := if w.bsv.parkTime = 0 then none else some w.bsv.parkTime

/-- The park idle timer is started or restarted from its full period; it runs only in ACTIVE and outside IDENT (R39). -/
def State.restartParkTimer (s : State) : State :=
  if s.bsv.power = .active ∧ s.bsv.stage ≠ .ident then s.setBsv { s.bsv with parkTimer := parkPeriod s.w } else s

/-- BSV's part of the entry to PARKED (R42). -/
def Battery.parked (b : Battery) : Battery :=
  { b with power := .parked, railEn := false, parkTimer := none, cutRun := 0 }

/-- The entry to PARKED (R42). -/
def State.enterParked (s : State) : State := (s.setBsv s.bsv.parked).requestPackSave

/-- DRC is disarmed (R88). -/
def Drive.disarmed (d : Drive) : Drive := { d with armed := false, armCount := 0 }

/-- BSV's part of a wake (R44): the scan in progress is abandoned, RAIL_EN is asserted unless the stage is FAULT, and the
park idle timer starts. -/
def Battery.woken (b : Battery) (w : Settings) : Battery :=
  { b with power := .active, railEn := b.stage ≠ .fault, nextScan := .afterWake, parkTimer := parkPeriod w }

/-- STC's part of a wake: the next pulse is the first after it (R80). -/
def Steering.woken (b : Steering) : Steering := { b with unpulsed := true }

/-- DRC's part of a wake: it is disarmed, and the next shift pulse is the first after the wake (R88, R99, R100). -/
def Drive.woken (d : Drive) : Drive := { d.disarmed with unpulsed := true }

/-- A wake source is taken: in PARKED the part returns to ACTIVE, DRC is disarmed, and the servos begin again; elsewhere it
has no effect (R44, R45, R80, R88, R100). -/
def State.wake (s : State) : State :=
  if s.bsv.power = .parked then ((s.setBsv (s.bsv.woken s.w)).setStc s.stc.woken).setDrc s.drc.woken else s

/-- The remaining line, while the position is KNOWN (R108). -/
def Winch.remaining (b : Winch) : Option Nat := b.position.map fun p => b.capacity - p

/-- The winch as REPORT STATUS shows it until the next winch update or pulse (R131). -/
def Winch.showNow (b : Winch) : Winch :=
  { b with shown := ⟨b.mode, b.position, b.remaining, b.reserveWarned, b.hookHome, b.requested, b.present, b.grant, b.cap,
      b.stallTime, b.backOff, b.record⟩ }

/-- WNC's mode is HOLD and it holds no operation record: "the winch in HOLD" of R41, R103 and R167 (entry 27). -/
def State.winchInHold (s : State) : Bool := s.wnc.mode = .hold && s.wnc.record.isNone

/-- WNC holds a record of kind ASSIST_HAUL. -/
def Winch.assisting (b : Winch) : Bool :=
  match b.record with
  | some r => r.kind = .assistHaul
  | none => false

/-- The truck stands: DRC's direction state is NEUTRAL and the winch is in HOLD (R41, R167). The direction state is read as
it stands, also between a gate timer's expiry and the next drive update (R91, R95, entry 58). -/
def State.standing (s : State) : Bool := s.drc.dir = .neutral && s.winchInHold

/-! ### AU: changes of holder (R2, R7, R88) -/

/-- Does a change of DRIVE holder disarm DRC (R88)? -/
def disarms (old new : Holder) : Bool :=
  match new with
  | .radio => old = .auto .failsafe || old = .pit || old = .noParty
  | .pit => old ≠ .pit
  | _ => false

/-- The DRIVE entry that a holder presents when it takes the row, given the radio's throttle (R2, R4). -/
def driveEntry (h : Holder) (throttle : Int) : DriveEntry :=
  match h with
  | .radio => ⟨.command, throttle⟩
  | .pit => ⟨.command, 0⟩
  | .auto .failsafe => ⟨.fullBrake, 0⟩
  | .auto .assist => ⟨.assist, 0⟩
  | .noParty => ⟨.command, 0⟩

/-- The STEER entry that a holder presents when it takes the row, given the entry before and the radio's steer and mode
(R2, R4). AUTO(ASSIST) is not used on this row; it is given the NONE entry (entry 43). -/
def steerEntry (h : Holder) (old : SteerEntry) (steer : Int) (mode : SteerMode) : SteerEntry :=
  match h with
  | .radio => ⟨steer, false, mode⟩
  | .pit => ⟨0, false, old.mode⟩
  | .auto .failsafe => ⟨old.steer, true, old.mode⟩
  | .auto .assist => ⟨0, false, old.mode⟩
  | .noParty => ⟨0, false, old.mode⟩

/-- The WINCH entry that a holder presents when it takes the row, given the radio's speed and whether WNC holds an
operation record (R2, R4). -/
def winchEntry (h : Holder) (speed : Int) (operation : Bool) : WinchEntry :=
  match h with
  | .radio => ⟨.speed, speed⟩
  | .pit => if operation then ⟨.operation, 0⟩ else ⟨.hold, 0⟩
  | .auto _ => ⟨.hold, 0⟩
  | .noParty => ⟨.hold, 0⟩

/-- A row under a new holder: the pit hold deadline starts at a claim of DRIVE or STEER and is empty otherwise (R7, R12). -/
def AuthRow.taken (h : Holder) (pending : Option PendingHolder) (hasDeadline : Bool) : AuthRow :=
  ⟨h, pending, hasDeadline && h = .pit⟩

/-- The steer mode list's entry for a position, or the last mode when the binding is not live (R3). -/
def modeOf (w : Settings) (last : SteerMode) : Option SwitchPos → SteerMode
  | some i => w.stc.modeList.get i
  | none => last

/-- The gear of a GEAR switch position: 0 HIGH, 1 LOW, 2 DIG (R3). -/
def gearOf : SwitchPos → Gear
  | 0 => .high
  | 1 => .low
  | 2 => .dig

/-- A radio command as RXL last published it, or a free one when its binding was not live then (entry 6). -/
def radioCommand (c : Option Int) (free : Nat) : Int := c.getD (Config.freeCommand free)

/-- A radio gear request as last published, or a free one (empty among the choices) when the binding was not live then
(entry 6). -/
def radioGear (c : Option SwitchPos) (free : Nat) : Option Gear :=
  match c with
  | some i => some (gearOf i)
  | none => Gear.ofPlace (Config.freeBelow 4 free)

/-- A free value is drawn when RADIO takes a row whose command is not live. -/
def State.drawnIf (s : State) (c : Bool) : State := if c then s.drawn else s

/-- The holder of DRIVE changes: the entry is formed from the new holder, and AU's report reaches DRC (R2, R5, R88). -/
def State.giveDrive (s : State) (h : Holder) (pending : Option PendingHolder) : State :=
  let e := driveEntry h (radioCommand s.rxl.published.throttle s.free)
  let d := if disarms s.au.drive.holder h then s.drc.disarmed else s.drc
  ((s.setAu { s.au with drive := .taken h pending true, image := { s.au.image with drive := e } }).setDrc d).drawnIf
    (h = .radio && s.rxl.published.throttle.isNone)

/-- The holder of STEER changes (R2). -/
def State.giveSteer (s : State) (h : Holder) (pending : Option PendingHolder) : State :=
  let old := s.au.image.steer
  let e := steerEntry h old (radioCommand s.rxl.published.steer s.free)
    (modeOf s.w old.mode s.rxl.published.steerMode)
  (s.setAu { s.au with steer := .taken h pending true, image := { s.au.image with steer := e } }).drawnIf
    (h = .radio && s.rxl.published.steer.isNone)

/-- The holder of GEAR changes (R2): only RADIO presents a gear when it takes the row. -/
def State.giveGear (s : State) (h : Holder) (pending : Option PendingHolder) : State :=
  let g := if h = .radio then radioGear s.rxl.published.gear s.free else none
  (s.setAu { s.au with gear := .taken h pending false, image := { s.au.image with gear := g } }).drawnIf
    (h = .radio && s.rxl.published.gear.isNone)

/-- The holder of WINCH changes. A change leaves no pending holder, so the winch boundary timer stops (R2, R6). -/
def State.giveWinch (s : State) (h : Holder) : State :=
  let e := winchEntry h (radioCommand s.rxl.published.winch s.free) s.wnc.record.isSome
  (s.setAu { s.au with winch := .taken h none false, winchTimer := false, image := { s.au.image with winch := e } }).drawnIf
    (h = .radio && s.rxl.published.winch.isNone)

/-- The holder that a pending holder becomes (R7). -/
def PendingHolder.holder : PendingHolder → Holder
  | .radio => .radio
  | .noParty => .noParty
  | .assist => .auto .assist

/-- The DRIVE boundary (R7). -/
def State.driveBoundary (s : State) : State :=
  match s.au.drive.pending with
  | none => s
  | some p => s.giveDrive p.holder none

/-- The STEER boundary (R7). -/
def State.steerBoundary (s : State) : State :=
  match s.au.steer.pending with
  | none => s
  | some p => s.giveSteer p.holder none

/-- The GEAR boundary (R7). -/
def State.gearBoundary (s : State) : State :=
  match s.au.gear.pending with
  | none => s
  | some p => s.giveGear p.holder none

/-- The WINCH boundary (R7). -/
def State.winchBoundary (s : State) : State :=
  match s.au.winch.pending with
  | none => s
  | some p => s.giveWinch p.holder

/-! ### The ending of a winch operation (R119) -/

def OpKind.dir : OpKind → WinchDir
  | .payOut => .out
  | _ => .inward

/-- The request that creates an operation of a kind: the source CODE of its result (R163). -/
def OpKind.request : OpKind → Request
  | .payOut => .winchPayOut
  | .haulIn => .winchHaulIn
  | .haulToTension => .winchHaulToTension
  | .home => .winchHome
  | .assistHaul => .winchAssistHaul

/-- The residual: target count minus moved count (R119). -/
def OpRecord.residual (r : OpRecord) : Nat := r.target - r.moved

/-- The sense of a CHECK outcome: the residual is valid for every kind but HOME (R119). -/
def OpRecord.sense (r : OpRecord) (k : SenseKind) : Sense :=
  ⟨k, r.kind ≠ .home, false, false, if r.kind = .home then 0 else r.residual⟩

/-- Moved count and recovered jams as they follow an operation's sense or make its GOOD data (R162, R163). -/
def OpRecord.tail (r : OpRecord) : List Byte := le16 r.moved ++ [byteOf r.recovered]

/-- PLI places the result of an operation; `none` is the outcome GOOD (R162, R163). -/
def PitLink.operationEnded (p : PitLink) (r : OpRecord) (outcome : Option SenseKind) : PitLink :=
  match outcome with
  | none => if r.immediate then p else p.completeOwed .good r.tail
  | some k =>
    if r.immediate then
      { p with deferred := placeDeferred p.deferred ⟨r.kind.request.code, r.sense k, r.moved, r.recovered, false⟩ }
    else p.completeOwedCheck (r.sense k) r.tail

/-- WNC's part of an ending: the duties 0, the bridge braked at once (OPEN in SHUTDOWN), the record removed (R119). -/
def Winch.ended (b : Winch) (power : PowerState) : Winch :=
  { b with record := none, requested := 0, present := 0, backOff := false, stallTime := 0,
           bridge := if power = .shutdown then .opened else .brake }

/-- A HOME that ends GOOD leaves the position 0 and KNOWN, with the reserve-warned flag clear (R106, R121). -/
def Winch.homed (b : Winch) (kind : OpKind) (outcome : Option SenseKind) : Winch :=
  if kind = .home ∧ outcome = none then { b with position := some 0, reserveWarned := false } else b

/-- The WINCH entry of a PIT row once no record exists (R4). -/
def Authority.operationOver (a : Authority) : Authority :=
  if a.winch.holder = .pit then { a with image := { a.image with winch := ⟨.hold, 0⟩ } } else a

/-- The DRIVE row at the removal of an ASSIST_HAUL record: a pending AUTO(ASSIST) is cleared, and an AUTO(ASSIST) holder
is given a pending holder unless it has one (R17, R18). -/
def AuthRow.assistOver (r : AuthRow) (radioReady : Bool) : AuthRow :=
  if r.holder = .auto .assist then
    match r.pending with
    | none => { r with pending := some (if radioReady then .radio else .noParty) }
    | some _ => r
  else if r.pending = some .assist then { r with pending := none }
  else r

/-- AU's part of the removal of a record (R4, R18). -/
def Authority.recordRemoved (a : Authority) (kind : OpKind) (radioReady : Bool) : Authority :=
  if kind = .assistHaul then { a.operationOver with drive := a.drive.assistOver radioReady } else a.operationOver

/-- RXL is LIVE and the THROTTLE binding is live (R18). -/
def State.throttleReady (s : State) : Bool := s.rxl.link = .live && s.rxl.published.throttle.isSome

/-- STC's part of the removal of a record: the assist restraint ends with an ASSIST_HAUL (R72). -/
def Steering.recordRemoved (b : Steering) (kind : OpKind) : Steering :=
  if kind = .assistHaul then { b with restraint := false } else b

/-- An operation ends with an outcome, `none` for GOOD (R119). Without a record nothing happens. -/
def State.endOperation (s : State) (outcome : Option SenseKind) : State :=
  match s.wnc.record with
  | none => s
  | some r =>
    (((s.setWnc ((s.wnc.ended s.bsv.power).homed r.kind outcome)).setPli (s.pli.operationEnded r outcome)).setAu
      (s.au.recordRemoved r.kind s.throttleReady)).setStc (s.stc.recordRemoved r.kind)

/-- Pending holder RADIO is set on the WINCH row: the boundary timer starts if none was pending, and the report ends an
operation in flight (R6, R127). -/
def State.radioTakesWinch (s : State) : State :=
  (s.setAu { s.au with winch := { s.au.winch with pending := some .radio }
                       winchTimer := s.au.winchTimer || s.au.winch.pending.isNone }).endOperation (some .radioTakeover)

end Sys2Proof.Machine
end

