-- ==== Sys2Proof/Machine/Pli.lean ====
section
/-! DEFINITION. The Pit Link (chapter 9): how a request block of a batch is decided (R160, R161, R162), how replies become
ready and are transmitted (R158), and the meanings of PIT_BYTE_GAP_TIMEOUT, PIT_FRAME_DISCARD, REPLY_TRANSMIT and
UNKNOWN_CODE. The requests themselves are in the families' files. -/

namespace Sys2Proof.Machine

/-! ### Answers of a request that has passed the fit check of R161 -/

/-- What the form check (step 5 of R160) and the execution (step 6) of a request answer, with the state they leave. -/
inductive Answer where
  /-- GOOD, with the request's data. -/
  | good (s : State) (data : List Byte)
  /-- Taken, with a reply that waits for the end of the work (R162). -/
  | owes (s : State)
  /-- CHECK, with the code of its sense. -/
  | check (s : State) (k : SenseKind)
  /-- BUSY, with the code of its sense. -/
  | busy (s : State) (k : SenseKind)
  deriving DecidableEq, Repr

/-- The parameter check of R167: `none` is refused with BAD_PARAMETER, with no effect. -/
def withParam {α : Type} (s : State) (p : Option α) (k : α → Answer) : Answer :=
  match p with
  | none => .check s .badParameter
  | some a => k a

/-- The check of a block marked *last* (R167). -/
def whenLast (s : State) (isLast : Bool) (k : Answer) : Answer := if isLast then k else .check s .badParameter

/-- STORE_BUSY while the program engine is PROGRAMMING (R160). -/
def whenStoreFree (s : State) (k : Answer) : Answer := if s.pst.engine = .idle then k else .busy s .storeBusy

/-! ### Entries and batches -/

/-- The bytes a reply entry takes (section 9.1). -/
def ReplyEntry.size (e : ReplyEntry) : Nat := 3 + e.data.length

/-- The bytes of the entries formed so far. -/
def entriesSize (l : List ReplyEntry) : Nat := (l.map ReplyEntry.size).sum

/-- The largest entry of a request; an unknown code can only be answered with a CHECK (R161). -/
def largestEntry (req : Option Request) : Nat :=
  3 + max (match req with
    | some r => r.largestData
    | none => 0) 9

/-- The batch a block belongs to: the one in progress, or a new one, which notes whether a reply is owed (R162). -/
def PitLink.currentBatch (p : PitLink) : Batch := p.batch.getD ⟨[], false, p.owed.isSome⟩

/-- A block is the last of its batch when its frame ends with it; a batch has at most 4 blocks (R158, entry 13). -/
def isLastBlock (bt : Batch) (b : Block) : Bool := b.last || 3 ≤ bt.entries.length

/-- A block has its status: its entry is formed. The reply is ready when the last block has its status; a status that is
not GOOD stops the batch (R161). -/
def PitLink.answerBlock (p : PitLink) (bt : Batch) (isLast : Bool) (e : ReplyEntry) : PitLink :=
  if isLast then { p with batch := none, ready := p.ready ++ [⟨bt.entries ++ [e], false⟩] }
  else { p with batch := some { bt with entries := bt.entries ++ [e], stopped := bt.stopped || e.status ≠ .good } }

/-- A block owes its reply: the entries formed and its CODE are kept until the work ends (R162). -/
def PitLink.owe (p : PitLink) (bt : Batch) (code : Byte) : PitLink :=
  { p with batch := none, owed := some ⟨bt.entries, code⟩ }

/-- A CHECK: the sense record takes its sense (R164). The entry's data are the sense and what follows it. -/
def State.checkBlock (s : State) (bt : Batch) (isLast : Bool) (code : Byte) (e : Sense) (tail : List Byte) : State :=
  s.setPli (PitLink.answerBlock { s.pli with sense := e } bt isLast ⟨code, .check, e.toBytes ++ tail⟩)

/-- A BUSY, which does not change the sense record (R161). -/
def State.busyBlock (s : State) (bt : Batch) (isLast : Bool) (code : Byte) (k : SenseKind) : State :=
  s.setPli (s.pli.answerBlock bt isLast ⟨code, .busy, (Sense.of k).toBytes⟩)

/-- A SKIPPED block: not examined, no data (R161). -/
def State.skipBlock (s : State) (bt : Batch) (isLast : Bool) (code : Byte) : State :=
  s.setPli (s.pli.answerBlock bt isLast ⟨code, .skipped, []⟩)

/-- The park idle timer at the execution of a block: the exempt requests do not restart it (R39). -/
def State.executed (s : State) (exempt : Bool) : State := if exempt then s else s.restartParkTimer

/-- An answer becomes an entry of the batch, and the execution restarts the park idle timer (R39, R160, R161); a block that
owes its reply restarts it when it is taken (entry 23). -/
def finishBlock (bt : Batch) (isLast : Bool) (code : Byte) (exempt : Bool) : Answer → State
  | .good s data => (s.setPli (s.pli.answerBlock bt isLast ⟨code, .good, data⟩)).executed exempt
  | .owes s => (s.setPli (s.pli.owe bt code)).executed exempt
  | .check s k => (s.checkBlock bt isLast code (Sense.of k) []).executed exempt
  | .busy s k => s.busyBlock bt isLast code k

/-- The fit check and then steps 5 and 6 (R160, R161). -/
def runForm (bt : Batch) (isLast : Bool) (req : Option Request) (code : Byte) (exempt : Bool)
    (meaning : Bool → State → Answer) (s : State) : State :=
  finishBlock bt isLast code exempt
    (if 108 < entriesSize bt.entries + largestEntry req then .check s .badParameter else meaning isLast s)

/-- The data of a deferred report after its sense: source CODE, moved count, recovered jams (R163). -/
def Deferred.tail (d : Deferred) : List Byte := [d.source] ++ le16 d.moved ++ [byteOf d.recovered]

/-- The sense of a deferred result as it is reported: the deferred flag set, the more flag as held (R163). -/
def Deferred.report (d : Deferred) : Sense := { d.sense with deferred := true, more := d.more }

/-- Step 4 of R160: what is owed to the console is reported in place of the block. -/
def runReports (bt : Batch) (isLast : Bool) (req : Option Request) (code : Byte) (meaning : Bool → State → Answer)
    (s : State) : State :=
  match s.pli.attention, s.pli.deferred with
  | a :: rest, _ =>
    ((s.setPli { s.pli with attention := rest }).checkBlock bt isLast code (Sense.of a.kind) []).restartParkTimer
  | [], some d =>
    ((s.setPli { s.pli with deferred := none }).checkBlock bt isLast code d.report d.tail).restartParkTimer
  | [], none => runForm bt isLast req code false meaning s

/-- Steps 2 and 3 of R160 for a block that is not exempt: IDENT, SHUTDOWN, PARKED; an ABORT skips step 4. -/
def runNonExempt (bt : Batch) (isLast : Bool) (req : Option Request) (code : Byte) (meaning : Bool → State → Answer)
    (s : State) : State :=
  if s.bsv.stage = .ident then s.busyBlock bt isLast code .identifying
  else if s.bsv.power = .shutdown then s.busyBlock bt isLast code .clear
  else if s.bsv.power = .parked ∧ s.w.bsv.wakePit = false then s.busyBlock bt isLast code .clear
  else if req = some .abort then runForm bt isLast req code false meaning s.wake
  else runReports bt isLast req code meaning s.wake

/-- The request is exempt (R160). -/
def isExempt : Option Request → Bool
  | some r => r.exempt
  | none => false

/-- The request runs while a reply is owed (R162). -/
def mayRunWhileOwed : Option Request → Bool
  | some r => r.runsWhileOwed
  | none => false

/-- One block of a batch: SKIPPED after a status that is not GOOD, BUSY under the restriction of an owed reply, and
otherwise decided by R160 (R160, R161, R162). `req` is empty for a CODE that is not in the catalogue. -/
def State.runBlock (s : State) (req : Option Request) (code : Byte) (b : Block) (meaning : Bool → State → Answer) :
    State :=
  let bt := s.pli.currentBatch
  let isLast := isLastBlock bt b
  if bt.stopped then s.skipBlock bt isLast code
  else if bt.restricted && !mayRunWhileOwed req then s.busyBlock bt isLast code .inMotion
  else if isExempt req then runForm bt isLast req code true meaning s
  else runNonExempt bt isLast req code meaning s

/-- One block of a catalogued request. -/
def State.runRequest (s : State) (r : Request) (b : Block) (meaning : Bool → State → Answer) : State :=
  s.runBlock (some r) r.code b meaning

/-- UNKNOWN_CODE (R160, R161). -/
def execUnknownCode (code : Byte) (b : Block) (s : State) : Host.Outcome State Fault Refusal :=
  .next (s.runBlock none code b fun _ t => .check t .unknownCode)

/-! ### Frames of the pit link (R158) -/

/-- The number of a status (section 9.1). -/
def Status.number : Status → Nat
  | .good => 0
  | .check => 1
  | .busy => 2
  | .skipped => 3

/-- A reply entry as bytes (section 9.1). -/
def ReplyEntry.toBytes (e : ReplyEntry) : List Byte := e.code :: byteOf e.status.number :: byteOf e.data.length :: e.data

/-- A reply as the frame PLI transmits. -/
def Reply.frame (r : Reply) : List Byte := frameBody (r.entries.flatMap ReplyEntry.toBytes)

/-- A reply in which a RESET is answered GOOD (R161). -/
def Reply.resets (r : Reply) : Bool := r.entries.any fun e => e.code = Request.reset.code ∧ e.status = .good

/-- The reply that goes first: an owed one, else the one that became ready first (R158). -/
def nextReply (l : List Reply) : Option Reply :=
  match l.find? Reply.owed with
  | some r => some r
  | none => l.head?

/-- PLI transmits a ready reply, once the assembler is not in the middle of a frame (R158). -/
def PitLink.transmit (p : PitLink) : PitLink :=
  if p.assembler = .hunting then
    match nextReply p.ready with
    | none => p
    | some r => { p with ready := p.ready.erase r, lastSent := r.frame, resetAwaited := p.resetAwaited || r.resets }
  else p

/-- REPLY_TRANSMIT (R158, R161, entry 12). -/
def execReplyTransmit (s : State) : Host.Outcome State Fault Refusal := .next (s.setPli s.pli.transmit)

/-- The assembler hunts again; nothing else changes (R158). -/
def State.pitHunt (s : State) : State := s.setPli { s.pli with assembler := .hunting }

/-- PIT_BYTE_GAP_TIMEOUT (R158). -/
def execPitByteGapTimeout (s : State) : Host.Outcome State Fault Refusal := .next s.pitHunt

/-- PIT_FRAME_DISCARD (R158): whatever the reason, no reply and no effect, and the assembler hunts again. -/
def execPitFrameDiscard (_why : PitDiscard) (s : State) : Host.Outcome State Fault Refusal := .next s.pitHunt

end Sys2Proof.Machine
end

