-- ==== Sys2Proof/Machine/Au.lean ====
section
/-! DEFINITION. The Authority Unit's own commands (chapter 1): CLAIM (R11, R12), RELEASE (R15), the expiry of the winch
boundary timer (R6, R7) and of a pit hold deadline (R14). -/

namespace Sys2Proof.Machine

/-- A row of the authority table. -/
def Authority.row (a : Authority) : Row → AuthRow
  | .drive => a.drive
  | .steer => a.steer
  | .gear => a.gear
  | .winch => a.winch

/-- The holder of a row changes (R2). -/
def State.give (s : State) (r : Row) (h : Holder) : State :=
  match r with
  | .drive => s.giveDrive h none
  | .steer => s.giveSteer h none
  | .gear => s.giveGear h none
  | .winch => s.giveWinch h

/-- Is a row's binding live, as of the last published frame? -/
def Commands.live (c : Commands) : Row → Bool
  | .drive => c.throttle.isSome
  | .steer => c.steer.isSome
  | .gear => c.gear.isSome
  | .winch => c.winch.isSome

/-! ### CLAIM -/

/-- What R11 makes of a claim. -/
inductive ClaimResult where
  | refused (k : SenseKind)
  | reaffirmed
  | taken
  deriving DecidableEq, Repr

/-- RXL is LIVE or HOLD. -/
def LinkState.heard (l : LinkState) : Bool := l = .live || l = .hold

/-- The first case of R11 that applies. A RADIO holder of DRIVE, STEER or GEAR outside LIVE and HOLD does not arise, and
is refused like the others. -/
def claimCase (a : Authority) (link : LinkState) (r : Row) : ClaimResult :=
  let x := a.row r
  if x.pending = some .radio then .refused .radioActive
  else if x.holder = .pit then .reaffirmed
  else if x.holder = .auto .assist ∨ x.pending = some .assist then .refused .autoHeld
  else if link.heard ∧ r ≠ .winch then .refused .radioActive
  else if x.holder = .radio ∧ (r ≠ .winch ∨ a.image.winch.speed ≠ 0) then .refused .radioActive
  else .taken

/-- The deadline of a DRIVE or STEER row restarts; GEAR and WINCH have none (R12, R14). -/
def Authority.restartDeadline (a : Authority) : Row → Authority
  | .drive => { a with drive := { a.drive with deadline := true } }
  | .steer => { a with steer := { a.steer with deadline := true } }
  | .gear => a
  | .winch => a

/-- CLAIM at execution (R11, R12). -/
def claimAnswer (b : Block) (_isLast : Bool) (s : State) : Answer :=
  withParam s (rowParam b.params) fun r =>
    match claimCase s.au s.rxl.link r with
    | .refused k => .check s k
    | .reaffirmed => .good (s.setAu (s.au.restartDeadline r)) []
    | .taken => .good (s.give r .pit) []

/-- CLAIM (R11). -/
def execClaim (b : Block) (s : State) : Host.Outcome State Fault Refusal := .next (s.runRequest .claim b (claimAnswer b))

/-! ### RELEASE -/

/-- The holder a released row goes to (R15). -/
def State.releasedTo (s : State) (r : Row) : Holder :=
  if s.rxl.link = .live ∧ s.rxl.published.live r then .radio else .noParty

/-- RELEASE at execution (R15). -/
def releaseAnswer (b : Block) (_isLast : Bool) (s : State) : Answer :=
  withParam s (rowParam b.params) fun r =>
    if (s.au.row r).holder ≠ .pit then .check s .notHolder
    else if r = .winch ∧ s.wnc.record.isSome then .check s .inMotion
    else .good (s.give r (s.releasedTo r)) []

/-- RELEASE (R15). -/
def execRelease (b : Block) (s : State) : Host.Outcome State Fault Refusal :=
  .next (s.runRequest .release b (releaseAnswer b))

/-! ### Timers -/

/-- WINCH_BOUNDARY_TIMER_EXPIRY (R6, R7): the expiry completes the change; a stopped timer does not expire. -/
def execWinchBoundaryTimerExpiry (s : State) : Host.Outcome State Fault Refusal :=
  if s.au.winchTimer then .next (s.setAu { s.au with winchTimer := false }).winchBoundary else .next s

/-- PIT_HOLD_DEADLINE_EXPIRY (R14): the row becomes NONE and keeps its pending holder; a deadline that does not run does
not expire. -/
def execPitHoldDeadlineExpiry (row : DeadlineRow) (s : State) : Host.Outcome State Fault Refusal :=
  match row with
  | .drive => if s.au.drive.deadline then .next (s.giveDrive .noParty s.au.drive.pending) else .next s
  | .steer => if s.au.steer.deadline then .next (s.giveSteer .noParty s.au.steer.pending) else .next s

end Sys2Proof.Machine
end

