-- ==== Sys2Proof/Machine/Bga.lean ====
section
/-! DEFINITION. The Budget Arbiter (chapter 3): the budget pass of R54 to R60, and the conversions between duty, demand
and cap of R52 and R62. -/

namespace Sys2Proof.Machine

/-- The demand of a bridge duty: duty × stall current ÷ 1000, rounded up (R52). -/
def dutyDemand (duty stall : Nat) : Nat := ceilDiv (duty * stall) 1000

/-- The duty cap of a grant: the smaller of 1000 and grant × 1000 ÷ stall current (R62). -/
def dutyCap (grant stall : Nat) : Nat := min 1000 (grant * 1000 / stall)

/-- The stage percentage (R54). -/
def Stage.percent : Stage → Nat
  | .normal | .warn => 100
  | .limit => 50
  | .ident | .cut | .shutdown | .fault => 0

/-- The sag factor in permille of the minimum V_raw (R55). -/
def sagPermille (w : BgaSettings) (v : Nat) : Nat :=
  if w.sagStart ≤ v then 1000
  else if v ≤ w.sagEnd then 0
  else (v - w.sagEnd) * 1000 / (w.sagStart - w.sagEnd)

/-- The available current (R56). -/
def availableCurrent (w : BgaSettings) (percent f : Nat) : Nat := w.currentLimit * percent * f / 100000

/-- What a row is given beyond its protected grant: the smaller of its unprotected demand and the remaining current, or
nothing when that is below its floor (R58). -/
def offer (u floor r : Nat) : Nat := if min u r < floor then 0 else min u r

/-- The state of a row from the demand the pass used and the grant (R60). -/
def grantState (demand grant : Nat) : GrantState :=
  if grant = demand then .full else if grant = 0 then .starved else .partly

/-- A row after a pass. -/
def BudgetRow.after (r : BudgetRow) (used rank protectedGrant grant : Nat) : BudgetRow :=
  { r with passDemand := used, rank := rank, protectedGrant := protectedGrant, grant := grant,
           state := grantState used grant }

/-- What the rank distribution gives each row beyond its protected grant (R58, R59). -/
structure Shares where
  steer : Nat
  drive : Nat
  winch : Nat
  lights : Nat
  deriving DecidableEq, Repr

/-- The distribution by rank from the remaining current: STEER, then DRIVE and WINCH (swapped under the assist ranks),
then LIGHTS (R58, R59). -/
def distribute (assist : Bool) (uSteer uDrive uWinch uLights floor r : Nat) : Shares :=
  let gS := offer uSteer 0 r
  let r1 := r - gS
  let gD := if assist then offer uDrive 0 (r1 - offer uWinch floor r1) else offer uDrive 0 r1
  let gW := if assist then offer uWinch floor r1 else offer uWinch floor (r1 - offer uDrive 0 r1)
  ⟨gS, gD, gW, offer uLights 0 (r1 - gD - gW)⟩

/-- What a budget pass reads besides the demands: whether an ASSIST_HAUL record exists, whether RAIL_EN is asserted, the
stage and power state, the minimum V_raw, and the settings. -/
structure PassInput where
  assist : Bool
  railEn : Bool
  stage : Stage
  power : PowerState
  minRaw : Nat
  settings : BgaSettings
  deriving DecidableEq, Repr

/-- The STEER demand the pass uses: 0 while RAIL_EN is released (R50). -/
def steerDemand (b : Budget) (i : PassInput) : Nat := if i.railEn then b.steer.demand else 0

/-- The pass ends at once, with every grant 0 (R54). -/
def PassInput.dark (i : PassInput) : Bool :=
  i.stage = .shutdown || i.stage = .fault || i.power = .shutdown

/-- A pass that ends at once: no current is available or remains; the sag factor, which it does not form, is the given
one (R54, entry 25). -/
def Budget.darkPass (b : Budget) (i : PassInput) (freeSag : Nat) : Budget :=
  { steer := b.steer.after (steerDemand b i) 1 0 0
    drive := b.drive.after b.drive.demand (if i.assist then 3 else 2) 0 0
    winch := b.winch.after b.winch.demand (if i.assist then 2 else 3) 0 0
    lights := b.lights.after b.lights.demand 4 0 0
    stagePercent := i.stage.percent
    sagFactor := freeSag
    available := 0
    remaining := 0
    assistRanks := i.assist }

/-- A pass that goes on from the stage percentage: protected grants, remaining current, distribution by rank (R55 to
R60). -/
def Budget.lightPass (b : Budget) (i : PassInput) : Budget :=
  let f := sagPermille i.settings i.minRaw
  let a := availableCurrent i.settings i.stage.percent f
  let dS := steerDemand b i
  let pS := min dS i.settings.railLimit
  let pL := min b.lights.demand 5
  let r := a - (pS + pL)
  let g := distribute i.assist (dS - pS) b.drive.demand b.winch.demand (b.lights.demand - pL) i.settings.winchFloor r
  { steer := b.steer.after dS 1 pS (pS + g.steer)
    drive := b.drive.after b.drive.demand (if i.assist then 3 else 2) 0 g.drive
    winch := b.winch.after b.winch.demand (if i.assist then 2 else 3) 0 g.winch
    lights := b.lights.after b.lights.demand 4 pL (pL + g.lights)
    stagePercent := i.stage.percent
    sagFactor := f
    available := a
    remaining := r
    assistRanks := i.assist }

/-- What the pass reads from the state. -/
def State.passInput (s : State) : PassInput :=
  ⟨s.wnc.assisting, s.bsv.railEn, s.bsv.stage, s.bsv.power, s.bsv.minRaw, s.w.bga⟩

/-- One budget pass (R54 to R60). -/
def State.budgetPass (s : State) : State :=
  if s.passInput.dark then
    (s.setBga (s.bga.darkPass s.passInput (Config.freeBelow 1001 s.free))).drawn
  else s.setBga (s.bga.lightPass s.passInput)

end Sys2Proof.Machine
end

