-- ==== Sys2Proof/Machine/Bsv.lean ====
section
/-! DEFINITION. The Battery Supervisor (chapter 2): the scan (R20 to R22), identification (R24 to R27), the protection
stages (R29 to R34), the energy account (R37), the storage run and SHUTDOWN (R45, R46), the park idle timer (R39, R40)
and PARK (R41). Meanings: SCAN_COMPLETION, PARK_IDLE_TIMER_EXPIRY, PARK. -/

namespace Sys2Proof.Machine

/-! ### Readings, compensation, minima (R20, R22) -/

/-- A reading limited to its range (R20). -/
def limited (hi : Nat) (v : Int) : Nat := min hi v.toNat

/-- The tap count, reading upward and stopping at the first tap at 2000 mV or below (R25). -/
def tapCount (v : Four Nat) : Nat :=
  if v.at0 ≤ 2000 then 0 else if v.at1 ≤ 2000 then 1 else if v.at2 ≤ 2000 then 2 else if v.at3 ≤ 2000 then 3 else 4

/-- The compensation of R22: the smaller of 500 and I_pack × R_cell ÷ 10, in mV. -/
def compensation (packCurrent cellResistance : Nat) : Nat := min 500 (packCurrent * cellResistance / 10)

/-- The counted entries, from cell 1 up; when the count is 0 both minima are those of tap 1 (R22, entry 20). -/
def countedTaps (v : Four Nat) (count : Nat) : List Nat := v.toList.take (max 1 count)

/-- The smallest of a list. -/
def smallest : List Nat → Nat
  | [] => 0
  | [a] => a
  | a :: l => min a (smallest l)

/-- The V_comp column of the cell table: present for counted cells only (R22). -/
def compColumn (v : Four Nat) (count comp : Nat) : Four (Option Nat) :=
  ⟨if 1 ≤ count then some (v.at0 + comp) else none, if 2 ≤ count then some (v.at1 + comp) else none,
    if 3 ≤ count then some (v.at2 + comp) else none, if 4 ≤ count then some (v.at3 + comp) else none⟩

/-- Steps 1 and 2 of a scan: the readings recorded, the compensated voltages and the two minima formed. During IDENT the
cell count is that scan's own tap count (R21, R22, R24). -/
def Battery.record (b : Battery) (w : BsvSettings) (r : Readings) : Battery :=
  let v : Four Nat := ⟨limited 4500 r.tap1, limited 4500 r.tap2, limited 4500 r.tap3, limited 4500 r.tap4⟩
  let pack := limited 1500 r.pack
  let count := if b.stage = .ident then tapCount v else b.cellCount
  let comp := compensation pack w.cellResistance
  { b with vRaw := v
           vComp := compColumn v count comp
           cellCount := count
           minComp := smallest (countedTaps v count) + comp
           minRaw := smallest (countedTaps v count)
           packCurrent := pack
           railCurrent := limited 150 r.rail
           winchCurrent := limited 400 r.winch }

/-! ### The energy account (R20, R37) -/

/-- The used figure in mAh (R37). -/
def Battery.used (b : Battery) : Nat := min 65535 (b.charge / 36000)

/-- The scan interval in ms; the first after a wake lies between 4 and 103 (R20, entry 4). -/
def ScanPace.interval (p : ScanPace) (free : Nat) : Nat :=
  match p with
  | .four => 4
  | .hundred => 100
  | .afterWake => 4 + Config.freeBelow 100 free

/-- Step 3 of a scan: after identification the accumulator gains I_pack × the interval, until the used figure reaches
65535 (R37). -/
def Battery.account (b : Battery) (interval : Nat) : Battery :=
  if b.stage = .ident ∨ 65535 ≤ b.charge / 36000 then b
  else { b with charge := b.charge + b.packCurrent * interval }

/-- The pace of the scan after this one (R20). -/
def Battery.nextPace (b : Battery) : ScanPace := if b.power = .active then .four else .hundred

/-! ### The protection stage (R29 to R34) -/

/-- The energy gate is crossed (R32). -/
def Battery.gateNow (b : Battery) (w : BsvSettings) : Bool :=
  w.packCapacity ≠ 0 && w.packCapacity * w.energyWarnPercent / 100 ≤ b.used

/-- A run after a scan: 1 more if the scan counts and qualifies, else 0 (R30, R33, R45). -/
def runAfter (counted qualifies : Bool) (n : Nat) : Nat := if counted && qualifies then n + 1 else 0

/-- Stages with the energy gate and downward runs (R30, R32). -/
def Stage.running : Stage → Bool
  | .normal | .warn | .limit => true
  | _ => false

/-- The WARN run is counted in NORMAL, the LIMIT run in NORMAL and WARN (R30). -/
def Stage.countsLimit : Stage → Bool
  | .normal | .warn => true
  | _ => false

/-- The four runs of the stage machine. -/
structure Runs where
  warn : Nat
  limit : Nat
  cut : Nat
  recovery : Nat
  deriving DecidableEq, Repr

/-- The runs after a scan, before any change of stage (R30, R31, R33). -/
def Battery.runs (b : Battery) (w : BsvSettings) (gate : Bool) : Runs where
  warn := runAfter (b.stage = .normal) (b.minComp < w.warn) b.warnRun
  limit := runAfter b.stage.countsLimit (b.minComp < 3400) b.limitRun
  cut := runAfter (b.stage.running && b.power ≠ .parked) (b.minComp < w.cut) b.cutRun
  recovery := match b.stage with
    | .limit => runAfter true (3500 ≤ b.minComp) b.recoveryRun
    | .warn => runAfter (!gate) (w.warn + 100 ≤ b.minComp) b.recoveryRun
    | _ => 0

/-- The stage a scan leads to from NORMAL, WARN or LIMIT: the lowest stage whose run completes; else a completed
recovery; else WARN by the energy gate, once per pack (R30, R32, R33). -/
def Battery.stageAfter (b : Battery) (r : Runs) (gate : Bool) : Stage :=
  if 125 ≤ r.cut then .cut
  else if 250 ≤ r.limit then .limit
  else if 250 ≤ r.warn then .warn
  else if 1250 ≤ r.recovery then (if b.stage = .limit then .warn else .normal)
  else if b.stage = .normal ∧ gate ∧ b.gateWarned = false then .warn
  else b.stage

/-- The runs kept at a change of stage: those still counted in the new stage, and never the recovery run (R30, R33). -/
def Runs.keep (r : Runs) (old new : Stage) : Runs :=
  if old = new then r
  else { warn := if new = .normal then r.warn else 0
         limit := if new.countsLimit then r.limit else 0
         cut := if new.running then r.cut else 0
         recovery := 0 }

/-- Step 4 of a scan after identification (R30 to R34): no run and no gate is evaluated outside NORMAL, WARN and LIMIT. -/
def Battery.supervise (b : Battery) (w : BsvSettings) : Battery :=
  if b.stage.running then
    let gate := b.gateNow w
    let r := b.runs w gate
    let stage := b.stageAfter r gate
    let k := r.keep b.stage stage
    { b with stage := stage, warnRun := k.warn, limitRun := k.limit, cutRun := k.cut, recoveryRun := k.recovery,
             gateWarned := b.gateWarned || gate, gateCrossed := gate }
  else b

/-- The supervised scan, with the pack record save that the entry to CUT requests (R34, R35). -/
def State.supervise (s : State) : State :=
  let t := s.setBsv (s.bsv.supervise s.w.bsv)
  if t.bsv.stage = .cut ∧ s.bsv.stage ≠ .cut then t.requestPackSave else t

/-! ### Identification (R24 to R27) -/

/-- The mean of the counted cells' V_comp, truncated (R26). -/
def Battery.restingAverage (b : Battery) : Nat :=
  ((b.vComp.toList.filterMap id).sum) / b.cellCount

/-- FAULT at the end of IDENT: the count is not 2 to 4, or a counted cell is above 4350 mV or below 2500 mV (R25). -/
def Battery.faulty (b : Battery) : Bool :=
  b.cellCount < 2 || 4 < b.cellCount ||
    (b.vRaw.toList.take b.cellCount).any (fun v => 4350 < v || v < 2500)

/-- The fitted pack is the pack of the record: same cell count, and a resting average less than the stored one + 150 mV
(R26). -/
def samePack (p : StoredPack) (count average : Nat) : Option PackRecord :=
  match p with
  | .valid r => if r.cellCount = count ∧ average < r.average + 150 then some r else none
  | _ => none

/-- The initial stage from the minimum V_comp (R27). -/
def initialStage (w : BsvSettings) (minComp : Nat) : Stage :=
  if w.warn ≤ minComp then .normal else if 3400 ≤ minComp then .warn else .limit

/-- All runs from 0, the gate-warned flag clear (R26, R27). -/
def Battery.freshRuns (b : Battery) : Battery :=
  { b with identScans := 0, warnRun := 0, limitRun := 0, cutRun := 0, recoveryRun := 0, storageRun := 0,
           gateWarned := false }

/-- The end of IDENT in FAULT: the account 0, RAIL_EN released (R25, R28). -/
def Battery.identFault (b : Battery) : Battery :=
  { b.freshRuns with stage := .fault, charge := 0, railEn := false }

/-- The end of IDENT without FAULT, with the identity and the account given (R26, R27, R32). -/
def Battery.identified (b : Battery) (w : BsvSettings) (average charge : Nat) : Battery :=
  let c := { b.freshRuns with identityCells := b.cellCount, identityAverage := average, charge := charge }
  let gate := c.gateNow w
  let first := initialStage w b.minComp
  let byGate := first = .normal && gate
  { c with stage := if byGate then .warn else first, gateWarned := byGate, gateCrossed := gate }

/-- The 16th scan completion of IDENT (R25 to R27): the park idle timer starts in every case (R39). -/
def State.identify (s : State) : State :=
  if s.bsv.faulty then (s.setBsv s.bsv.identFault).restartParkTimer
  else match samePack s.pst.pack s.bsv.cellCount s.bsv.restingAverage with
    | some r => (s.setBsv (s.bsv.identified s.w.bsv r.average (r.used * 36000))).restartParkTimer
    | none =>
      let t := (s.setBsv (s.bsv.identified s.w.bsv s.bsv.restingAverage 0)).restartParkTimer
      (t.setPli { t.pli with attention := queueAttention t.pli.attention .packChanged }).requestPackSave

/-- Step 4 of a scan: identification while IDENT lasts, supervision after it (R21, R24). -/
def State.stageStep (s : State) : State :=
  if s.bsv.stage = .ident then
    if 15 ≤ s.bsv.identScans then s.identify
    else s.setBsv { s.bsv with identScans := s.bsv.identScans + 1 }
  else s.supervise

/-! ### The storage run and SHUTDOWN (R45, R46) -/

/-- A stage of NORMAL, WARN or LIMIT becomes SHUTDOWN, in which no run of the stage machine is counted (R30, R33, R45). -/
def Battery.stageDown (b : Battery) : Battery :=
  if b.stage.running then
    { b with stage := .shutdown, warnRun := 0, limitRun := 0, cutRun := 0, recoveryRun := 0 }
  else b

/-- BSV's part of the entry to SHUTDOWN (R45). -/
def Battery.shutdown (b : Battery) : Battery :=
  { b.stageDown with power := .shutdown, railEn := false, parkTimer := none }

/-- The engine programs a commit. -/
def Engine.committing : Engine → Bool
  | .commit _ _ => true
  | _ => false

/-- PWR_HOLD is released. -/
def State.releasePower (s : State) : State := s.setBsv { s.bsv with pwrHold := false }

/-- The entry to SHUTDOWN: a save is requested; in FAULT there is none, and PWR_HOLD is released at once unless a commit
is programming (R45, R46). -/
def State.enterShutdown (s : State) : State :=
  let t := (s.setBsv s.bsv.shutdown).requestPackSave
  if t.bsv.stage = .fault ∧ t.pst.engine.committing = false then t.releasePower else t

/-- Step 5 of a scan, given whether the stage was IDENT when the scan began (R45). -/
def State.storageStep (s : State) (wasIdent : Bool) : State :=
  if wasIdent then s
  else
    let n := runAfter true (s.bsv.minComp < s.w.bsv.storage) s.bsv.storageRun
    let t := s.setBsv { s.bsv with storageRun := n }
    if 2500 ≤ n then t.enterShutdown else t

/-! ### The park idle timer's conditions (R39) and the whole scan -/

/-- The winch moves: its present duty is not 0, or a pulse has come since the previous scan (R39, R112). -/
def Winch.moving (b : Winch) : Bool := b.present ≠ 0 || b.pulseSinceScan

/-- A command or a moving winch keeps the truck awake (R39). -/
def State.busyTruck (s : State) : Bool :=
  s.au.image.drive.throttle ≠ 0 || s.au.image.steer.steer ≠ 0 || s.wnc.moving

/-- Step 6 of a scan: the conditions are checked, and the pulse-since-scan flag is read and cleared (R39, R104). -/
def State.idleStep (s : State) : State :=
  let t := if s.busyTruck then s.restartParkTimer else s
  t.setWnc { t.wnc with pulseSinceScan := false }

/-- Steps 1 to 3 of a scan. -/
def State.measure (s : State) (r : Readings) : State :=
  let b := (s.bsv.record s.w.bsv r).account (s.bsv.nextScan.interval s.free)
  (s.setBsv { b with nextScan := b.nextPace }).drawnIf (s.bsv.nextScan = .afterWake)

/-- One scan completion, in the order of R21; in SHUTDOWN no scan completes (R20). -/
def State.scan (s : State) (r : Readings) : State :=
  if s.bsv.power = .shutdown then s
  else (((s.measure r).stageStep.storageStep (s.bsv.stage = .ident)).idleStep).budgetPass

/-- SCAN_COMPLETION (R21). -/
def execScanCompletion (r : Readings) (s : State) : Host.Outcome State Fault Refusal := .next (s.scan r)

/-- PARK_IDLE_TIMER_EXPIRY (R40): a timer that is stopped does not expire (entry 2). -/
def execParkIdleTimerExpiry (s : State) : Host.Outcome State Fault Refusal :=
  if s.bsv.parkTimer.isNone then .next s
  else if s.wnc.record.isSome then .next s.restartParkTimer
  else .next s.enterParked

/-- PARK at execution (R41); it is reached in ACTIVE only, since in PARKED the block has woken the part. -/
def parkAnswer (b : Block) (_isLast : Bool) (s : State) : Answer :=
  withParam s (noParams b.params) fun _ =>
    if s.standing then .good s.enterParked [] else .check s .inMotion

/-- PARK (R41). -/
def execPark (b : Block) (s : State) : Host.Outcome State Fault Refusal := .next (s.runRequest .park b (parkAnswer b))

end Sys2Proof.Machine
end

