-- ==== Sys2Proof/Machine/Drc.lean ====
section
/-! DEFINITION. The Drive Controller and the transmission (chapter 5). Meanings: DRIVE_UPDATE_EXPIRY, GATE_TIMER_EXPIRY,
SHIFT_SERVO_REFRESH, SHIFT_TRAVEL_TIMER_EXPIRY, SET_DRIVE, SET_GEAR. -/

namespace Sys2Proof.Machine

/-! ### Curve (R89) -/

/-- The point of a segment: lower output + (upper − lower) × (|t| − x) ÷ 250. -/
def segment (lower upper offset : Nat) : Nat := lower + (upper - lower) * offset / 250

/-- The forward target of a throttle magnitude (R89). -/
def Curve.target (c : Curve) (t : Nat) : Nat :=
  if t = 0 then 0
  else if t < 250 then segment c.p0 c.p1 t
  else if t < 500 then segment c.p1 c.p2 (t - 250)
  else if t < 750 then segment c.p2 c.p3 (t - 500)
  else segment c.p3 c.p4 (t - 750)

/-- The reverse target: scaled by the reverse percent (R89). -/
def reverseTarget (w : DrcSettings) (t : Nat) : Nat := w.curve.target t * w.reversePercent / 100

/-! ### Arming (R87) -/

/-- The arming count and state after stage 3. -/
def Drive.arm (d : Drive) (power : PowerState) (throttle : Int) : Drive :=
  let n := if power = .active ∧ throttle = 0 then min 250 (d.armCount + 1) else 0
  { d with armCount := n, armed := d.armed || n = 250 }

/-! ### The governing condition (R86), the direction machine (R90, R91) and the assist logic (R96) -/

/-- What an update asks of the bridge: drive at a target, brake with a strength and whether R95 flags it, or stand open. -/
inductive DriveWant where
  | forward (target : Nat)
  | reverse (target : Nat)
  | brake (strength : Nat) (flagged : Bool)
  | opened
  deriving DecidableEq, Repr

/-- The outcome of stage 4: direction state, gate timer and what is asked of the bridge. -/
structure DriveChoice where
  dir : DirState
  gate : Option Nat
  want : DriveWant
  deriving DecidableEq, Repr

/-- What an update reads (stage 2 of R85). -/
structure DriveInput where
  entry : DriveEntry
  stage : Stage
  power : PowerState
  winchCurrent : Nat
  assistThreshold : Nat
  settings : DrcSettings
  deriving DecidableEq, Repr

/-- Drag brake: not flagged; a strength of 0 is OPEN when the bridge is set (R86, R92). -/
def DriveInput.drag (i : DriveInput) : DriveWant := .brake i.settings.dragStrength false

/-- Drive forward at the throttle's target. -/
def DriveInput.ahead (i : DriveInput) : DriveChoice :=
  ⟨.forward, none, .forward (i.settings.curve.target i.entry.throttle.natAbs)⟩

/-- Drive in reverse at the throttle's scaled target. -/
def DriveInput.back (i : DriveInput) : DriveChoice :=
  ⟨.reverse, none, .reverse (reverseTarget i.settings i.entry.throttle.natAbs)⟩

/-- Leaving FORWARD or BRAKE at a neutral throttle: the gate, or NEUTRAL when the gate time is 0 (R90, R91). -/
def DriveInput.toGate (i : DriveInput) : DriveChoice :=
  if i.settings.gateTime = 0 then ⟨.neutral, none, i.drag⟩ else ⟨.gate, some i.settings.gateTime, i.drag⟩

/-- The flagged brake at |t| (R90). -/
def DriveInput.brakeAt (i : DriveInput) : DriveWant := .brake i.entry.throttle.natAbs true

/-- The direction machine (R90, R91) from the state and the gate timer at the start of the update. -/
def DriveInput.machine (i : DriveInput) (dir : DirState) (gate : Option Nat) : DriveChoice :=
  let t := i.entry.throttle
  if 0 < t then i.ahead
  else if t = 0 then
    match dir with
    | .neutral => ⟨.neutral, none, i.drag⟩
    | .forward => i.toGate
    | .brake => i.toGate
    | .gate => ⟨.gate, gate, i.drag⟩
    | .reverse => ⟨.neutral, none, i.drag⟩
  else
    match dir with
    | .neutral => i.back
    | .forward => if i.settings.gateTime = 0 then i.back else ⟨.brake, none, i.brakeAt⟩
    | .brake => ⟨.brake, none, i.brakeAt⟩
    | .gate => ⟨.gate, gate, i.brakeAt⟩
    | .reverse => i.back

/-- The assist logic (R96): push while the line is loaded, else hold with full brake. -/
def DriveInput.assist (i : DriveInput) : DriveChoice :=
  if i.assistThreshold ≤ i.winchCurrent ∧ 0 < i.settings.assistDuty then
    ⟨.forward, none, .forward i.settings.assistDuty⟩
  else ⟨.neutral, none, .brake 1000 true⟩

/-- Stage 4: the first governing condition that holds (R86). -/
def DriveInput.govern (i : DriveInput) (d : Drive) : DriveChoice :=
  if i.power = .shutdown then ⟨.neutral, none, .opened⟩
  else if i.power = .parked then ⟨.neutral, none, .brake 1000 false⟩
  else if i.stage = .ident ∨ i.stage = .cut ∨ i.stage = .fault then ⟨.neutral, none, .brake 1000 true⟩
  else if i.entry.kind = .fullBrake then ⟨.neutral, none, .brake 1000 true⟩
  else if d.armed = false then ⟨.neutral, none, i.drag⟩
  else if i.entry.kind = .assist then i.assist
  else i.machine d.dir d.gateTimer

/-! ### Duties, bridge, flags (R92 to R95) -/

/-- A brake of strength 0 is taken as OPEN (R92). -/
def brakeAction (strength : Nat) : DriveBridge := if strength = 0 then .opened else .brake strength

/-- The requested duty under the punch limit (R93). -/
def requestedDuty (target previous punch : Nat) : Nat := if previous ≤ target then min target (previous + punch) else target

/-- The duty limit: the cap, and the shift threshold while shift travel is in progress (R94). -/
def Drive.dutyLimit (d : Drive) (shiftThreshold : Nat) : Nat := if d.travel then min d.cap shiftThreshold else d.cap

/-- Stages 5 and 6 for an update that drives: the duties start from 0 at an entry to the direction state (R93, R94). -/
def Drive.driving (d : Drive) (c : DriveChoice) (target : Nat) (bridge : DriveBridge) (w : DrcSettings) : Drive :=
  let fresh := d.dir ≠ c.dir
  let req := requestedDuty target (if fresh then 0 else d.requested) w.punch
  let pres := min req (min (d.dutyLimit w.shiftThreshold) ((if fresh then 0 else d.present) + w.punch))
  { d with dir := c.dir, gateTimer := c.gate, requested := req, present := pres, bridge := bridge, brakeFlag := false }

/-- Stages 5 and 6 for an update that does not drive: both duties 0 (R93, R94). -/
def Drive.idling (d : Drive) (c : DriveChoice) (bridge : DriveBridge) (flagged : Bool) : Drive :=
  { d with dir := c.dir, gateTimer := c.gate, requested := 0, present := 0, bridge := bridge, brakeFlag := flagged }

/-- Stages 5 and 6 (R92 to R94) with the brake-active flag of stage 7 (R95). -/
def Drive.apply (d : Drive) (c : DriveChoice) (w : DrcSettings) : Drive :=
  match c.want with
  | .forward t => d.driving c t .driveForward w
  | .reverse t => d.driving c t .driveReverse w
  | .brake b flagged => d.idling c (brakeAction b) flagged
  | .opened => d.idling c .opened false

/-- Stage 7: the reverse-active flag and the neutral count (R95). -/
def Drive.count (d : Drive) : Drive :=
  { d with reverseFlag := d.dir = .reverse
           neutralCount := if d.dir = .neutral then min 100 (d.neutralCount + 1) else 0 }

/-- Stage 1: the latest grant is applied (R62, R85). -/
def Drive.applyGrant (d : Drive) (grant stall : Nat) : Drive := { d with grant := grant, cap := dutyCap grant stall }

/-- The drive as REPORT STATUS shows it until the next drive update (R102). -/
def Drive.showDrive (d : Drive) : Drive :=
  { d with shownDrive := ⟨d.armed, d.armCount, d.dir, d.gateTimer.isSome, d.requested, d.present, d.grant, d.cap,
      d.brakeFlag, d.reverseFlag⟩ }

/-- One drive update of DRC's own state (R85), given the published grant. -/
def Drive.update (d : Drive) (grant : Nat) (i : DriveInput) : Drive :=
  let a := (d.applyGrant grant i.settings.stallCurrent).arm i.power i.entry.throttle
  (a.apply (i.govern a) i.settings).count.showDrive

/-- What an update reads from the state. -/
def State.driveInput (s : State) : DriveInput :=
  ⟨s.au.image.drive, s.bsv.stage, s.bsv.power, s.bsv.winchCurrent, s.w.wnc.assistThreshold, s.w.drc⟩

/-- A demand of DRC is posted (R50). -/
def Budget.postDrive (b : Budget) (d : Nat) : Budget := { b with drive := { b.drive with demand := d } }

/-- The update itself, after the DRIVE boundary; the demand follows the requested duty (R52, R95). -/
def State.driveUpdate (s : State) : State :=
  let d := s.drc.update s.bga.drive.grant s.driveInput
  (s.setDrc d).setBga (s.bga.postDrive (dutyDemand d.requested s.w.drc.stallCurrent))

/-- DRIVE_UPDATE_EXPIRY (R6, R85): the update is the DRIVE boundary when the direction state is not GATE. -/
def execDriveUpdateExpiry (s : State) : Host.Outcome State Fault Refusal :=
  if s.drc.dir = .gate then .next s.driveUpdate else .next s.driveBoundary.driveUpdate

/-- GATE_TIMER_EXPIRY (R91): GATE becomes NEUTRAL, the bridge is not changed; a stopped timer does not expire. -/
def execGateTimerExpiry (s : State) : Host.Outcome State Fault Refusal :=
  if s.drc.gateTimer.isNone then .next s
  else .next (s.setDrc { s.drc with dir := .neutral, gateTimer := none })

/-- The pins of the drive bridge (R92): DRV_A asserted, DRV_B asserted, DRV_EN's modulation (0 is released). -/
structure BridgePins where
  a : Bool
  b : Bool
  en : Nat
  deriving DecidableEq, Repr

/-- DRV_A, DRV_B and DRV_EN (R92). -/
def Drive.pins (d : Drive) : BridgePins :=
  match d.bridge with
  | .driveForward => ⟨true, false, d.present⟩
  | .driveReverse => ⟨false, true, d.present⟩
  | .brake b => ⟨true, true, b⟩
  | .opened => ⟨false, false, 0⟩

/-! ### The transmission (R97 to R100) -/

/-- The first stage of a shift servo refresh: the pending gear from the requested gear (R97). -/
def nextPendingGear (requested : Option Gear) (present : Gear) : Option Gear :=
  match requested with
  | none => none
  | some g => if g = present then none else some g

/-- May the pending gear `g` be applied (R98)? -/
def Drive.mayShift (d : Drive) (g : Gear) (railEn : Bool) (shiftThreshold : Nat) : Bool :=
  !d.travel && railEn && d.present ≤ shiftThreshold && ((d.gear ≠ .dig && g ≠ .dig) || d.neutralCount = 100)

/-- The second stage: the pending gear becomes the present gear when R98 allows it. -/
def Drive.shift (d : Drive) (railEn : Bool) (shiftThreshold : Nat) : Drive :=
  match d.pendingGear with
  | none => d
  | some g => if d.mayShift g railEn shiftThreshold then { d with gear := g, pendingGear := none } else d

/-- The mark of a gear's pulse setting (R99). -/
def GearMarks.get (m : GearMarks) : Gear → Bool
  | .high => m.high
  | .low => m.low
  | .dig => m.dig

/-- The third stage with RAIL_EN asserted: the pulse begins, and shift travel starts in the three cases of R99, unless it
is in progress. `before` is the gear before the second stage. -/
def Drive.beginPulse (d : Drive) (before : Gear) (w : DrcSettings) : Drive :=
  { d with travel := d.travel || d.gear ≠ before || d.unpulsed || d.shiftPulse.isNone || d.pulseChanged.get d.gear
           shiftPulse := some (w.pulse d.gear)
           unpulsed := false
           pulseChanged := ⟨false, false, false⟩ }

/-- The third stage with RAIL_EN released: no pulse, and shift travel ends (R100). -/
def Drive.noPulse (d : Drive) : Drive := { d with travel := false, shiftPulse := none }

/-- The transmission as REPORT STATUS shows it until the next shift servo refresh (R102). -/
def Drive.showShift (d : Drive) : Drive := { d with shownShift := ⟨d.gear, d.pendingGear, d.travel⟩ }

/-- One shift servo refresh of DRC's own state (R97 to R100). -/
def Drive.shiftRefresh (d : Drive) (requested : Option Gear) (railEn : Bool) (w : DrcSettings) : Drive :=
  let p := { d with pendingGear := nextPendingGear requested d.gear }
  let g := p.shift railEn w.shiftThreshold
  (if railEn then g.beginPulse d.gear w else g.noPulse).showShift

/-- The refresh itself, after the GEAR boundary. -/
def State.shiftRefresh (s : State) : State :=
  s.setDrc (s.drc.shiftRefresh s.au.image.gear s.bsv.railEn s.w.drc)

/-- SHIFT_SERVO_REFRESH (R6, R97): the refresh is the GEAR boundary when no shift travel is in progress. -/
def execShiftServoRefresh (s : State) : Host.Outcome State Fault Refusal :=
  if s.drc.travel then .next s.shiftRefresh else .next s.gearBoundary.shiftRefresh

/-- SHIFT_TRAVEL_TIMER_EXPIRY (R99): travel ends. -/
def execShiftTravelTimerExpiry (s : State) : Host.Outcome State Fault Refusal :=
  .next (s.setDrc { s.drc with travel := false })

/-! ### SET DRIVE and SET GEAR (R4, R13, R14) -/

/-- The PIT DRIVE entry of an executed SET DRIVE, whose deadline restarts (R4, R14). -/
def Authority.driveSet (a : Authority) (v : Int) : Authority :=
  { a with drive := { a.drive with deadline := true }, image := { a.image with drive := ⟨.command, v⟩ } }

/-- SET DRIVE at execution (R13, R14). -/
def setDriveAnswer (b : Block) (_isLast : Bool) (s : State) : Answer :=
  withParam s (commandParam b.params) fun v =>
    if s.au.drive.holder ≠ .pit then .check s .notHolder else .good (s.setAu (s.au.driveSet v)) []

/-- SET_DRIVE (R14). -/
def execSetDrive (b : Block) (s : State) : Host.Outcome State Fault Refusal :=
  .next (s.runRequest .setDrive b (setDriveAnswer b))

/-- SET GEAR at execution (R4, R13). -/
def setGearAnswer (b : Block) (_isLast : Bool) (s : State) : Answer :=
  withParam s (gearParam b.params) fun g =>
    if s.au.gear.holder ≠ .pit then .check s .notHolder
    else .good (s.setAu { s.au with image := { s.au.image with gear := some g } }) []

/-- SET_GEAR (R4). -/
def execSetGear (b : Block) (s : State) : Host.Outcome State Fault Refusal :=
  .next (s.runRequest .setGear b (setGearAnswer b))

end Sys2Proof.Machine
end

