-- ==== Sys2Proof/Machine/Ltc.lean ====
section
/-! DEFINITION. The Light Controller (chapter 7): overlays and turn flags, patterns, selected levels and sums, the division
of the grant, and the light step of R134. Meanings: LIGHT_STEP_EXPIRY, SET_SCENE. -/

namespace Sys2Proof.Machine

/-! ### What a light step reads (stage 2 of R134) -/

structure LightInput where
  grant : Nat
  power : PowerState
  stage : Stage
  link : LinkState
  steer : Int
  brake : Bool
  reverse : Bool
  winch : WinchMode
  settings : LtcSettings
  deriving DecidableEq, Repr

/-! ### Turn flags (R141) -/

/-- A turn flag after a step: cleared below T − 100, then set at or above T, of the steer toward its side. -/
def turnFlag (flag : Bool) (toward threshold : Int) : Bool :=
  (flag && !(toward < threshold - 100)) || threshold ≤ toward

/-! ### Overlays (R140) -/

/-- The pattern an overlay plays (R138). -/
def Overlay.pattern : Overlay → Option (Fin 8)
  | .hazard => some 0
  | .turn => some 1
  | .warn => some 2
  | .cut => some 3
  | .fault => some 4
  | .beacon => some 5
  | .brake | .reverse | .scene | .off => none

/-- Overlays 1 to 5 are the signal overlays (R140). -/
def Overlay.signal : Overlay → Bool
  | .fault | .cut | .hazard | .warn | .turn => true
  | .brake | .reverse | .beacon | .scene | .off => false

/-- A turn output's own flag. -/
def turnRaised (left right : Bool) : Role → Bool
  | .turnL => left
  | .turnR => right
  | _ => false

/-- A role of the turn outputs. -/
def Role.turns (r : Role) : Bool := r = .turnL || r = .turnR

/-- The first entry of the priority order whose condition holds and whose roles include the output's; in SHUTDOWN every
overlay is OFF (R140, R143). -/
def LightInput.overlay (i : LightInput) (left right : Bool) (r : Role) : Overlay :=
  if i.power = .shutdown then .off
  else if i.stage = .fault then .fault
  else if i.stage = .cut ∧ (r = .tail ∨ r = .brake) then .cut
  else if i.link = .lost ∧ i.power = .active ∧ r.turns then .hazard
  else if (i.stage = .warn ∨ i.stage = .limit) ∧ r = .tail then .warn
  else if turnRaised left right r ∧ i.power = .active then .turn
  else if i.brake ∧ r = .brake then .brake
  else if i.reverse ∧ r = .reverse then .reverse
  else if i.winch ≠ .hold ∧ i.power = .active ∧ r = .beacon then .beacon
  else .scene

/-! ### Playback (R139) -/

/-- The step of a pattern at a step index, from 1. -/
def stepAt (l : List PatternStep) (index : Nat) : PatternStep := (l[index - 1]?).getD ⟨0, 1⟩

/-- The advance of a playback position: the shown count rises, and past the step's duration the next step begins, the
first after the last. -/
def Playback.advance (p : Playback) (l : List PatternStep) : Playback :=
  if p.shown + 1 ≤ (stepAt l p.index).duration then ⟨p.index, p.shown + 1⟩
  else if p.index + 1 ≤ l.length then ⟨p.index + 1, 1⟩
  else ⟨1, 1⟩

/-- The playback position of a pattern overlay: a restart at the first step, or an advance. -/
def playOn (before : LightOut) (now : Overlay) (written : Bool) (l : List PatternStep) : Playback :=
  match before.playback with
  | none => ⟨1, 1⟩
  | some p => if before.overlay ≠ now ∨ written then ⟨1, 1⟩ else p.advance l

/-- The playback position of an output at a step; a selected overlay that is no pattern overlay empties it. -/
def nextPlayback (before : LightOut) (now : Overlay) (written : Eight Bool) (patterns : Eight (List PatternStep)) :
    Option Playback :=
  match now.pattern with
  | none => none
  | some k => some (playOn before now (written.get k) (patterns.get k))

/-! ### Selected levels (R143, R144) -/

/-- An ON_OFF output takes 128 and above as 255, below as 0. -/
def DriveType.level (d : DriveType) (v : Nat) : Nat :=
  match d with
  | .pwm => v
  | .onOff => if 128 ≤ v then 255 else 0

/-- The scene level of a role: in PARKED that of the parked scene, 0 under OFF. -/
def LightInput.sceneLevel (i : LightInput) (scene : Fin 4) (r : Role) : Nat :=
  if i.power = .parked then
    match i.settings.parkedScene with
    | some k => (i.settings.scenes.get k).level r
    | none => 0
  else (i.settings.scenes.get scene).level r

/-- The level an overlay gives an output, before the drive type. -/
def LightInput.rawLevel (i : LightInput) (scene : Fin 4) (r : Role) (o : Overlay) (p : Option Playback) : Nat :=
  match o.pattern, p with
  | some k, some q => (stepAt (i.settings.patterns.get k) q.index).level
  | some _, none => 0
  | none, _ =>
    match o with
    | .brake => i.settings.brakeLevel
    | .reverse => i.settings.reverseLevel
    | .scene => i.sceneLevel scene r
    | _ => 0

/-- Step 4 of R134 for one output: overlay, playback and selected level. -/
def LightInput.select (i : LightInput) (b : Lights) (before : LightOut) (c : OutputSetting) : LightOut :=
  let o := i.overlay b.leftTurn b.rightTurn c.role
  let p := nextPlayback before o b.patternWritten i.settings.patterns
  { before with overlay := o, playback := p, selected := c.drive.level (i.rawLevel b.scene c.role o p) }

/-! ### Sums, division and pins (R132, R144 to R146) -/

/-- An output's charge in mA. -/
def charge (o : LightOut) (c : OutputSetting) : Nat := c.nominal * o.selected / 255

/-- The sum of the charges of the outputs under signal overlays, or of all the others. -/
def chargeSum (signal : Bool) (outs : Eight LightOut) (cs : Eight OutputSetting) : Nat :=
  (outs.zipWith (fun o c => if o.overlay.signal = signal then charge o c else 0) cs).toList.sum

/-- The driven level of an output before the drive type, from the grant and the two sums in mA (R145). -/
def dividedLevel (grant signalSum ambientSum : Nat) (signal : Bool) (nominal level : Nat) : Nat :=
  if nominal = 0 then level
  else if signalSum + ambientSum ≤ grant then level
  else if signalSum ≤ grant then (if signal then level else level * (grant - signalSum) / ambientSum)
  else if signal then level * grant / signalSum
  else 0

/-- An ON_OFF output below 255 is driven at 0 (R145). -/
def DriveType.driven (d : DriveType) (v : Nat) : Nat :=
  match d with
  | .pwm => v
  | .onOff => if v < 255 then 0 else v

/-- What the pin does at a driven level (R132). -/
def DriveType.pin (d : DriveType) (v : Nat) : LightPin :=
  match d with
  | .pwm => if v = 0 then .released else .pwm v
  | .onOff => if v = 255 then .on else .released

/-- Step 6 of R134 for one output; in FAULT the selected level is driven undivided (R146). -/
def LightInput.output (i : LightInput) (signalSum ambientSum : Nat) (o : LightOut) (c : OutputSetting) : LightOut :=
  let v := if i.stage = .fault then o.selected
    else c.drive.driven (dividedLevel (i.grant * 100) signalSum ambientSum o.overlay.signal c.nominal o.selected)
  { o with driven := v, pin := c.drive.pin v }

/-! ### The step (R134) -/

/-- Steps 1 to 3: the grant is applied and the turn flags are updated. -/
def Lights.readStep (b : Lights) (i : LightInput) : Lights :=
  { b with grant := i.grant
           leftTurn := turnFlag b.leftTurn (-i.steer) i.settings.turnThreshold
           rightTurn := turnFlag b.rightTurn i.steer i.settings.turnThreshold }

/-- Steps 4 to 6. The pattern-written marks have been seen and are cleared (R139), and the report takes the scene and the
held position of this step (R148). -/
def Lights.showStep (b : Lights) (i : LightInput) : Lights :=
  let outs := b.outs.zipWith (i.select b) i.settings.outputs
  let sig := chargeSum true outs i.settings.outputs
  let amb := chargeSum false outs i.settings.outputs
  { b with outs := outs.zipWith (i.output sig amb) i.settings.outputs
           signalSum := sig
           ambientSum := amb
           demand := ceilDiv (sig + amb) 100
           stepScene := b.scene
           stepPos := b.heldPos
           patternWritten := .all false }

/-- One light step of LTC's own state. -/
def Lights.step (b : Lights) (i : LightInput) : Lights := (b.readStep i).showStep i

/-- What a light step reads from the state. -/
def State.lightInput (s : State) : LightInput :=
  ⟨s.bga.lights.grant, s.bsv.power, s.bsv.stage, s.rxl.link, s.stc.published, s.drc.brakeFlag, s.drc.reverseFlag,
    s.wnc.mode, s.w.ltc⟩

/-- A demand of LTC is posted (R50, R53). -/
def Budget.postLights (b : Budget) (d : Nat) : Budget := { b with lights := { b.lights with demand := d } }

/-- The light step. -/
def State.lightStep (s : State) : State :=
  let b := s.ltc.step s.lightInput
  (s.setLtc b).setBga (s.bga.postLights b.demand)

/-- LIGHT_STEP_EXPIRY (R134). -/
def execLightStepExpiry (s : State) : Host.Outcome State Fault Refusal := .next s.lightStep

/-- SET SCENE at execution: no authority check, and the held light position stays (R137). -/
def setSceneAnswer (b : Block) (_isLast : Bool) (s : State) : Answer :=
  withParam s (fourParam b.params) fun k => .good (s.setLtc { s.ltc with scene := k }) []

/-- SET_SCENE (R137). -/
def execSetScene (b : Block) (s : State) : Host.Outcome State Fault Refusal :=
  .next (s.runRequest .setScene b (setSceneAnswer b))

end Sys2Proof.Machine
end

