-- ==== Sys2Proof/Machine/Pst.lean ====
section
/-! DEFINITION. The Profile Store (chapter 10): loads, the program engine (R172), reading and writing settings (R170, R171)
and changes of the whole working copy (R173). Meanings: COMMIT_PROGRAMMING_END, PACK_SAVE_END, READ_SETTING,
WRITE_SETTING, SELECT_PROFILE, COMMIT_PROFILE, LOAD_DEFAULTS. -/

namespace Sys2Proof.Machine

/-! ### Loading the working copy (R168, R169, R173) -/

/-- A stored profile's contents; a record that does not match its CRC and is not marked is one whose programming has not
ended, and reads as free legal settings (entry 9). -/
def StoredProfile.read (p : StoredProfile) (free : Nat) : Settings :=
  match p with
  | .valid v => v
  | .invalid _ => Config.freeLegalSettings free

def StoredProfile.isValid : StoredProfile → Bool
  | .valid _ => true
  | .invalid _ => false

/-- The settings a load from a slot gives: the defaults if the slot is marked (R168). -/
def Store.load (p : Store) (slot : Fin 4) (free : Nat) : Settings :=
  if p.marks.get slot then .defaults else (p.slots.get slot).read free

/-- A load from a slot draws a free value. -/
def Store.loadsFree (p : Store) (slot : Fin 4) : Bool := !(p.marks.get slot) && !(p.slots.get slot).isValid

/-- The marks of the gears whose pulse setting changes (R99, entry 36). -/
def GearMarks.changed (m : GearMarks) (old new : DrcSettings) : GearMarks where
  high := m.high || old.highPulse ≠ new.highPulse
  low := m.low || old.lowPulse ≠ new.lowPulse
  dig := m.dig || old.digPulse ≠ new.digPulse

/-- The working copy changes, with the marks of R99. -/
def State.setWorking (s : State) (w : Settings) : State :=
  (s.setPst { s.pst with working := w }).setDrc
    { s.drc with pulseChanged := s.drc.pulseChanged.changed s.w.drc w.drc }

/-- The whole working copy is replaced: the staging list is emptied and every pattern counts as written (R173, R139,
entry 37). -/
def State.replaceWorking (s : State) (w : Settings) : State :=
  let t := s.setWorking w
  (t.setPst { t.pst with staging := none }).setLtc { t.ltc with patternWritten := .all true }

/-! ### The program engine (R172, R35, R46) -/

/-- The engine becomes IDLE: a pending pack save begins at once; otherwise, in SHUTDOWN, PWR_HOLD is released when
`last` says that nothing more is awaited (R46, R172). -/
def State.engineIdle (s : State) (last : Bool) : State :=
  let t := s.setPst { s.pst with engine := .idle }
  if t.pst.packPending then t.beginPackSave
  else if t.bsv.power = .shutdown ∧ last then t.releasePower
  else t

/-- The slot and its mark after a commit's read-back (R172, entry 8). -/
def Store.committed (p : Store) (slot : Fin 4) (contents : Settings) (verified : Bool) (free : Nat) : Store :=
  { p with slots := p.slots.set slot (if verified then .valid contents else .invalid (Config.freeCrc free))
           marks := p.marks.set slot (!verified) }

/-- PST reports the end of a commit to PLI, which completes the reply that a COMMIT PROFILE owes (R162, R172); a commit
that a RESET request has outlived has no reply any more. -/
def PitLink.commitEnded (p : PitLink) (verified : Bool) : PitLink :=
  if (p.owed.map Owed.code) = some Request.commitProfile.code then
    if verified then p.completeOwed .good [] else p.completeOwedCheck (Sense.of .storeWriteFailed) []
  else p

/-- COMMIT_PROGRAMMING_END (R172): without a commit in progress nothing ends. In FAULT the end of a commit releases
PWR_HOLD in SHUTDOWN (R46). -/
def execCommitProgrammingEnd (verified : Bool) (s : State) : Host.Outcome State Fault Refusal :=
  match s.pst.engine with
  | .commit slot contents =>
    .next ((((s.setPst (s.pst.committed slot contents verified s.free)).setPli (s.pli.commitEnded verified)).drawnIf
      (!verified)).engineIdle (s.bsv.stage = .fault))
  | _ => .next s

/-- The pack record after a save's read-back (R172). -/
def Store.saved (p : Store) (r : PackRecord) (verified : Bool) : Store :=
  { p with pack := if verified then .valid r else .invalid }

/-- A failed save reaches the deferred slot (R163). -/
def PitLink.saveEnded (p : PitLink) (verified : Bool) : PitLink :=
  if verified then p
  else { p with deferred := placeDeferred p.deferred ⟨0, Sense.of .storeWriteFailed, 0, 0, false⟩ }

/-- PACK_SAVE_END (R172): without a pack save in progress nothing ends. -/
def execPackSaveEnd (verified : Bool) (s : State) : Host.Outcome State Fault Refusal :=
  match s.pst.engine with
  | .pack r => .next (((s.setPst (s.pst.saved r verified)).setPli (s.pli.saveEnded verified)).engineIdle true)
  | _ => .next s

/-- A commit begins: while it programs, the slot does not match its CRC (R172, entry 8). -/
def State.beginCommit (s : State) : State :=
  (s.setPst { s.pst with engine := .commit s.pst.active s.w
                         slots := s.pst.slots.set s.pst.active (.invalid (Config.freeCrc s.free)) }).drawn

/-- COMMIT PROFILE at execution (R167, R172). -/
def commitAnswer (b : Block) (isLast : Bool) (s : State) : Answer :=
  withParam s (noParams b.params) fun _ => whenLast s isLast (whenStoreFree s (.owes s.beginCommit))

/-- COMMIT_PROFILE (R172). -/
def execCommitProfile (b : Block) (s : State) : Host.Outcome State Fault Refusal :=
  .next (s.runRequest .commitProfile b (commitAnswer b))

/-! ### READ SETTING and WRITE SETTING (R170) -/

/-- The data of a READ SETTING: the number, then the value (R170). -/
def readData (w : Settings) (i : SettingId) : List Byte := le16 i.number ++ settingBytes w i

/-- READ SETTING at execution. -/
def readSettingAnswer (b : Block) (_isLast : Bool) (s : State) : Answer :=
  withParam s (settingParam b.params) fun i => .good s (readData s.w i)

/-- READ_SETTING (R170). -/
def execReadSetting (b : Block) (s : State) : Host.Outcome State Fault Refusal :=
  .next (s.runRequest .readSetting b (readSettingAnswer b))

/-- The lock: the spool capacity and the count edge are refused while an operation record exists (R108, R104, R171). -/
def SettingId.locked (i : SettingId) (record : Bool) : Bool :=
  record && (i = .scalar .spoolCapacity || i = .scalar .countEdge)

/-- The spool capacity is not below a KNOWN line position (R108). -/
def positionFits (position : Option Nat) (capacity : Nat) : Bool :=
  match position with
  | some p => p ≤ capacity
  | none => true

/-- The order check of a written setting, on the working copy as the write would leave it (R29, R63, R78, R101, R108). -/
def SettingId.inOrder (i : SettingId) (w : Settings) (position : Option Nat) : Bool :=
  match i with
  | .scalar .warn | .scalar .storage => w.bsv.ordered
  | .scalar .cut => w.bsv.ordered && w.bsv.cut ≤ w.bga.sagStart
  | .scalar .sagStart | .scalar .sagEnd => w.sagOrdered
  | .scalar .frontMin | .scalar .frontCentre | .scalar .frontMax => w.stc.front.ordered
  | .scalar .rearMin | .scalar .rearCentre | .scalar .rearMax => w.stc.rear.ordered
  | .scalar .curve0 | .scalar .curve1 | .scalar .curve2 | .scalar .curve3 | .scalar .curve4 => w.drc.curve.ordered
  | .scalar .spoolCapacity => w.wnc.ordered && positionFits position w.wnc.spoolCapacity
  | .scalar .lineReserve => w.wnc.ordered
  | _ => true

/-- A part with f = 7 or 13, as its first byte says, that does not follow on: the staging list is not for the same pattern
and the same n, or does not hold f − 1 steps (R170). Its length does not matter (section 10.5.1). -/
def Staging.strays (st : Option Staging) (k : Fin 8) : List Byte → Bool
  | f :: rest =>
    (f.toNat = 7 || f.toNat = 13) &&
      match st, rest with
      | some x, n :: _ => !(x.pattern = k && x.count = n.toNat && x.steps.length = f.toNat - 1)
      | _, _ => true
  | [] => false

/-- The staging list that a part which does not stray leaves, before it is judged complete (R170). -/
def Staging.extend (st : Option Staging) (k : Fin 8) (p : PatternPart) : Staging :=
  ⟨k, p.count, (if p.first = 1 then [] else (st.map Staging.steps).getD []) ++ p.steps⟩

/-- The staging list is replaced. -/
def State.stage (s : State) (st : Option Staging) : State := s.setPst { s.pst with staging := st }

/-- A pattern is replaced, the staging list emptied, and the pattern marked as written (R139, R170). -/
def State.writePattern (s : State) (k : Fin 8) (l : List PatternStep) : State :=
  ((s.stage none).setWorking (setPattern s.w k l)).setLtc
    { s.ltc with patternWritten := s.ltc.patternWritten.set k true }

/-- WRITE SETTING of one part of a pattern (R170). A part that does not follow on empties the staging list, whatever its
form; any other part whose own form is refused leaves the list as it was (entry 57). -/
def writePart (s : State) (k : Fin 8) (v : List Byte) : Answer :=
  if Staging.strays s.pst.staging k v then .check (s.stage none) .badParameter
  else match patternPartOf v with
    | none => .check s .badParameter
    | some p =>
      let st := Staging.extend s.pst.staging k p
      if st.steps.length < st.count then .good (s.stage (some st)) []
      else if patternLegal st.steps then .good (s.writePattern k st.steps) []
      else .check (s.stage none) .badParameter

/-- WRITE SETTING of any other setting: range, lock, order (R170). -/
def writeWhole (s : State) (i : SettingId) (v : List Byte) : Answer :=
  match writeValue s.w i v with
  | none => .check s .badParameter
  | some w =>
    if i.locked s.wnc.record.isSome then .check s .settingInUse
    else if i.inOrder w s.wnc.position then .good (s.setWorking w) []
    else .check s .settingOrder

/-- WRITE SETTING at execution (R170). -/
def writeSettingAnswer (b : Block) (_isLast : Bool) (s : State) : Answer :=
  withParam s (settingValueParam b.params) fun p =>
    match p.1 with
    | .pattern k => writePart s k p.2
    | i => writeWhole s i p.2

/-- WRITE_SETTING (R170). -/
def execWriteSetting (b : Block) (s : State) : Host.Outcome State Fault Refusal :=
  .next (s.runRequest .writeSetting b (writeSettingAnswer b))

/-! ### Changes of the whole working copy (R173) -/

/-- SELECT PROFILE taken: the index and the working copy; a load that draws a free value does not arise here, since no
slot is being programmed. -/
def State.selectProfile (s : State) (k : Fin 4) : State :=
  let t := (s.replaceWorking (s.pst.load k s.free)).drawnIf (s.pst.loadsFree k)
  t.setPst { t.pst with active := k }

/-- SELECT PROFILE at execution: STORE_BUSY, then the motion check (R160, R167, R173). -/
def selectAnswer (b : Block) (_isLast : Bool) (s : State) : Answer :=
  withParam s (fourParam b.params) fun k =>
    whenStoreFree s (if s.standing then .good (s.selectProfile k) [] else .check s .inMotion)

/-- SELECT_PROFILE (R173). -/
def execSelectProfile (b : Block) (s : State) : Host.Outcome State Fault Refusal :=
  .next (s.runRequest .selectProfile b (selectAnswer b))

/-- The defaults as LOAD DEFAULTS loads them: while an operation record exists, the spool capacity, the count edge and
the line reserve keep their present values (R173). -/
def loadedDefaults (w : Settings) (record : Bool) : Settings :=
  if record then
    { Settings.defaults with wnc := { WncSettings.defaults with
        spoolCapacity := w.wnc.spoolCapacity, countEdge := w.wnc.countEdge, lineReserve := w.wnc.lineReserve } }
  else .defaults

/-- LOAD DEFAULTS at execution (R173). -/
def loadDefaultsAnswer (b : Block) (_isLast : Bool) (s : State) : Answer :=
  withParam s (noParams b.params) fun _ =>
    whenStoreFree s (.good (s.replaceWorking (loadedDefaults s.w s.wnc.record.isSome)) [])

/-- LOAD_DEFAULTS (R173). -/
def execLoadDefaults (b : Block) (s : State) : Host.Outcome State Fault Refusal :=
  .next (s.runRequest .loadDefaults b (loadDefaultsAnswer b))

end Sys2Proof.Machine
end

