-- ==== Sys2Proof/Machine/Wnc.lean ====
section
/-! DEFINITION. The Winch Controller (chapter 6). Meanings: WINCH_UPDATE_EXPIRY, BACK_OFF_TIMER_EXPIRY,
DRUM_PULSE_ARRIVAL, HOOK_HOME_ARRIVAL and the eight winch requests. -/

namespace Sys2Proof.Machine

/-! ### Line position (R105, R106) -/

/-- The hook-home arrival's effect on WNC's own state: position 0 and KNOWN, reserve-warned clear, the level seen
active (R106). -/
def Winch.hookArrived (b : Winch) : Winch := { b with position := some 0, reserveWarned := false, hookHome := true }

/-- The line position after a pulse (R105): past either end of the drum it becomes UNKNOWN, but for a pulse IN at 0 with
HOOK_HOME active. -/
def Winch.movedPosition (b : Winch) (dir : WinchDir) : Option Nat :=
  match b.position, dir with
  | none, _ => none
  | some p, .out => if b.capacity < p + 1 then none else some (p + 1)
  | some 0, .inward => if b.hookHome then some 0 else none
  | some (p + 1), .inward => some p

/-- The direction WNC gives a pulse (R104). -/
def Winch.pulseDir (b : Winch) : WinchDir :=
  match b.bridge with
  | .windOut => .out
  | .windIn => .inward
  | .opened => if b.mode = .freespool then .out else b.drivenDir
  | .brake => b.drivenDir

/-- The position is KNOWN and at the spool capacity. -/
def Winch.atCapacity (b : Winch) : Bool :=
  match b.position with
  | some p => b.capacity ≤ p
  | none => false

/-- The position is 0 and KNOWN. -/
def Winch.atZero (b : Winch) : Bool := b.position = some 0

/-- Which edges count (R104). -/
def CountEdge.counts : CountEdge → Edge → Bool
  | .both, _ => true
  | .rising, .rising => true
  | .falling, .falling => true
  | _, _ => false

/-! ### Pulses and the operation record (R118, R120, R124) -/

/-- The record after a pulse: the moved count, and the first pulse in the record's direction after a back-off (R118,
R124). -/
def OpRecord.pulse (r : OpRecord) (dir : WinchDir) : OpRecord :=
  if dir = r.kind.dir then
    { r with moved := r.moved + 1, recoveryAwaited := false,
             recovered := if r.recoveryAwaited then r.recovered + 1 else r.recovered }
  else { r with moved := r.moved - 1 }

/-- The reserve is entered at this pulse for the first time since the position was 0 (R120). -/
def Winch.entersReserve (b : Winch) (r : OpRecord) (lineReserve : Nat) : Bool :=
  r.kind = .payOut && !b.reserveWarned &&
    (match b.remaining with
      | some m => m ≤ lineReserve
      | none => false)

/-- WNC's own state after a pulse, before its endings are judged: position, then counts, then the reserve (R104, R105,
R118, R120). The stall time restarts at a pulse in the record's direction, and in DRIVEN in the driven direction
(R124). -/
def Winch.countPulse (b : Winch) (lineReserve : Nat) : Winch :=
  let dir := b.pulseDir
  let p := b.movedPosition dir
  let c := { b with pulseSinceScan := true, position := p, reserveWarned := if p = some 0 then false else b.reserveWarned }
  match b.record with
  | none => { c with stallTime := if b.mode = .driven ∧ dir = b.drivenDir then 0 else b.stallTime }
  | some r =>
    let q := r.pulse dir
    let enters := c.entersReserve q lineReserve
    { c with stallTime := if dir = r.kind.dir then 0 else b.stallTime
             reserveWarned := c.reserveWarned || enters
             record := some { q with reserveNoted := q.reserveNoted || enters } }

/-- An ending that is judged: its outcome is `none` for GOOD. -/
abbrev Ending := Option (Option SenseKind)

/-- The ending by the count (R120, R121, R122). -/
def Winch.countEnding (b : Winch) (r : OpRecord) : Ending :=
  if r.moved < r.target then none
  else match r.kind with
    | .payOut => some (if r.reserveNoted then some .lineReserve else none)
    | .haulIn => some none
    | .assistHaul => some none
    | .haulToTension => some (some .tensionNotReached)
    | .home => some (if b.hookHome then none else some .lineEnd)

/-- The ending by the spool capacity (R120). -/
def Winch.capacityEnding (b : Winch) (r : OpRecord) : Ending :=
  if r.kind = .payOut ∧ b.atCapacity then some (some .lineEnd) else none

/-- The ending by the hook-home switch (R121). -/
def Winch.hookEnding (b : Winch) (r : OpRecord) : Ending :=
  if b.hookHome then
    match r.kind with
    | .payOut => none
    | .home => some none
    | _ => some (some .hookHome)
  else none

/-- The first of two endings that holds. -/
def Ending.first (a b : Ending) : Ending :=
  match a with
  | some o => some o
  | none => b

/-- The endings of a pulse: count, then capacity, then hook home (R119). -/
def Winch.pulseEnding (b : Winch) : Ending :=
  match b.record with
  | none => none
  | some r => (b.countEnding r).first ((b.capacityEnding r).first (b.hookEnding r))

/-- An ending is taken, if one holds. -/
def State.takeEnding (s : State) (e : Ending) : State :=
  match e with
  | none => s
  | some o => s.endOperation o

/-- WNC after an update or a pulse, as REPORT STATUS shows it (R131). -/
def State.showWinch (s : State) : State := s.setWnc s.wnc.showNow

/-- One counted pulse: counts, endings, and then the WINCH boundary (R6, R104, R119, R131). -/
def State.drumPulse (s : State) : State :=
  let t := s.setWnc (s.wnc.countPulse s.w.wnc.lineReserve)
  (t.takeEnding t.wnc.pulseEnding).showWinch.winchBoundary

/-- DRUM_PULSE_ARRIVAL (R104): an edge that the count edge in force does not select is no pulse (entry 35). -/
def execDrumPulseArrival (edge : Edge) (s : State) : Host.Outcome State Fault Refusal :=
  if s.wnc.edge.counts edge then .next s.drumPulse else .next s

/-- HOOK_HOME_ARRIVAL (R106, R121). -/
def execHookHomeArrival (s : State) : Host.Outcome State Fault Refusal :=
  let t := s.setWnc s.wnc.hookArrived
  match t.wnc.record with
  | none => .next t
  | some r => .next (t.takeEnding (t.wnc.hookEnding r))

/-! ### The winch update (R109) -/

/-- Stage 1: the latest grant is applied, and a written spool capacity or count edge takes effect; a KNOWN position above
the capacity becomes UNKNOWN (R62, R104, R108). -/
def Winch.applySettings (b : Winch) (grant : Nat) (w : WncSettings) : Winch :=
  { b with grant := grant
           cap := dutyCap grant w.stallCurrent
           capacity := w.spoolCapacity
           edge := w.countEdge
           position := match b.position with
             | some p => if w.spoolCapacity < p then none else some p
             | none => none }

/-- Stage 2: the level of HOOK_HOME is read; a change from inactive to active is a hook-home arrival (R106, R107, entry
29). -/
def Winch.readHook (b : Winch) (level : Bool) : Winch :=
  if level && !b.hookHome then b.hookArrived else { b with hookHome := level }

/-- The condition for leaving JAMMED: a WINCH STOP since the previous update, or the radio's stick at neutral (R125). -/
def mayLeaveJam (b : Winch) (holder : Holder) (e : WinchEntry) : Bool :=
  b.stopMark || (holder = .radio && e.speed = 0)

/-- Stage 3: the winch mode (R110). -/
def findMode (b : Winch) (power : PowerState) (holder : Holder) (e : WinchEntry) : WinchMode :=
  if power = .shutdown then .hold
  else if b.mode = .jammed ∧ mayLeaveJam b holder e = false then .jammed
  else if power = .parked then .hold
  else if b.record.isSome then .operation
  else match e.kind with
    | .freespool => .freespool
    | .speed => if e.speed = 0 then .hold else .driven
    | .operation => .hold
    | .hold => .hold

/-- The ending by the stage or the power state (R126). -/
def stageEnding (stage : Stage) (power : PowerState) : Ending :=
  if stage = .cut ∨ stage = .fault ∨ power = .shutdown then some (some .stageCut) else none

/-- The ending by 2000 ms of starvation (R123). -/
def starvationEnding (r : OpRecord) : Ending :=
  match r.starvedFor with
  | some t => if 2000 ≤ t then some (some .budgetWithdrawn) else none
  | none => none

/-- Stage 4: the endings of an update: stage, hook home, capacity, starvation (R119). -/
def Winch.updateEnding (b : Winch) (stage : Stage) (power : PowerState) : Ending :=
  match b.record with
  | none => none
  | some r => (stageEnding stage power).first ((b.hookEnding r).first ((b.capacityEnding r).first (starvationEnding r)))

/-- The other direction. -/
def WinchDir.opposite : WinchDir → WinchDir
  | .out => .inward
  | .inward => .out

/-- A target duty and its direction. -/
structure WinchTarget where
  duty : Nat
  dir : WinchDir
  deriving DecidableEq, Repr

/-- The target of DRIVEN: the stick's magnitude, withheld at either end of the drum (R113). -/
def Winch.drivenTarget (b : Winch) (speed : Int) : WinchTarget :=
  if 0 < speed then ⟨if b.position = some b.capacity then 0 else speed.natAbs, .out⟩
  else ⟨if b.hookHome then 0 else speed.natAbs, .inward⟩

/-- The target of OPERATION: the operation duty in the record's direction, in the opposite one during a back-off, and
withheld at the end of the drum (R118). -/
def Winch.operationTarget (b : Winch) (r : OpRecord) (duty : Nat) : WinchTarget :=
  if b.backOff then ⟨duty, r.kind.dir.opposite⟩
  else if (r.kind = .payOut ∧ b.atCapacity) ∨ (r.kind ≠ .payOut ∧ r.kind ≠ .home ∧ b.hookHome) then ⟨0, r.kind.dir⟩
  else ⟨duty, r.kind.dir⟩

/-- The stages in which the winch may be driven (R111, R115). -/
def Stage.winchWorks : Stage → Bool
  | .normal | .warn | .limit => true
  | .ident | .cut | .shutdown | .fault => false

/-- Step 1 of R111: the target of the mode; 0 outside NORMAL, WARN and LIMIT. A mode without a direction keeps the
requested direction (entry 34). -/
def Winch.target (b : Winch) (stage : Stage) (e : WinchEntry) (w : WncSettings) : WinchTarget :=
  let t : WinchTarget := match b.mode, b.record with
    | .driven, _ => b.drivenTarget e.speed
    | .operation, some r => b.operationTarget r w.operationDuty
    | _, _ => ⟨0, b.requestedDir⟩
  if stage.winchWorks then t else { t with duty := 0 }

/-- Starved: a requested duty above 0 with the applied grant below the floor in force, or with a cap of 0 (R111). -/
def Winch.starved (b : Winch) (floor : Nat) : Bool := 0 < b.requested && (b.grant < floor || b.cap = 0)

/-- The bridge action of an update (R111). -/
def Winch.action (b : Winch) (power : PowerState) : WinchBridge :=
  if power = .shutdown then .opened
  else if 0 < b.present then (if b.requestedDir = .out then .windOut else .windIn)
  else if b.mode = .freespool then .opened
  else .brake

/-- Step 2 of R111: the requested duty under the ramp. It starts from 0 at a change of direction or from rest. -/
def Winch.request (b : Winch) (t : WinchTarget) (ramp : Nat) : Winch :=
  let fresh := t.dir ≠ b.requestedDir ∨ b.requested = 0
  let prev := if fresh then 0 else b.requested
  { b with requested := if prev ≤ t.duty then min t.duty (prev + ramp) else t.duty
           present := if fresh then 0 else b.present
           requestedDir := t.dir }

/-- Step 3 of R111: the present duty under the cap and the ramp, 0 when starved. -/
def Winch.grantDuty (b : Winch) (floor ramp : Nat) : Winch :=
  { b with present := if b.starved floor then 0 else min b.requested (min b.cap (b.present + ramp)) }

/-- The bridge is set; the driven direction takes the direction of an action that drives (R111). -/
def Winch.setBridge (b : Winch) (power : PowerState) : Winch :=
  let a := b.action power
  { b with bridge := a
           drivenDir := match a with
             | .windOut => .out
             | .windIn => .inward
             | _ => b.drivenDir }

/-- Stage 5 (R111). -/
def Winch.drive (b : Winch) (stage : Stage) (power : PowerState) (e : WinchEntry) (w : WncSettings) (floor : Nat) : Winch :=
  ((b.request (b.target stage e w) w.winchRamp).grantDuty floor w.winchRamp).setBridge power

/-- The tension run of HAUL_TO_TENSION after an update (R122). -/
def OpRecord.tensionRun (r : OpRecord) (bridge : WinchBridge) (current : Nat) : Nat :=
  if r.kind = .haulToTension ∧ bridge = .windIn ∧ r.tension ≤ current then r.run + 1 else 0

/-- The run has reached K (R122). -/
def OpRecord.settled (r : OpRecord) : Bool := r.kind = .haulToTension && r.settle ≤ r.run

/-- Stage 6, the tension run. -/
def Winch.measureTension (b : Winch) (current : Nat) : Winch :=
  match b.record with
  | none => b
  | some r => { b with record := some { r with run := r.tensionRun b.bridge current } }

/-- No tension run is counting (R124). -/
def Winch.noTensionRun (b : Winch) : Bool :=
  match b.record with
  | some r => r.run = 0
  | none => true

/-- Stage 6, the stall time (R124), within its range of 0 to 300 (R103). -/
def Winch.measureStall (b : Winch) (current jamCurrent : Nat) : Winch :=
  { b with stallTime :=
      if 200 ≤ b.present ∧ jamCurrent ≤ current ∧ b.backOff = false ∧ b.noTensionRun then min 300 (b.stallTime + 5)
      else 0 }

/-- A jam in DRIVEN: JAMMED at once, without retries (R124). The stall time stays at the 300 that declared the jam until an
update sets it anew, DESIGN CHOICE: R124 sets it to 0 for a retry only, and no rule says what becomes of it here (entry
59). -/
def Winch.jamDriven (b : Winch) : Winch := { b with mode := .jammed, requested := 0, present := 0, bridge := .brake }

/-- A jam with a retry left: the back-off starts (R124). -/
def Winch.jamRetry (b : Winch) (r : OpRecord) : Winch :=
  { b with stallTime := 0, backOff := true, record := some { r with retries := r.retries + 1 } }

/-- A declared jam (R124): in DRIVEN, with a retry left, or the fourth of an operation, which ends it in JAMMED. -/
def State.jam (s : State) : State :=
  match s.wnc.record with
  | some r =>
    if r.retries < 3 then s.setWnc (s.wnc.jamRetry r)
    else (s.setWnc { s.wnc with mode := .jammed }).endOperation (some .winchJammed)
  | none => s.setWnc s.wnc.jamDriven

/-- A jam is declared when the stall time has reached 300 ms (R124). -/
def State.judgeJam (s : State) : State := if 300 ≤ s.wnc.stallTime then s.jam else s

/-- The tension run completes an operation (R122). -/
def State.judgeTension (s : State) : State :=
  match s.wnc.record with
  | some r => if r.settled then s.endOperation none else s
  | none => s

/-- The starvation measure after an update: the time since the first update of the present starvation (R123, entry 32). -/
def OpRecord.starvation (r : OpRecord) (starved : Bool) : Option Nat :=
  if starved then
    match r.starvedFor with
    | none => some 0
    | some t => some (t + 5)
  else none

/-- Stage 6, the starvation measure. -/
def Winch.measureStarvation (b : Winch) (floor : Nat) : Winch :=
  match b.record with
  | none => b
  | some r => { b with record := some { r with starvedFor := r.starvation (b.starved floor) } }

/-- Stages 1 to 3 of an update: the stop mark is cleared once the mode is found (R109, R110). -/
def State.winchRead (s : State) (level : Bool) : State :=
  let b := (s.wnc.applySettings s.bga.winch.grant s.w.wnc).readHook level
  s.setWnc { b with mode := findMode b s.bsv.power s.au.winch.holder s.au.image.winch, stopMark := false }

/-- Stage 4 (R119). -/
def State.winchEnd (s : State) : State := s.takeEnding (s.wnc.updateEnding s.bsv.stage s.bsv.power)

/-- Stage 5 (R111). -/
def State.winchDrive (s : State) : State :=
  s.setWnc (s.wnc.drive s.bsv.stage s.bsv.power s.au.image.winch s.w.wnc s.w.bga.winchFloor)

/-- Stage 6: the tension run and its ending, the stall time and its jam, the starvation measure (R119, R122 to R124,
entry 31). -/
def State.winchMeasure (s : State) : State :=
  let t := (s.setWnc (s.wnc.measureTension s.bsv.winchCurrent)).judgeTension
  let u := (t.setWnc (t.wnc.measureStall t.bsv.winchCurrent t.w.wnc.jamCurrent)).judgeJam
  u.setWnc (u.wnc.measureStarvation u.w.bga.winchFloor)

/-- A demand of WNC is posted (R50). -/
def Budget.postWinch (b : Budget) (d : Nat) : Budget := { b with winch := { b.winch with demand := d } }

/-- Stage 7: the demand of the requested duty (R52, R112). -/
def State.winchPost (s : State) : State :=
  s.setBga (s.bga.postWinch (dutyDemand s.wnc.requested s.w.wnc.stallCurrent))

/-- WINCH_UPDATE_EXPIRY (R109, R131); the operand is the level of HOOK_HOME. -/
def execWinchUpdateExpiry (hookHome : Bool) (s : State) : Host.Outcome State Fault Refusal :=
  .next ((((s.winchRead hookHome).winchEnd).winchDrive).winchMeasure).winchPost.showWinch

/-- The record at the expiry of a back-off: recovery is awaited (R124). -/
def Winch.backOffOver (b : Winch) : Winch :=
  { b with backOff := false, record := b.record.map fun r => { r with recoveryAwaited := true } }

/-- BACK_OFF_TIMER_EXPIRY (R124): a stopped timer does not expire. -/
def execBackOffTimerExpiry (s : State) : Host.Outcome State Fault Refusal :=
  if s.wnc.backOff then .next (s.setWnc s.wnc.backOffOver) else .next s

/-- The pins of the winch bridge (R111): WCH_A asserted, WCH_B asserted, WCH_EN's modulation, 1000 for asserted in full. -/
structure WinchPins where
  a : Bool
  b : Bool
  en : Nat
  deriving DecidableEq, Repr

/-- WCH_A, WCH_B and WCH_EN (R111). -/
def Winch.pins (b : Winch) : WinchPins :=
  match b.bridge with
  | .windOut => ⟨true, false, b.present⟩
  | .windIn => ⟨false, true, b.present⟩
  | .brake => ⟨true, true, 1000⟩
  | .opened => ⟨false, false, 0⟩

/-! ### Operation requests (R13, R116, R117) -/

/-- A new record (R116). -/
def OpRecord.new (kind : OpKind) (target tension settle : Nat) (immediate : Bool) : OpRecord where
  kind := kind
  target := target
  moved := 0
  tension := tension
  settle := settle
  run := 0
  immediate := immediate
  reserveNoted := false
  retries := 0
  recovered := 0
  recoveryAwaited := false
  starvedFor := none

/-- The refusals of R13 and of cases 1 to 4 of R117, which every operation request meets. -/
def operationRefusal (s : State) : Option SenseKind :=
  if s.au.winch.holder ≠ .pit then some .notHolder
  else if s.wnc.record.isSome then some .inMotion
  else if s.au.winch.pending = some .radio then some .radioActive
  else if s.wnc.mode = .jammed then some .winchJammedState
  else if s.bsv.stage = .cut ∨ s.bsv.stage = .fault then some .stageCut
  else none

/-- The WINCH entry at the creation of a record (R4). -/
def Authority.operationStarts (a : Authority) : Authority := { a with image := { a.image with winch := ⟨.operation, 0⟩ } }

/-- The record is created: the WINCH entry becomes OPERATION, the stall time and the back-off timer start afresh (R116). -/
def State.createRecord (s : State) (r : OpRecord) : State :=
  (s.setWnc { s.wnc with record := some r, stallTime := 0, backOff := false }).setAu s.au.operationStarts

/-- The answer of a taken operation: GOOD at once when IMMEDIATE, else the reply is owed (R162, R163). -/
def operationTaken (s : State) (immediate : Bool) : Answer := if immediate then .good s [] else .owes s

/-- An operation request that is not an assisted haul, its parameters parsed and its "last unless IMMEDIATE" checked
(R117). -/
def startOperation (s : State) (r : OpRecord) (extra : Option SenseKind) : Answer :=
  match operationRefusal s, extra with
  | some k, _ => .check s k
  | none, some k => .check s k
  | none, none => operationTaken (s.createRecord r) r.immediate

/-- Is the block the last of its batch, or IMMEDIATE (R167)? -/
def lastUnlessImmediate (b : Block) (isLast : Bool) : Bool := isImmediate b || isLast

/-- WINCH PAY OUT at execution: case 5 of R117 refuses it with the position UNKNOWN. -/
def payOutAnswer (b : Block) (isLast : Bool) (s : State) : Answer :=
  withParam s (wordParam 1 20000 b.params) fun n =>
    whenLast s (lastUnlessImmediate b isLast)
      (startOperation s (.new .payOut n 0 0 (isImmediate b)) (if s.wnc.position.isNone then some .positionUnknown else none))

/-- WINCH_PAY_OUT (R117). -/
def execWinchPayOut (b : Block) (s : State) : Host.Outcome State Fault Refusal :=
  .next (s.runRequest .winchPayOut b (payOutAnswer b))

/-- WINCH HAUL IN at execution. -/
def haulInAnswer (b : Block) (isLast : Bool) (s : State) : Answer :=
  withParam s (wordParam 1 20000 b.params) fun n =>
    whenLast s (lastUnlessImmediate b isLast) (startOperation s (.new .haulIn n 0 0 (isImmediate b)) none)

/-- WINCH_HAUL_IN (R117). -/
def execWinchHaulIn (b : Block) (s : State) : Host.Outcome State Fault Refusal :=
  .next (s.runRequest .winchHaulIn b (haulInAnswer b))

/-- WINCH HAUL TO TENSION at execution: the target count is the pulse allowance (R116, R122). -/
def haulToTensionAnswer (b : Block) (isLast : Bool) (s : State) : Answer :=
  withParam s (tensionParam b.params) fun p =>
    whenLast s (lastUnlessImmediate b isLast)
      (startOperation s (.new .haulToTension p.allowance p.tension p.settle (isImmediate b)) none)

/-- WINCH_HAUL_TO_TENSION (R122). -/
def execWinchHaulToTension (b : Block) (s : State) : Host.Outcome State Fault Refusal :=
  .next (s.runRequest .winchHaulToTension b (haulToTensionAnswer b))

/-- WINCH HOME at execution: the target count is the spool capacity at acceptance (R116, R121, entry 33). -/
def homeAnswer (b : Block) (isLast : Bool) (s : State) : Answer :=
  withParam s (noParams b.params) fun _ =>
    whenLast s (lastUnlessImmediate b isLast) (startOperation s (.new .home s.wnc.capacity 0 0 (isImmediate b)) none)

/-- WINCH_HOME (R121). -/
def execWinchHome (b : Block) (s : State) : Host.Outcome State Fault Refusal :=
  .next (s.runRequest .winchHome b (homeAnswer b))

/-- AU's judgement of an assisted haul: `none` takes it (R17). -/
def assistRefusal (a : Authority) : Option SenseKind :=
  match a.drive.holder with
  | .radio => if a.image.drive.throttle = 0 then none else some .radioActive
  | .noParty =>
    match a.drive.pending with
    | none => none
    | some .radio => some .radioActive
    | some _ => some .autoHeld
  | .auto _ => some .autoHeld
  | .pit => some .notHolder

/-- An assisted haul is taken: DRIVE is given pending AUTO(ASSIST), the record is created, and STC's restraint is in
force (R17, R72, R129). -/
def State.startAssist (s : State) (r : OpRecord) : State :=
  let t := s.createRecord r
  (t.setAu { t.au with drive := { t.au.drive with pending := some .assist } }).setStc { t.stc with restraint := true }

/-- WINCH ASSIST HAUL at execution: case 6 of R117. -/
def assistHaulAnswer (b : Block) (isLast : Bool) (s : State) : Answer :=
  withParam s (wordParam 1 20000 b.params) fun n =>
    whenLast s (lastUnlessImmediate b isLast)
      (match operationRefusal s, assistRefusal s.au with
        | some k, _ => .check s k
        | none, some k => .check s k
        | none, none => operationTaken (s.startAssist (.new .assistHaul n 0 0 (isImmediate b))) (isImmediate b))

/-- WINCH_ASSIST_HAUL (R17). -/
def execWinchAssistHaul (b : Block) (s : State) : Host.Outcome State Fault Refusal :=
  .next (s.runRequest .winchAssistHaul b (assistHaulAnswer b))

/-- WINCH FREESPOOL at execution (R13, R114). -/
def freespoolAnswer (b : Block) (_isLast : Bool) (s : State) : Answer :=
  withParam s (noParams b.params) fun _ =>
    if s.au.winch.holder ≠ .pit then .check s .notHolder
    else if s.wnc.record.isSome then .check s .inMotion
    else if s.wnc.mode = .jammed then .check s .winchJammedState
    else .good (s.setAu { s.au with image := { s.au.image with winch := ⟨.freespool, 0⟩ } }) []

/-- WINCH_FREESPOOL (R114). -/
def execWinchFreespool (b : Block) (s : State) : Host.Outcome State Fault Refusal :=
  .next (s.runRequest .winchFreespool b (freespoolAnswer b))

/-- A FREESPOOL entry ends with a WINCH STOP (R4, R128). -/
def Authority.endFreespool (a : Authority) : Authority :=
  if a.image.winch.kind = .freespool then { a with image := { a.image with winch := ⟨.hold, 0⟩ } } else a

/-- The effect of a WINCH STOP: the record ends, a FREESPOOL entry ends, and the stop mark is set (R128). -/
def State.winchStop (s : State) : State :=
  let t := s.endOperation (some .byRequest)
  (t.setAu t.au.endFreespool).setWnc { t.wnc with stopMark := true }

/-- WINCH STOP at execution: no authority check (R13, R128). -/
def winchStopAnswer (b : Block) (_isLast : Bool) (s : State) : Answer :=
  withParam s (noParams b.params) fun _ => .good s.winchStop []

/-- WINCH_STOP (R128). -/
def execWinchStop (b : Block) (s : State) : Host.Outcome State Fault Refusal :=
  .next (s.runRequest .winchStop b (winchStopAnswer b))

/-- ABORT at execution (R128). -/
def abortAnswer (b : Block) (_isLast : Bool) (s : State) : Answer :=
  withParam s (noParams b.params) fun _ => .good (s.endOperation (some .byRequest)) []

/-- ABORT (R128). -/
def execAbort (b : Block) (s : State) : Host.Outcome State Fault Refusal := .next (s.runRequest .abort b (abortAnswer b))

end Sys2Proof.Machine
end

