-- ==== Sys2Proof/Machine/Report.lean ====
section
/-! DEFINITION. The exempt requests: REPORT_STATUS with its nine sections (R166; entry 38 says where the layout is a
choice), REQUEST_SENSE (R164) and IDENTIFY (R166). -/

namespace Sys2Proof.Machine

/-! ### Fields (R166) -/

/-- An optional quantity of 2 bytes, 0xFFFF when empty. -/
def le16Opt (n : Option Nat) : List Byte := le16 (n.getD 0xFFFF)

/-- An optional signed quantity of 2 bytes, 0x8000 when empty. -/
def leSignedOpt (v : Option Int) : List Byte :=
  match v with
  | some v => leSigned v
  | none => le16 0x8000

/-- A named value as 1 byte, 0xFF when empty. -/
def placeByte (n : Option Nat) : Byte := byteOf (n.getD 0xFF)

def Holder.place : Holder → Nat
  | .radio => 0
  | .pit => 1
  | .auto _ => 2
  | .noParty => 3

def Holder.reasonPlace : Holder → Option Nat
  | .auto .failsafe => some 0
  | .auto .assist => some 1
  | _ => none

def PendingHolder.place : PendingHolder → Nat
  | .radio => 0
  | .noParty => 1
  | .assist => 2

def LinkState.place : LinkState → Nat
  | .absent => 0
  | .live => 1
  | .hold => 2
  | .lost => 3
  | .recovering => 4

def Stage.place : Stage → Nat
  | .ident => 0
  | .normal => 1
  | .warn => 2
  | .limit => 3
  | .cut => 4
  | .shutdown => 5
  | .fault => 6

def PowerState.place : PowerState → Nat
  | .active => 0
  | .parked => 1
  | .shutdown => 2

def ResetCause.place : ResetCause → Nat
  | .powerOn => 0
  | .brownout => 1
  | .request => 2

def GrantState.place : GrantState → Nat
  | .full => 0
  | .partly => 1
  | .starved => 2

def DirState.place : DirState → Nat
  | .neutral => 0
  | .forward => 1
  | .brake => 2
  | .gate => 3
  | .reverse => 4

def WinchMode.place : WinchMode → Nat
  | .hold => 0
  | .driven => 1
  | .operation => 2
  | .freespool => 3
  | .jammed => 4

def OpKind.place : OpKind → Nat
  | .payOut => 0
  | .haulIn => 1
  | .haulToTension => 2
  | .home => 3
  | .assistHaul => 4

def Overlay.place : Overlay → Nat
  | .fault => 0
  | .cut => 1
  | .hazard => 2
  | .warn => 3
  | .turn => 4
  | .brake => 5
  | .reverse => 6
  | .beacon => 7
  | .scene => 8
  | .off => 9

def Attention.place : Attention → Nat
  | .resetOccurred => 0
  | .packChanged => 1
  | .defaultsLoaded => 2

def Engine.place : Engine → Nat
  | .idle => 0
  | .commit _ _ => 1
  | .pack _ => 1

/-! ### Section 0: authority (R1) -/

/-- The time left on a row's pit hold deadline: free within 0 to 500 while it runs, else empty (entry 5). -/
def timeLeft (r : AuthRow) (free : Nat) : Option Nat := if r.deadline then some (Config.freeBelow 501 free) else none

/-- A row of section 0. -/
def AuthRow.report (r : AuthRow) (left : Option Nat) : List Byte :=
  [byteOf r.holder.place, placeByte r.holder.reasonPlace, placeByte (r.pending.map PendingHolder.place)] ++ le16Opt left

/-- Section 0; the STEER row's time left is the draw after that of the DRIVE row. -/
def Authority.report (a : Authority) (free : Nat) : List Byte :=
  List.flatten [a.drive.report (timeLeft a.drive free),
    a.steer.report (timeLeft a.steer (free + flagNat a.drive.deadline)), a.gear.report none, a.winch.report none]

/-! ### Section 1: receiver link (R157) -/

/-- Section 1. R157 does not order the six functions; they stand as R171 lists their bindings: THROTTLE, STEER, STEER_MODE,
GEAR, WINCH, LIGHTS (DESIGN CHOICE, entry 38). -/
def Receiver.report (b : Receiver) : List Byte :=
  let p := b.published
  List.flatten [[byteOf b.link.place], le16 b.run, le16 b.channels, le16Opt b.lastCounter, b.slots.flatMap le16Opt,
    leSignedOpt p.throttle, leSignedOpt p.steer, le16Opt (p.steerMode.map Fin.val), le16Opt (p.gear.map Fin.val),
    leSignedOpt p.winch, le16Opt (p.lights.map Fin.val)]

/-! ### Section 2: battery (R166) -/

def Battery.report (b : Battery) : List Byte :=
  List.flatten [[byteOf b.stage.place, flagByte b.gateWarned, flagByte b.gateCrossed, byteOf b.power.place,
      flagByte b.pwrHold, flagByte b.railEn, byteOf b.resetCause.place],
    le16 b.cellCount, le16 b.vRaw.at0, le16Opt b.vComp.at0, le16 b.vRaw.at1, le16Opt b.vComp.at1, le16 b.vRaw.at2,
    le16Opt b.vComp.at2, le16 b.vRaw.at3, le16Opt b.vComp.at3, le16 b.minComp, le16 b.packCurrent, le16 b.railCurrent,
    le16 b.winchCurrent, le16 b.used]

/-! ### Section 3: budget (R65) -/

/-- A row of section 3: the demand is the one the latest pass used (entry 26). -/
def BudgetRow.report (r : BudgetRow) : List Byte := le16 r.passDemand ++ le16 r.grant ++ [byteOf r.state.place]

def Budget.report (b : Budget) : List Byte :=
  List.flatten [le16 b.stagePercent, le16 b.sagFactor, le16 b.available, le16 b.remaining, [flagByte b.assistRanks],
    b.steer.report, b.drive.report, b.winch.report, b.lights.report]

/-! ### Section 4: steering as of the latest refresh (R83) -/

def Steering.report (b : Steering) : List Byte :=
  List.flatten [[byteOf b.active.place, placeByte (b.pendingMode.map SteerMode.place)], leSigned b.front, leSigned b.rear,
    le16Opt b.frontPulse, le16Opt b.rearPulse, [flagByte b.overload, flagByte b.shownRestraint], leSigned b.published]

/-! ### Section 5: the drive as of the latest drive update, the transmission as of the latest shift servo refresh (R102) -/

def DriveShown.report (d : DriveShown) : List Byte :=
  List.flatten [[flagByte (!d.armed)], le16 d.armCount, [byteOf d.dir.place, flagByte d.gateRuns], le16 d.requested,
    le16 d.present, le16 d.grant, le16 d.cap, [flagByte d.brakeFlag, flagByte d.reverseFlag]]

def ShiftShown.report (g : ShiftShown) : List Byte :=
  [byteOf g.gear.place, placeByte (g.pendingGear.map Gear.place), flagByte g.travel]

def Drive.report (d : Drive) : List Byte := d.shownDrive.report ++ d.shownShift.report

/-! ### Section 6: the winch as of its latest update or pulse (R131) -/

/-- The record in flight. -/
def OpRecord.report (r : OpRecord) : List Byte :=
  let tension := r.kind = .haulToTension
  List.flatten [[byteOf r.kind.place], le16 r.target, le16 r.moved, le16 r.residual, [flagByte r.immediate],
    le16Opt (if tension then some r.run else none), le16Opt (if tension then some r.settle else none), le16 r.retries,
    le16 r.recovered, le16Opt r.starvedFor]

/-- The record's 18 bytes when there is none: every field empty. -/
def noRecordReport : List Byte := List.replicate 18 0xFF

def WinchShown.report (b : WinchShown) : List Byte :=
  List.flatten [[byteOf b.mode.place], le16Opt b.position, [flagByte b.position.isNone], le16Opt b.remaining,
    [flagByte b.reserveWarned, flagByte (!b.hookHome)], le16 b.requested, le16 b.present, le16 b.grant, le16 b.cap,
    le16 b.stallTime, [flagByte b.backOff],
    match b.record with
    | some r => r.report
    | none => noRecordReport]

def Winch.report (b : Winch) : List Byte := b.shown.report

/-! ### Section 7: lights, as of the latest light step (R148) -/

def LightOut.report (o : LightOut) : List Byte := byteOf o.overlay.place :: le16 o.selected ++ le16 o.driven

def Lights.report (b : Lights) : List Byte :=
  List.flatten [le16 b.stepScene.val, le16Opt (b.stepPos.map Fin.val), [flagByte b.leftTurn, flagByte b.rightTurn],
    le16 b.grant, le16 b.signalSum, le16 b.ambientSum, le16 b.demand, b.outs.toList.flatMap LightOut.report]

/-! ### Section 8: pit link and store (R166) -/

/-- The three places of the attention list, oldest first. -/
def attentionReport (l : List Attention) : List Byte :=
  [placeByte (l[0]?.map Attention.place), placeByte (l[1]?.map Attention.place), placeByte (l[2]?.map Attention.place)]

def State.linkReport (s : State) : List Byte :=
  List.flatten [attentionReport s.pli.attention, [flagByte s.pli.deferred.isSome],
    [(s.pli.owed.map Owed.code).getD 0xFF], s.pli.sense.toBytes,
    [byteOf s.pst.engine.place, flagByte s.pst.packPending], le16 s.pst.active.val]

/-! ### The requests -/

/-- A section's bytes (R166). -/
def State.report (s : State) (section_ : Nat) : List Byte :=
  match section_ with
  | 0 => s.au.report s.free
  | 1 => s.rxl.report
  | 2 => s.bsv.report
  | 3 => s.bga.report
  | 4 => s.stc.report
  | 5 => s.drc.report
  | 6 => s.wnc.report
  | 7 => s.ltc.report
  | _ => s.linkReport

/-- The draws a section makes (entry 5). -/
def State.reportDraws (s : State) (section_ : Nat) : State :=
  if section_ = 0 then (s.drawnIf s.au.drive.deadline).drawnIf s.au.steer.deadline else s

/-- REPORT STATUS at execution. -/
def reportStatusAnswer (b : Block) (_isLast : Bool) (s : State) : Answer :=
  withParam s (byteParam 0 8 b.params) fun k => .good (s.reportDraws k) (s.report k)

/-- REPORT_STATUS (R166). -/
def execReportStatus (b : Block) (s : State) : Host.Outcome State Fault Refusal :=
  .next (s.runRequest .reportStatus b (reportStatusAnswer b))

/-- What REQUEST SENSE returns and leaves, from the first source that holds something (R164). -/
def PitLink.takeSense (p : PitLink) : Sense × PitLink :=
  if p.sense.kind ≠ .clear then (p.sense, { p with sense := .cleared })
  else match p.attention, p.deferred with
    | a :: rest, _ => (Sense.of a.kind, { p with attention := rest })
    | [], some d => (d.report, { p with deferred := none })
    | [], none => (.cleared, p)

/-- REQUEST SENSE at execution. -/
def requestSenseAnswer (b : Block) (_isLast : Bool) (s : State) : Answer :=
  withParam s (noParams b.params) fun _ => .good (s.setPli s.pli.takeSense.2) s.pli.takeSense.1.toBytes

/-- REQUEST_SENSE (R164). -/
def execRequestSense (b : Block) (s : State) : Host.Outcome State Fault Refusal :=
  .next (s.runRequest .requestSense b (requestSenseAnswer b))

/-- The stored CRC-16 of a profile record (R168). -/
def StoredProfile.crc (p : StoredProfile) : Crc16 :=
  match p with
  | .valid v => crc16 (Config.profileBytes v)
  | .invalid c => c

/-- The 12 bytes of IDENTIFY: product code, design revision, active profile index, the four stored CRCs (R166). -/
def Store.identify (p : Store) : List Byte :=
  le16 0x4C34 ++ [byteOf 2, byteOf p.active.val] ++ p.slots.toList.flatMap fun r => crcBytes r.crc

/-- IDENTIFY at execution. -/
def identifyAnswer (b : Block) (_isLast : Bool) (s : State) : Answer :=
  withParam s (noParams b.params) fun _ => .good s s.pst.identify

/-- IDENTIFY (R166). -/
def execIdentify (b : Block) (s : State) : Host.Outcome State Fault Refusal :=
  .next (s.runRequest .identify b (identifyAnswer b))

end Sys2Proof.Machine
end

