-- ==== Sys2Proof/Machine/Resets.lean ====
section
/-! DEFINITION. The three resets: power-on and brownout (R47 and each block's reset table), and the RESET request with its
effect (R48, R103, R159, R161, R169). Meanings: POWER_ON_RESET, BROWNOUT_RESET, RESET_REQUEST_EFFECT, RESET. -/

namespace Sys2Proof.Machine

/-! ### Power-on and brownout -/

/-- The active profile index of the pack record, 0 without a valid one (R169, step 1). -/
def StoredPack.active (p : StoredPack) : Fin 4 :=
  match p with
  | .valid r => r.active
  | _ => 0

/-- PST's power-on check (R169, steps 1 to 3): the array is not rewritten. -/
def Store.powerOn (p : Store) : Store :=
  let marks := p.slots.map fun r => !r.isValid
  let active := p.pack.active
  { slots := p.slots
    marks := marks
    pack := p.pack
    active := active
    working := match p.slots.get active with
      | .valid v => v
      | .invalid _ => .defaults
    engine := .idle
    packPending := false
    staging := none }

/-- The attention list after a power-on or brownout reset (R165, R169, step 4). -/
def Store.startAttention (p : Store) : List Attention :=
  if p.marks.toList.any id then [.resetOccurred, .defaultsLoaded] else [.resetOccurred]

/-- The line position a power-on takes from the pack record (R107). -/
def StoredPack.position (p : StoredPack) (capacity : Nat) : Option Nat :=
  match p with
  | .valid r => match r.position with
    | some n => if capacity < n then none else some n
    | none => none
  | _ => none

/-- A power-on or brownout reset (R1, R24, R47, R49, R66, R84, R103, R133, R151, R159, R169): the array and the model's
own fields are kept. -/
def State.powerOn (s : State) (cause : ResetCause) : State :=
  let p := s.pst.powerOn
  { rxl := .reset
    au := .reset
    bsv := .reset cause
    bga := .reset
    stc := .reset p.working
    drc := .reset p.working
    wnc := .reset p.working (p.pack.position p.working.wnc.spoolCapacity)
    ltc := .reset
    pli := .reset p.startAttention
    pst := p
    free := s.free
    pending := s.pending }

/-- POWER_ON_RESET (R47). -/
def execPowerOnReset (s : State) : Host.Outcome State Fault Refusal := .next (s.powerOn .powerOn)

/-- BROWNOUT_RESET (R47). -/
def execBrownoutReset (s : State) : Host.Outcome State Fault Refusal := .next (s.powerOn .brownout)

/-! ### The RESET request -/

/-- BSV at a RESET request, the park idle timer apart (R48). -/
def Battery.requestReset (b : Battery) : Battery :=
  { b with warnRun := 0, limitRun := 0, cutRun := 0, recoveryRun := 0, storageRun := 0, nextScan := .four,
           resetCause := .request }

/-- WNC at a RESET request (R103): the line position, the reserve-warned flag, the driven direction, the HOOK_HOME level
and the settings in force are kept; a reloaded capacity takes effect at the next update (R108). REPORT STATUS shows the
values after the reset (entry 41). -/
def Winch.requestReset (b : Winch) (w : Settings) : Winch :=
  Winch.showNow { Winch.reset w b.position with
      reserveWarned := b.reserveWarned
      drivenDir := b.drivenDir
      hookHome := b.hookHome
      capacity := b.capacity
      edge := b.edge }

/-- PST at a RESET request: the working copy is reloaded and the staging list emptied (R169). -/
def Store.requestReset (p : Store) (free : Nat) : Store := { p with working := p.load p.active free, staging := none }

/-- The effect of a RESET answered GOOD, on every block (R48 and the reset tables). The power state stays as it is then,
whatever it has become since the answer (entry 56). -/
def State.requestReset (s : State) : State :=
  let p := s.pst.requestReset s.free
  let t : State :=
    { rxl := .reset
      au := .reset
      bsv := s.bsv.requestReset
      bga := .reset
      stc := .reset p.working
      drc := .reset p.working
      wnc := s.wnc.requestReset p.working
      ltc := .reset
      pli := { PitLink.reset [.resetOccurred] with lastSent := s.pli.lastSent }
      pst := p
      free := s.free
      pending := s.pending }
  t.restartParkTimer.drawnIf (s.pst.loadsFree s.pst.active)

/-- RESET_REQUEST_EFFECT (R161): it comes when the last byte of a GOOD RESET reply has been transmitted, and not
otherwise. -/
def execResetRequestEffect (s : State) : Host.Outcome State Fault Refusal :=
  if s.pli.resetAwaited then .next s.requestReset else .next s

/-- RESET at execution: last of its batch, and the truck stands (R167). Its effect waits for its reply (R161). -/
def resetAnswer (b : Block) (isLast : Bool) (s : State) : Answer :=
  withParam s (noParams b.params) fun _ =>
    whenLast s isLast (if s.standing then .good s [] else .check s .inMotion)

/-- RESET (R167). -/
def execReset (b : Block) (s : State) : Host.Outcome State Fault Refusal := .next (s.runRequest .reset b (resetAnswer b))

end Sys2Proof.Machine
end

