-- ==== Sys2Proof/Machine/Rxl.lean ====
section
/-! DEFINITION. The Receiver Link (chapter 8) and what its frames and marks do to AU (R3, R8, R9, R10, R16 to R18), LTC
(R136) and BSV (R43). Meanings: CHANNEL_FRAME, RXL_BYTE_GAP_TIMEOUT, HOLD_MARK_EXPIRY, FAILSAFE_MARK_EXPIRY,
RECEIVER_FRAME_DISCARD. -/

namespace Sys2Proof.Machine

/-! ### Bindings and normalization (R155, R156) -/

/-- A binding is live at a frame of N channels (R155). -/
def Binding.live (b : Binding) (n : Nat) : Bool := 1 ≤ b.channel && b.channel ≤ n

/-- Limited to −1000 to 1000. -/
def clampCommand (c : Int) : Int := max (-1000) (min 1000 c)

/-- Steps 1 to 3 of R156: offset and trim, reverse, limit. -/
def Binding.centred (b : Binding) (raw : Nat) : Int :=
  let c : Int := (raw : Int) - 1000 - b.trim
  clampCommand (if b.reverse then -c else c)

/-- Step 4 of R156: the dead band and the scaling of what lies beyond it. -/
def applyDeadBand (d : Nat) (c : Int) : Int :=
  if c.natAbs ≤ d then 0
  else if c < 0 then -(((c.natAbs - d) * 1000 / (1000 - d) : Nat) : Int)
  else (((c.natAbs - d) * 1000 / (1000 - d) : Nat) : Int)

/-- The normalized command of a raw channel value (R156). -/
def Binding.normalize (b : Binding) (raw : Nat) : Int := applyDeadBand b.deadBand (b.centred raw)

/-- The switch position of a normalized command (R156). -/
def switchPos (c : Int) : SwitchPos := if c < -333 then 0 else if c > 333 then 2 else 1

/-- The raw value of a binding's channel, when the binding is live and the slot is filled. -/
def Binding.raw (b : Binding) (slots : List (Option Nat)) (n : Nat) : Option Nat :=
  if b.live n then (slots[b.channel - 1]?).join else none

/-- The six function commands formed from the channel table and the bindings (R154). -/
def formCommands (x : RxlSettings) (slots : List (Option Nat)) (n : Nat) : Commands where
  throttle := (x.throttle.raw slots n).map x.throttle.normalize
  steer := (x.steer.raw slots n).map x.steer.normalize
  steerMode := (x.steerMode.raw slots n).map fun r => switchPos (x.steerMode.normalize r)
  gear := (x.gear.raw slots n).map fun r => switchPos (x.gear.normalize r)
  winch := (x.winch.raw slots n).map x.winch.normalize
  lights := (x.lights.raw slots n).map fun r => switchPos (x.lights.normalize r)

/-- The channel table filled from a frame's values, each limited to 2000, the other slots emptied (R150). -/
def fillSlots (values : List Nat) : List (Option Nat) :=
  (List.range 12).map fun k => (values[k]?).map (min 2000)

/-! ### AU at the entries to LIVE and LOST (R8, R10) -/

/-- What becomes of a pending holder when RADIO adopts a NONE row at the entry to LIVE: a pending AUTO(ASSIST) stays, a
change to RADIO has come about (R8, entry 15). -/
def keptPending : Option PendingHolder → Option PendingHolder
  | some .assist => some .assist
  | _ => none

/-- DRIVE at the entry to LIVE (R8). -/
def State.driveLive (s : State) : State :=
  match s.au.drive.holder with
  | .noParty => if s.rxl.published.throttle.isSome then s.giveDrive .radio (keptPending s.au.drive.pending) else s
  | .pit | .auto .failsafe => s.setAu { s.au with drive := { s.au.drive with pending := some .radio } }
  | _ => s

/-- STEER at the entry to LIVE (R8). -/
def State.steerLive (s : State) : State :=
  match s.au.steer.holder with
  | .noParty => if s.rxl.published.steer.isSome then s.giveSteer .radio (keptPending s.au.steer.pending) else s
  | .pit | .auto .failsafe => s.setAu { s.au with steer := { s.au.steer with pending := some .radio } }
  | _ => s

/-- GEAR at the entry to LIVE (R8). -/
def State.gearLive (s : State) : State :=
  match s.au.gear.holder with
  | .noParty => if s.rxl.published.gear.isSome then s.giveGear .radio (keptPending s.au.gear.pending) else s
  | .pit | .auto .failsafe => s.setAu { s.au with gear := { s.au.gear with pending := some .radio } }
  | _ => s

/-- WINCH at the entry to LIVE (R8, R127). -/
def State.winchLive (s : State) : State :=
  match s.au.winch.holder with
  | .noParty => if s.rxl.published.winch.isSome then s.giveWinch .radio else s
  | .pit | .auto .failsafe => s.radioTakesWinch
  | _ => s

/-- AU at the entry to LIVE, the commands of the entering frame already in `published` (R8, R154). -/
def State.enterLive (s : State) : State := s.driveLive.steerLive.gearLive.winchLive

/-- A row's pending RADIO is cleared at the entry to LOST (R10). -/
def AuthRow.clearRadio (r : AuthRow) : AuthRow := if r.pending = some .radio then { r with pending := none } else r

/-- DRIVE at the entry to LOST: RADIO goes to AUTO(FAILSAFE); an AUTO(ASSIST) row whose pending RADIO is cleared and for
which no record exists is given pending NONE (R10). Its record is read as the ASSIST_HAUL one: a later record of another kind is
not the row's, and its removal gives DRIVE nothing (R18; DEDUCED, entry 60). -/
def State.driveLost (s : State) : State :=
  match s.au.drive.holder with
  | .radio => s.giveDrive (.auto .failsafe) none
  | .auto .assist =>
    if s.au.drive.pending = some .radio ∧ !s.wnc.assisting then
      s.setAu { s.au with drive := { s.au.drive with pending := some .noParty } }
    else s.setAu { s.au with drive := s.au.drive.clearRadio }
  | _ => s.setAu { s.au with drive := s.au.drive.clearRadio }

/-- STEER at the entry to LOST (R10). -/
def State.steerLost (s : State) : State :=
  if s.au.steer.holder = .radio then s.giveSteer (.auto .failsafe) none
  else s.setAu { s.au with steer := s.au.steer.clearRadio }

/-- GEAR at the entry to LOST (R10). -/
def State.gearLost (s : State) : State :=
  if s.au.gear.holder = .radio then s.giveGear (.auto .failsafe) none
  else s.setAu { s.au with gear := s.au.gear.clearRadio }

/-- WINCH at the entry to LOST: the boundary timer stops when the pending holder is cleared (R10). -/
def State.winchLost (s : State) : State :=
  if s.au.winch.holder = .radio then s.giveWinch (.auto .failsafe)
  else if s.au.winch.pending = some .radio then
    s.setAu { s.au with winch := { s.au.winch with pending := none }, winchTimer := false }
  else s

/-- AU at the entry to LOST (R10). -/
def State.enterLost (s : State) : State := s.driveLost.steerLost.gearLost.winchLost

/-! ### AU at a published frame (R3, R9, R16, R17, R18) -/

/-- DRIVE at a published frame: the liveness of the binding, the RADIO throttle, the clearing of a pending AUTO(ASSIST),
and the takeover of an assist beyond the band of 300. -/
def State.drivePublished (s : State) : State :=
  match s.au.drive.holder, s.rxl.published.throttle with
  | .radio, none => s.giveDrive .noParty s.au.drive.pending
  | .radio, some t =>
    let row := if t ≠ 0 ∧ s.au.drive.pending = some .assist then { s.au.drive with pending := none } else s.au.drive
    s.setAu { s.au with drive := row, image := { s.au.image with drive := ⟨.command, t⟩ } }
  | .noParty, some _ => if s.au.drive.pending.isNone then s.giveDrive .radio none else s
  | .auto .assist, some t =>
    if 300 < t.natAbs then s.setAu { s.au with drive := { s.au.drive with pending := some .radio } } else s
  | _, _ => s

/-- STEER at a published frame. -/
def State.steerPublished (s : State) : State :=
  match s.au.steer.holder, s.rxl.published.steer with
  | .radio, none => s.giveSteer .noParty s.au.steer.pending
  | .radio, some v =>
    s.setAu { s.au with image := { s.au.image with
      steer := ⟨v, false, modeOf s.w s.au.image.steer.mode s.rxl.published.steerMode⟩ } }
  | .noParty, some _ => if s.au.steer.pending.isNone then s.giveSteer .radio none else s
  | _, _ => s

/-- GEAR at a published frame. -/
def State.gearPublished (s : State) : State :=
  match s.au.gear.holder, s.rxl.published.gear with
  | .radio, none => s.giveGear .noParty s.au.gear.pending
  | .radio, some i => s.setAu { s.au with image := { s.au.image with gear := some (gearOf i) } }
  | .noParty, some _ => if s.au.gear.pending.isNone then s.giveGear .radio none else s
  | _, _ => s

/-- Does the normalized WINCH command change from 0 to a value other than 0 (R16)? A binding that was not live presents
no 0 (entry 17). -/
def leavesNeutral (before now : Option Int) : Bool :=
  match before, now with
  | some 0, some v => v ≠ 0
  | _, _ => false

/-- WINCH at a published frame, given the WINCH command published before it. -/
def State.winchPublished (s : State) (before : Option Int) : State :=
  match s.au.winch.holder, s.rxl.published.winch with
  | .radio, none => s.giveWinch .noParty
  | .radio, some v => s.setAu { s.au with image := { s.au.image with winch := ⟨.speed, v⟩ } }
  | .noParty, some _ => if s.au.winch.pending.isNone then s.giveWinch .radio else s
  | .pit, now =>
    if leavesNeutral before now ∧ s.au.winch.pending.isNone then s.radioTakesWinch else s
  | _, _ => s

/-! ### LTC and BSV at a published frame (R136, R43) -/

/-- The LIGHTS position reaches LTC (R136). -/
def Lights.takePosition (b : Lights) (sceneList : Three (Fin 4)) (p : Option SwitchPos) : Lights :=
  match p with
  | none => { b with heldPos := none }
  | some i => if b.heldPos = some i then b else { b with heldPos := some i, scene := sceneList.get i }

/-- The magnitude of a command, 0 when not live. -/
def magnitude (c : Option Int) : Nat := (c.getD 0).natAbs

/-- Do the published commands hold an enabled wake source (R43)? The wake band is 200. -/
def radioWakes (b : BsvSettings) (c : Commands) : Bool :=
  (b.wakeRadio && (200 < magnitude c.throttle || 200 < magnitude c.steer)) ||
    (b.wakeWinch && 0 < magnitude c.winch)

/-! ### Frames -/

/-- How a complete frame counts (R150). -/
inductive FrameClass where
  | bad
  | flagged
  | repeated
  | fresh
  deriving DecidableEq, Repr

def Receiver.classify (b : Receiver) (f : ReceiverFrame) : FrameClass :=
  if f.crc ≠ crc8 f.checked then .bad
  else if f.failsafe then .flagged
  else if b.lastCounter = some f.counter then .repeated
  else .fresh

/-- The frame came after the hold mark (R153). -/
def Receiver.late (b : Receiver) : Bool :=
  match b.gap with
  | some g => g.holdPassed
  | none => false

/-- Where a frame takes the link state and the recovery run, and whether it is published (R153). -/
structure LinkMove where
  link : LinkState
  run : Nat
  publish : Bool
  deriving DecidableEq, Repr

def Receiver.move (b : Receiver) (c : FrameClass) : LinkMove :=
  match c, b.link with
  | .bad, .recovering => ⟨.recovering, 0, false⟩
  | .bad, l => ⟨l, b.run, false⟩
  | .flagged, .absent => ⟨.absent, b.run, false⟩
  | .flagged, .recovering => ⟨.lost, 0, false⟩
  | .flagged, _ => ⟨.lost, b.run, false⟩
  | .repeated, l => ⟨l, b.run, false⟩
  | .fresh, .absent => ⟨.live, b.run, true⟩
  | .fresh, .live => ⟨.live, b.run, true⟩
  | .fresh, .hold => ⟨.live, b.run, true⟩
  | .fresh, .lost => ⟨.recovering, 1, false⟩
  | .fresh, .recovering =>
    if b.late then ⟨.recovering, 1, false⟩
    else if 3 ≤ b.run + 1 then ⟨.live, 0, true⟩
    else ⟨.recovering, b.run + 1, false⟩

/-- The gap timer after a frame: every accepted frame restarts it with the failsafe time in force, except in ABSENT,
where it starts only with the new frame that enters LIVE (R152, R153). -/
def Receiver.gapAfter (b : Receiver) (c : FrameClass) (w : RxlSettings) : Option GapTimer :=
  match c with
  | .bad => b.gap
  | .fresh => some ⟨w.failsafeTime, false⟩
  | _ => if b.link = .absent then b.gap else some ⟨w.failsafeTime, false⟩

/-- RXL's own state after a complete frame (R150 to R154). -/
def Receiver.afterFrame (b : Receiver) (w : RxlSettings) (f : ReceiverFrame) : Receiver :=
  let c := b.classify f
  let m := b.move c
  let fresh := c = .fresh
  let slots := if fresh then fillSlots f.values else b.slots
  let n := if fresh then f.values.length else b.channels
  { link := m.link
    slots := slots
    channels := n
    published := if m.publish then formCommands w slots n else b.published
    lastCounter := if fresh then some f.counter else b.lastCounter
    run := m.run
    gap := b.gapAfter c w
    assembler := .hunting }

/-- The hand-over of a published frame to AU, LTC and BSV (R154), given the WINCH command published before. The rows are
judged in the order DRIVE, STEER, GEAR, WINCH (entry 55). -/
def State.publish (s : State) (winchBefore : Option Int) : State :=
  let t := (s.drivePublished.steerPublished.gearPublished).winchPublished winchBefore
  let u := t.setLtc (t.ltc.takePosition t.w.ltc.sceneList t.rxl.published.lights)
  if radioWakes u.w.bsv u.rxl.published then u.wake else u

/-- AU's share of a change of link state: the entries to LIVE and to LOST are reported, no other (R153). -/
def State.reportLink (s : State) (before : LinkState) : State :=
  if s.rxl.link = before then s
  else match s.rxl.link with
    | .live => s.enterLive
    | .lost => s.enterLost
    | _ => s

/-- A complete frame (R150, R153, R154). -/
def State.takeFrame (s : State) (f : ReceiverFrame) : State :=
  let t := (s.setRxl (s.rxl.afterFrame s.w.rxl f)).reportLink s.rxl.link
  if (s.rxl.move (s.rxl.classify f)).publish then t.publish s.rxl.published.winch else t

/-- The assembler hunts again; nothing else changes (R149). -/
def State.rxlHunt (s : State) : State := s.setRxl { s.rxl with assembler := .hunting }

/-- CHANNEL_FRAME (R149, R150, R153): bytes that are no complete frame leave the assembler hunting. -/
def execChannelFrame (bytes : List Byte) (s : State) : Host.Outcome State Fault Refusal :=
  match receiverFrameOf bytes with
  | some f => .next (s.takeFrame f)
  | none => .next s.rxlHunt

/-- RXL_BYTE_GAP_TIMEOUT (R149). -/
def execRxlByteGapTimeout (s : State) : Host.Outcome State Fault Refusal := .next s.rxlHunt

/-- RECEIVER_FRAME_DISCARD (R149): for either reason the assembler hunts again and nothing else changes. -/
def execReceiverFrameDiscard (_why : ReceiverDiscard) (s : State) : Host.Outcome State Fault Refusal := .next s.rxlHunt

/-- RXL at the hold mark: LIVE becomes HOLD, and in RECOVERING the run becomes 0 (R152, R153). -/
def Receiver.holdMark (b : Receiver) : Receiver :=
  match b.gap with
  | none => b
  | some g =>
    { b with gap := some { g with holdPassed := true }
             link := if b.link = .live then .hold else b.link
             run := if b.link = .recovering then 0 else b.run }

/-- HOLD_MARK_EXPIRY (R152). -/
def execHoldMarkExpiry (s : State) : Host.Outcome State Fault Refusal := .next (s.setRxl s.rxl.holdMark)

/-- RXL at the failsafe mark: HOLD or RECOVERING becomes LOST, where the recovery run counts nothing (R152, entry 47). -/
def Receiver.failsafeMark (b : Receiver) : Receiver :=
  match b.gap with
  | none => b
  | some _ => if b.link = .hold ∨ b.link = .recovering then { b with link := .lost, run := 0 } else b

/-- FAILSAFE_MARK_EXPIRY (R152, R10). -/
def execFailsafeMarkExpiry (s : State) : Host.Outcome State Fault Refusal :=
  .next ((s.setRxl s.rxl.failsafeMark).reportLink s.rxl.link)

end Sys2Proof.Machine
end

