-- ==== Sys2Proof/Machine/Stc.lean ====
section
/-! DEFINITION. The Steering Controller (chapter 4). Meanings: SERVO_REFRESH_EXPIRY, SET_STEER. -/

namespace Sys2Proof.Machine

/-- The front and rear targets of a mode (R69): products before the division, truncated toward zero. -/
def steerTargets (m : SteerMode) (s : Int) (rearRatio : Nat) : Int × Int :=
  match m with
  | .front => (s, 0)
  | .rear => (0, s)
  | .counter => (s, (-s * rearRatio).tdiv 100)
  | .crab => (s, (s * rearRatio).tdiv 100)

/-- An output moved toward its target by at most the slew limit (R74). -/
def slew (limit : Nat) (present target : Int) : Int :=
  if (target - present).natAbs ≤ limit then target
  else if present < target then present + limit
  else present - limit

/-- The slewed value taken only as far as it moves the output toward centre (R75). -/
def towardCentre (present slewed : Int) : Int :=
  if present = 0 then 0
  else if 0 < present then (if slewed < 0 then 0 else min slewed present)
  else (if 0 < slewed then 0 else max slewed present)

/-- A new output from the present one and its target (R74, R75, R76). -/
def moveAxle (limit : Nat) (overload hold : Bool) (present target : Int) : Int :=
  if hold then present
  else if overload then towardCentre present (slew limit present target)
  else slew limit present target

/-- The pulse width of an output in µs (R77). -/
def pulseWidth (x : Axle) (a : Int) : Nat :=
  if 0 ≤ a then ((x.centre : Int) + (a * ((x.max : Int) - x.centre)).tdiv 1000).toNat
  else ((x.centre : Int) + (a * ((x.centre : Int) - x.min)).tdiv 1000).toNat

/-- The pending mode from the requested and the active mode (R70). -/
def pendingAfter (requested active : SteerMode) : Option SteerMode :=
  if requested = active then none else some requested

/-- What a refresh reads (stage 1 of R67) besides STC's own state. -/
structure RefreshInput where
  entry : SteerEntry
  rail : Nat
  railEn : Bool
  railLimit : Nat
  settings : StcSettings
  deriving DecidableEq, Repr

/-- The conditions of R71 other than that a pending mode is held. -/
def modeMayChange (b : Steering) (i : RefreshInput) : Bool :=
  i.entry.steer.natAbs ≤ i.settings.centreBand && !i.entry.hold && i.railEn && !b.restraint

/-- Stage 3: the pending mode is updated and, when R71 allows it, becomes active (R70, R71). -/
def Steering.chooseMode (b : Steering) (i : RefreshInput) : Steering :=
  match pendingAfter i.entry.mode b.active with
  | none => { b with pendingMode := none }
  | some m => if modeMayChange b i then { b with active := m, pendingMode := none } else { b with pendingMode := some m }

/-- Stages 4 to 6 while RAIL_EN is asserted: targets, outputs and pulses (R69, R74 to R79). The hold flag of the entry
keeps the targets. At the first pulse after a reset or a wake the outputs stay as they are held, and the pulses command
them (R66, R79, R80, entry 53). -/
def Steering.drive (b : Steering) (i : RefreshInput) : Steering :=
  let t := if i.entry.hold then (b.frontTarget, b.rearTarget)
    else steerTargets b.active i.entry.steer i.settings.rearRatio
  let stays := i.entry.hold || b.unpulsed
  let f := moveAxle i.settings.slewLimit b.overload stays b.front t.1
  let r := moveAxle i.settings.slewLimit b.overload stays b.rear t.2
  { b with frontTarget := t.1, rearTarget := t.2, front := f, rear := r, unpulsed := false,
           frontPulse := some (pulseWidth i.settings.front f), rearPulse := some (pulseWidth i.settings.rear r) }

/-- Stages 4 to 6 while RAIL_EN is released: no pulse, targets and outputs left as they are (R80). -/
def Steering.rest (b : Steering) : Steering := { b with frontPulse := none, rearPulse := none }

/-- One refresh of STC's own state, in the order of R67; the next interval takes the refresh period in force, and the
restraint is kept for REPORT STATUS as it stands at the refresh (R83). -/
def Steering.refresh (b : Steering) (i : RefreshInput) : Steering :=
  let c := ({ b with overload := i.railLimit < i.rail } : Steering).chooseMode i
  let d := if i.railEn then c.drive i else c.rest
  { d with published := i.entry.steer, interval := i.settings.refreshPeriod, shownRestraint := d.restraint }

/-- STC's demand (R51). -/
def railDemand (railLimit rail : Nat) : Nat := min railLimit (rail + 10)

/-- What a refresh reads from the state. -/
def State.refreshInput (s : State) : RefreshInput :=
  ⟨s.au.image.steer, s.bsv.railCurrent, s.bsv.railEn, s.w.bga.railLimit, s.w.stc⟩

/-- A demand of STC is posted (R50). -/
def Budget.postSteer (b : Budget) (d : Nat) : Budget := { b with steer := { b.steer with demand := d } }

/-- The refresh itself, after the STEER boundary. -/
def State.refresh (s : State) : State :=
  (s.setStc (s.stc.refresh s.refreshInput)).setBga
    (s.bga.postSteer (railDemand s.w.bga.railLimit s.bsv.railCurrent))

/-- SERVO_REFRESH_EXPIRY (R6, R67). -/
def execServoRefreshExpiry (s : State) : Host.Outcome State Fault Refusal := .next s.steerBoundary.refresh

/-- A SET STEER's mode under the assist restraint: one that is neither requested nor active is refused (R73). -/
def modeRefused (s : State) (m : Option SteerMode) : Bool :=
  match m with
  | none => false
  | some m => s.stc.restraint && m ≠ s.au.image.steer.mode && m ≠ s.stc.active

/-- The PIT STEER entry of an executed SET STEER, whose deadline restarts (R4, R14). -/
def Authority.steerSet (a : Authority) (v : Int) (m : Option SteerMode) : Authority :=
  { a with steer := { a.steer with deadline := true }
           image := { a.image with steer := ⟨v, false, m.getD a.image.steer.mode⟩ } }

/-- SET STEER at execution (R13, R73). -/
def setSteerAnswer (b : Block) (_isLast : Bool) (s : State) : Answer :=
  withParam s (steerParam b.params) fun p =>
    if s.au.steer.holder ≠ .pit then .check s .notHolder
    else if modeRefused s p.2 then .check s .assistActive
    else .good (s.setAu (s.au.steerSet p.1 p.2)) []

/-- SET_STEER (R73). -/
def execSetSteer (b : Block) (s : State) : Host.Outcome State Fault Refusal :=
  .next (s.runRequest .setSteer b (setSteerAnswer b))

end Sys2Proof.Machine
end

