-- ==== Sys2Proof/Machine/Dispatch.lean ====
section
/-! DEFINITION. The dispatch: one arm for each command, in the order of spec/opcode_table.json, each one direct call of the
command's meaning. -/

namespace Sys2Proof.Machine

def exec (i : Instr) (s : State) : Host.Outcome State Fault Refusal :=
  match i with
  | .powerOnReset => Sys2Proof.Machine.execPowerOnReset s
  | .brownoutReset => Sys2Proof.Machine.execBrownoutReset s
  | .scanCompletion r => Sys2Proof.Machine.execScanCompletion r s
  | .parkIdleTimerExpiry => Sys2Proof.Machine.execParkIdleTimerExpiry s
  | .servoRefreshExpiry => Sys2Proof.Machine.execServoRefreshExpiry s
  | .driveUpdateExpiry => Sys2Proof.Machine.execDriveUpdateExpiry s
  | .gateTimerExpiry => Sys2Proof.Machine.execGateTimerExpiry s
  | .shiftServoRefresh => Sys2Proof.Machine.execShiftServoRefresh s
  | .shiftTravelTimerExpiry => Sys2Proof.Machine.execShiftTravelTimerExpiry s
  | .winchUpdateExpiry hookHome => Sys2Proof.Machine.execWinchUpdateExpiry hookHome s
  | .backOffTimerExpiry => Sys2Proof.Machine.execBackOffTimerExpiry s
  | .drumPulseArrival edge => Sys2Proof.Machine.execDrumPulseArrival edge s
  | .hookHomeArrival => Sys2Proof.Machine.execHookHomeArrival s
  | .winchBoundaryTimerExpiry => Sys2Proof.Machine.execWinchBoundaryTimerExpiry s
  | .pitHoldDeadlineExpiry row => Sys2Proof.Machine.execPitHoldDeadlineExpiry row s
  | .lightStepExpiry => Sys2Proof.Machine.execLightStepExpiry s
  | .channelFrame bytes => Sys2Proof.Machine.execChannelFrame bytes s
  | .rxlByteGapTimeout => Sys2Proof.Machine.execRxlByteGapTimeout s
  | .holdMarkExpiry => Sys2Proof.Machine.execHoldMarkExpiry s
  | .failsafeMarkExpiry => Sys2Proof.Machine.execFailsafeMarkExpiry s
  | .pitByteGapTimeout => Sys2Proof.Machine.execPitByteGapTimeout s
  | .replyTransmit => Sys2Proof.Machine.execReplyTransmit s
  | .resetRequestEffect => Sys2Proof.Machine.execResetRequestEffect s
  | .commitProgrammingEnd verified => Sys2Proof.Machine.execCommitProgrammingEnd verified s
  | .packSaveEnd verified => Sys2Proof.Machine.execPackSaveEnd verified s
  | .reportStatus b => Sys2Proof.Machine.execReportStatus b s
  | .requestSense b => Sys2Proof.Machine.execRequestSense b s
  | .identify b => Sys2Proof.Machine.execIdentify b s
  | .claim b => Sys2Proof.Machine.execClaim b s
  | .release b => Sys2Proof.Machine.execRelease b s
  | .setDrive b => Sys2Proof.Machine.execSetDrive b s
  | .setSteer b => Sys2Proof.Machine.execSetSteer b s
  | .setGear b => Sys2Proof.Machine.execSetGear b s
  | .setScene b => Sys2Proof.Machine.execSetScene b s
  | .winchPayOut b => Sys2Proof.Machine.execWinchPayOut b s
  | .winchHaulIn b => Sys2Proof.Machine.execWinchHaulIn b s
  | .winchHaulToTension b => Sys2Proof.Machine.execWinchHaulToTension b s
  | .winchHome b => Sys2Proof.Machine.execWinchHome b s
  | .winchAssistHaul b => Sys2Proof.Machine.execWinchAssistHaul b s
  | .winchFreespool b => Sys2Proof.Machine.execWinchFreespool b s
  | .winchStop b => Sys2Proof.Machine.execWinchStop b s
  | .abort b => Sys2Proof.Machine.execAbort b s
  | .readSetting b => Sys2Proof.Machine.execReadSetting b s
  | .writeSetting b => Sys2Proof.Machine.execWriteSetting b s
  | .selectProfile b => Sys2Proof.Machine.execSelectProfile b s
  | .commitProfile b => Sys2Proof.Machine.execCommitProfile b s
  | .loadDefaults b => Sys2Proof.Machine.execLoadDefaults b s
  | .park b => Sys2Proof.Machine.execPark b s
  | .reset b => Sys2Proof.Machine.execReset b s
  | .receiverFrameDiscard why => Sys2Proof.Machine.execReceiverFrameDiscard why s
  | .pitFrameDiscard why => Sys2Proof.Machine.execPitFrameDiscard why s
  | .unknownCode code b => Sys2Proof.Machine.execUnknownCode code b s

end Sys2Proof.Machine
end

