-- ==== Sys2Proof/Safety.lean ====
section
/-! DEFINITION. The terms of the claims: the properties of a state that every step keeps, when a request block is decided on
its own merits, and what its answer leaves, written from the rules and not from the meanings. -/

namespace Sys2Proof.Machine

/-! ### Properties that every step keeps -/

/-- The authority table's shape (R1, R6, R14): a deadline runs on DRIVE and STEER exactly while PIT holds them and never
elsewhere, AUTO(ASSIST) and the pending holders NONE and AUTO(ASSIST) are DRIVE's alone, and the winch boundary timer
runs exactly while WINCH has a pending holder. -/
def Authority.Shaped (a : Authority) : Prop :=
  (a.drive.deadline = true ↔ a.drive.holder = .pit) ∧ (a.steer.deadline = true ↔ a.steer.holder = .pit) ∧
    a.gear.deadline = false ∧ a.winch.deadline = false ∧
    a.steer.holder ≠ .auto .assist ∧ a.gear.holder ≠ .auto .assist ∧ a.winch.holder ≠ .auto .assist ∧
    (a.steer.pending = none ∨ a.steer.pending = some .radio) ∧
    (a.gear.pending = none ∨ a.gear.pending = some .radio) ∧
    (a.winch.pending = none ∨ a.winch.pending = some .radio) ∧
    (a.winchTimer = true ↔ a.winch.pending ≠ none)

/-- PIT holds DRIVE, STEER or GEAR while RXL is LIVE or HOLD only with pending holder RADIO (R8). -/
def State.HeardPit (s : State) : Prop :=
  s.rxl.link = .live ∨ s.rxl.link = .hold →
    (s.au.drive.holder = .pit → s.au.drive.pending = some .radio) ∧
      (s.au.steer.holder = .pit → s.au.steer.pending = some .radio) ∧
      (s.au.gear.holder = .pit → s.au.gear.pending = some .radio)

/-- Outside LIVE and HOLD the radio holds no row and waits for none: the entry to LOST and every reset take them away (R1,
R10, R153). -/
def State.RadioHeard (s : State) : Prop :=
  s.rxl.link ≠ .live ∧ s.rxl.link ≠ .hold →
    (s.au.drive.holder ≠ .radio ∧ s.au.drive.pending ≠ some .radio) ∧
      (s.au.steer.holder ≠ .radio ∧ s.au.steer.pending ≠ some .radio) ∧
      (s.au.gear.holder ≠ .radio ∧ s.au.gear.pending ≠ some .radio) ∧
      (s.au.winch.holder ≠ .radio ∧ s.au.winch.pending ≠ some .radio)

/-- An operation record exists only under a PIT holder of WINCH with no pending holder, and the WINCH entry is OPERATION
exactly while one exists (R4, R13, R127). -/
def State.RecordHeld (s : State) : Prop :=
  (s.wnc.record ≠ none → s.au.winch.holder = .pit ∧ s.au.winch.pending = none) ∧
    (s.au.image.winch.kind = .operation ↔ s.wnc.record ≠ none)

/-- BSV's lines, timer and states agree (R38, R39, R45): RAIL_EN is asserted exactly in ACTIVE outside FAULT, the park idle
timer runs only in ACTIVE and outside IDENT, IDENT is met in ACTIVE only, PWR_HOLD is released only in SHUTDOWN, and the
stage SHUTDOWN goes with the power state. -/
def Battery.Powered (b : Battery) : Prop :=
  (b.railEn = true ↔ b.power = .active ∧ b.stage ≠ .fault) ∧
    (b.parkTimer ≠ none → b.power = .active ∧ b.stage ≠ .ident) ∧
    (b.stage = .ident → b.power = .active) ∧
    (b.pwrHold = false → b.power = .shutdown) ∧
    (b.stage = .shutdown → b.power = .shutdown) ∧
    (b.power = .shutdown → b.stage = .shutdown ∨ b.stage = .cut ∨ b.stage = .fault)

/-- A KNOWN line position lies within the spool capacity in force (R105). -/
def Winch.Positioned (b : Winch) : Prop := ∀ p, b.position = some p → p ≤ b.capacity

/-- The receiver link's fields keep their ranges, the gap timer runs exactly outside ABSENT, and a recovery run is counted
in RECOVERING only (R151, R152, R153). -/
def Receiver.Linked (b : Receiver) : Prop :=
  b.slots.length = 12 ∧ (∀ v, some v ∈ b.slots → v ≤ 2000) ∧ (b.channels = 0 ∨ 4 ≤ b.channels ∧ b.channels ≤ 12) ∧
    (∀ n, b.lastCounter = some n → n < 16) ∧ (b.gap ≠ none ↔ b.link ≠ .absent) ∧ b.run ≤ 2 ∧
    (b.link ≠ .recovering → b.run = 0)

/-- A command is within −1000 to 1000 (section 4.1). -/
def inRange (v : Int) : Prop := -1000 ≤ v ∧ v ≤ 1000

/-- The commands published by RXL and those of the control image are within −1000 to 1000 (R2, R151). -/
def State.CommandsInRange (s : State) : Prop :=
  (∀ v, s.rxl.published.throttle = some v → inRange v) ∧ (∀ v, s.rxl.published.steer = some v → inRange v) ∧
    (∀ v, s.rxl.published.winch = some v → inRange v) ∧ inRange s.au.image.drive.throttle ∧
    inRange s.au.image.steer.steer ∧ inRange s.au.image.winch.speed

/-- The attention list holds at most one entry of each kind (R165). -/
def PitLink.AttentionOnce (p : PitLink) : Prop := p.attention.Nodup

/-- A stored profile that is valid holds legal settings. -/
def StoredProfile.Legal (p : StoredProfile) : Prop := ∀ v, p = .valid v → v.legal = true

/-- Every setting of the working copy, of each valid profile record and of a commit in progress is within its range and
order (R29, R63, R78, R101, R108, R171). -/
def Store.Legal (p : Store) : Prop :=
  p.working.legal = true ∧ p.slots.at0.Legal ∧ p.slots.at1.Legal ∧ p.slots.at2.Legal ∧ p.slots.at3.Legal ∧
    ∀ k v, p.engine = .commit k v → v.legal = true

/-- A pack record save is pending only while the engine programs (R35, R172). -/
def Store.SaveWaits (p : Store) : Prop := p.packPending = true → p.engine ≠ .idle

/-- An owed reply has its work in flight: a commit, or an operation without IMMEDIATE (R162). A batch in progress while a
reply is owed is one whose frame completed under it. -/
def State.OwedHasWork (s : State) : Prop :=
  (∀ o, s.pli.owed = some o →
    (o.code = Request.commitProfile.code ∧ ∃ k v, s.pst.engine = .commit k v) ∨
      ∃ r, s.wnc.record = some r ∧ r.immediate = false ∧
        o.code = match r.kind with
          | .payOut => Request.winchPayOut.code
          | .haulIn => Request.winchHaulIn.code
          | .haulToTension => Request.winchHaulToTension.code
          | .home => Request.winchHome.code
          | .assistHaul => Request.winchAssistHaul.code) ∧
    ∀ bt, s.pli.batch = some bt → s.pli.owed ≠ none → bt.restricted = true

/-- The drive's duties agree with its cap, bridge and direction state (R84, R92 to R95): the present duty is within the
requested duty and the cap, the bridge drives only in the state of its direction, no duty stands outside FORWARD and
REVERSE, and the gate timer runs exactly in GATE. -/
def Drive.Dutied (d : Drive) : Prop :=
  d.present ≤ d.requested ∧ d.present ≤ d.cap ∧ d.cap ≤ 1000 ∧ (d.bridge = .driveForward → d.dir = .forward) ∧
    (d.bridge = .driveReverse → d.dir = .reverse) ∧
    (d.dir ≠ .forward ∧ d.dir ≠ .reverse → d.requested = 0 ∧ d.present = 0) ∧
    (d.gateTimer ≠ none ↔ d.dir = .gate) ∧ (d.reverseFlag = true ↔ d.dir = .reverse) ∧ d.armCount ≤ 250 ∧
    d.neutralCount ≤ 100

/-! ### Request blocks -/

/-- The entries already formed for the batch a block belongs to. -/
def State.formed (s : State) : List ReplyEntry :=
  match s.pli.batch with
  | some bt => bt.entries
  | none => []

/-- The next block is examined: no block of its batch has failed, and no reply was owed when its frame completed (R161,
R162). -/
def State.Open (s : State) : Prop :=
  match s.pli.batch with
  | some bt => bt.stopped = false ∧ bt.restricted = false
  | none => s.pli.owed = none

/-- No block of the batch has failed yet. -/
def State.Going (s : State) : Prop := ∀ bt, s.pli.batch = some bt → bt.stopped = false

/-- The fit check passes (R161): the entries formed and this block's largest entry stay within 108 bytes. -/
def State.Fits (s : State) (largest : Nat) : Prop :=
  (s.formed.map fun e => 3 + e.data.length).sum + 3 + max largest 9 ≤ 108

/-- A block that is not exempt passes steps 2 to 4 of R160 as it is: the part is ACTIVE and identified, and nothing is owed
to the console. -/
def State.Ready (s : State) : Prop :=
  s.Open ∧ s.bsv.stage ≠ .ident ∧ s.bsv.power = .active ∧ s.pli.attention = [] ∧ s.pli.deferred = none

/-- A block that is not exempt reaches step 5 of R160 as it is, and fits (R161). -/
def State.Reaches (s : State) (r : Request) : Prop := s.Ready ∧ s.Fits r.largestData

/-- A reply is owed, or was owed when the frame of the batch completed (R162). -/
def State.Restricted (s : State) : Prop :=
  match s.pli.batch with
  | some bt => bt.restricted = true
  | none => s.pli.owed ≠ none

/-- The next block is the last of its batch; a fourth block always is (R158). -/
def State.IsLast (s : State) (b : Block) : Prop := b.last = true ∨ 3 ≤ s.formed.length

/-- Two parameter bytes, low byte first, as a number and in two's complement (section 9.1). -/
def wordOf (lo hi : Byte) : Nat := lo.toNat + 256 * hi.toNat

def signedOf (lo hi : Byte) : Int :=
  if lo.toNat + 256 * hi.toNat < 32768 then (lo.toNat + 256 * hi.toNat : Int) else (lo.toNat + 256 * hi.toNat : Int) - 65536

/-- A request's parameters have a length and values that the request catalogue allows (R167). -/
def GoodParams (r : Request) (params : List Byte) : Prop :=
  match r with
  | .reportStatus => ∃ k : Byte, params = [k] ∧ k.toNat ≤ 8
  | .claim | .release | .setScene | .selectProfile => ∃ k : Byte, params = [k] ∧ k.toNat ≤ 3
  | .setGear => ∃ k : Byte, params = [k] ∧ k.toNat ≤ 2
  | .setDrive => ∃ lo hi : Byte, params = [lo, hi] ∧ inRange (signedOf lo hi)
  | .setSteer =>
    (∃ lo hi : Byte, params = [lo, hi] ∧ inRange (signedOf lo hi)) ∨
      ∃ lo hi m : Byte, params = [lo, hi, m] ∧ inRange (signedOf lo hi) ∧ m.toNat ≤ 3
  | .winchPayOut | .winchHaulIn | .winchAssistHaul =>
    ∃ lo hi : Byte, params = [lo, hi] ∧ 1 ≤ wordOf lo hi ∧ wordOf lo hi ≤ 20000
  | .winchHaulToTension =>
    ∃ lo hi tlo thi k : Byte, params = [lo, hi, tlo, thi, k] ∧ (1 ≤ wordOf lo hi ∧ wordOf lo hi ≤ 20000) ∧
      (10 ≤ wordOf tlo thi ∧ wordOf tlo thi ≤ 400) ∧ 1 ≤ k.toNat ∧ k.toNat ≤ 100
  | .readSetting => ∃ lo hi : Byte, params = [lo, hi] ∧ ∃ i ∈ SettingId.list, i.number = wordOf lo hi
  | .writeSetting =>
    ∃ (lo hi : Byte) (value : List Byte), params = lo :: hi :: value ∧
      (∃ i ∈ SettingId.list, i.number = wordOf lo hi) ∧ 1 ≤ value.length ∧ value.length ≤ 14
  | .requestSense | .identify | .winchHome | .winchFreespool | .winchStop | .abort | .commitProfile | .loadDefaults
  | .park | .reset => params = []

/-- The five operation requests (R117). -/
def operationRequests : List Request := [.winchPayOut, .winchHaulIn, .winchHaulToTension, .winchHome, .winchAssistHaul]

/-- The block stands where the catalogue asks it to: last, or for an operation last unless IMMEDIATE (R167). -/
def State.WellPlaced (s : State) (r : Request) (b : Block) : Prop :=
  (r = .commitProfile ∨ r = .reset → s.IsLast b) ∧ (r ∈ operationRequests → b.flags.getLsbD 0 = true ∨ s.IsLast b)

/-- The row a request needs the pit to hold (R13). -/
def Request.heldRow : Request → Option Row
  | .setDrive => some .drive
  | .setSteer => some .steer
  | .setGear => some .gear
  | .winchPayOut | .winchHaulIn | .winchHaulToTension | .winchHome | .winchAssistHaul | .winchFreespool => some .winch
  | _ => none

/-- An entry is formed for a block; with the last block of the batch, which a fourth block is, the reply is ready (R158,
R161). -/
def State.answered (s : State) (b : Block) (e : ReplyEntry) : State :=
  if b.last = true ∨ 3 ≤ s.formed.length then
    { s with pli := { s.pli with batch := none, ready := s.pli.ready ++ [⟨s.formed ++ [e], false⟩] } }
  else
    { s with pli := { s.pli with
        batch := some ⟨s.formed ++ [e], e.status ≠ .good,
          match s.pli.batch with
          | some bt => bt.restricted
          | none => s.pli.owed.isSome⟩ } }

/-- The park idle timer starts from its full period; a park time of 0 disables it (R39). -/
def State.timerRestarted (s : State) : State :=
  { s with bsv := { s.bsv with
      parkTimer := if s.pst.working.bsv.parkTime = 0 then none else some s.pst.working.bsv.parkTime } }

/-- GOOD for a request that is not exempt: its entry, and the park idle timer restarted (R39, R161). -/
def State.good (s : State) (b : Block) (r : Request) : State := (s.answered b ⟨r.code, .good, []⟩).timerRestarted

/-- A CHECK entry: it holds the sense, and the sense record takes it (R161, R164). -/
def State.checkEntry (s : State) (b : Block) (code : Byte) (k : SenseKind) : State :=
  State.answered { s with pli := { s.pli with sense := ⟨k, false, false, false, 0⟩ } } b
    ⟨code, .check, (⟨k, false, false, false, 0⟩ : Sense).toBytes⟩

/-- CHECK at execution of a request that is not exempt: its entry, and the park idle timer restarted (R39). -/
def State.checked (s : State) (b : Block) (r : Request) (k : SenseKind) : State :=
  (s.checkEntry b r.code k).timerRestarted

/-- A block owes its reply (R162). -/
def State.owing (s : State) (r : Request) : State :=
  State.timerRestarted { s with pli := { s.pli with batch := none, owed := some ⟨s.formed, r.code⟩ } }

/-- The answer of a taken operation: GOOD at once under IMMEDIATE, else an owed reply (R162, R163). -/
def State.operationAnswered (s : State) (b : Block) (r : Request) : State :=
  if b.flags.getLsbD 0 then s.good b r else s.owing r

/-- The block may create an operation: it is IMMEDIATE or the last of its batch (R167). -/
def State.MayOperate (s : State) (b : Block) : Prop := b.flags.getLsbD 0 = true ∨ s.IsLast b

/-- No case of R13 and of R117 (1 to 4) refuses an operation. -/
def State.OperationFree (s : State) : Prop :=
  s.au.winch.holder = .pit ∧ s.wnc.record = none ∧ s.au.winch.pending ≠ some .radio ∧ s.wnc.mode ≠ .jammed ∧
    s.bsv.stage ≠ .cut ∧ s.bsv.stage ≠ .fault

/-- A new operation record (R116). -/
def newRecord (kind : OpKind) (target tension settle : Nat) (b : Block) : OpRecord where
  kind := kind
  target := target
  moved := 0
  tension := tension
  settle := settle
  run := 0
  immediate := b.flags.getLsbD 0
  reserveNoted := false
  retries := 0
  recovered := 0
  recoveryAwaited := false
  starvedFor := none

/-- The record created: the WINCH entry is OPERATION, the stall time 0 and the back-off timer stopped (R4, R116). -/
def State.withRecord (s : State) (r : OpRecord) : State :=
  { s with
    wnc := { s.wnc with record := some r, stallTime := 0, backOff := false }
    au := { s.au with image := { s.au.image with winch := ⟨.operation, 0⟩ } } }

/-- The bytes of one part of a pattern (R170). -/
def patternPartBytes (first count : Nat) (steps : List PatternStep) : List Byte :=
  [BitVec.ofNat 8 first, BitVec.ofNat 8 count] ++
    steps.flatMap fun p => [BitVec.ofNat 8 p.level, BitVec.ofNat 8 p.duration]

/-! ### The fields of REPORT STATUS (R166; the places that the model chooses, entry 38) -/

/-- A named value: its place in the list that names it. -/
def placeIn {α : Type} [BEq α] (names : List α) (x : α) : Byte := BitVec.ofNat 8 (names.idxOf x)

/-- An optional named value. -/
def placeOr {α : Type} [BEq α] (names : List α) (x : Option α) : Byte := (x.map (placeIn names)).getD 0xFF

/-- A flag. -/
def flagOf (b : Bool) : Byte := if b then 1 else 0

/-- A quantity, low byte first, and an optional one. -/
def quantity (n : Nat) : List Byte := [BitVec.ofNat 8 (n % 256), BitVec.ofNat 8 (n / 256)]

def quantityOr (n : Option Nat) : List Byte := (n.map quantity).getD [0xFF, 0xFF]

/-- A signed quantity in two's complement, low byte first, and an optional one. -/
def signedQuantity (v : Int) : List Byte := [(BitVec.ofInt 16 v).truncate 8, (BitVec.ofInt 16 v >>> 8).truncate 8]

def signedOr (v : Option Int) : List Byte := (v.map signedQuantity).getD [0x00, 0x80]

/-- A row of section 0 (R1), with the time left on its deadline, empty on GEAR and WINCH. -/
def AuthRow.fields (r : AuthRow) (left : Option Nat) : List Byte :=
  [match r.holder with
    | .radio => 0
    | .pit => 1
    | .auto _ => 2
    | .noParty => 3,
   match r.holder with
    | .auto .failsafe => 0
    | .auto .assist => 1
    | _ => 0xFF,
   placeOr [.radio, .noParty, .assist] r.pending] ++ quantityOr left

/-- Section 1 (R157), the functions in the order that entry 38 chooses. -/
def Receiver.fields (b : Receiver) : List Byte :=
  [placeIn [.absent, .live, .hold, .lost, .recovering] b.link] ++ quantity b.run ++ quantity b.channels ++
    quantityOr b.lastCounter ++ b.slots.flatMap quantityOr ++ signedOr b.published.throttle ++
    signedOr b.published.steer ++ quantityOr (b.published.steerMode.map Fin.val) ++
    quantityOr (b.published.gear.map Fin.val) ++ signedOr b.published.winch ++
    quantityOr (b.published.lights.map Fin.val)

/-- Section 2 (R22, R32, R36, R38, R47). -/
def Battery.fields (b : Battery) : List Byte :=
  [placeIn [.ident, .normal, .warn, .limit, .cut, .shutdown, .fault] b.stage, flagOf b.gateWarned, flagOf b.gateCrossed,
    placeIn [.active, .parked, .shutdown] b.power, flagOf b.pwrHold, flagOf b.railEn,
    placeIn [.powerOn, .brownout, .request] b.resetCause] ++ quantity b.cellCount ++
    ([0, 1, 2, 3] : List (Fin 4)).flatMap (fun k => quantity (b.vRaw.get k) ++ quantityOr (b.vComp.get k)) ++
    [b.minComp, b.packCurrent, b.railCurrent, b.winchCurrent, min 65535 (b.charge / 36000)].flatMap quantity

/-- Section 3 (R65); the demand is the one the latest pass used (entry 26). -/
def Budget.fields (b : Budget) : List Byte :=
  [b.stagePercent, b.sagFactor, b.available, b.remaining].flatMap quantity ++ [flagOf b.assistRanks] ++
    [b.steer, b.drive, b.winch, b.lights].flatMap fun r =>
      quantity r.passDemand ++ quantity r.grant ++ [placeIn [.full, .partly, .starved] r.state]

/-- Section 4, as of the latest refresh (R83). -/
def Steering.fields (b : Steering) : List Byte :=
  [placeIn [.front, .rear, .counter, .crab] b.active, placeOr [.front, .rear, .counter, .crab] b.pendingMode] ++
    signedQuantity b.front ++ signedQuantity b.rear ++ quantityOr b.frontPulse ++ quantityOr b.rearPulse ++
    [flagOf b.overload, flagOf b.shownRestraint] ++ signedQuantity b.published

/-- Section 5, as of the latest drive update and the latest shift servo refresh (R102). -/
def Drive.fields (d : Drive) : List Byte :=
  [if d.shownDrive.armed then 0 else 1] ++ quantity d.shownDrive.armCount ++
    [placeIn [.neutral, .forward, .brake, .gate, .reverse] d.shownDrive.dir, flagOf d.shownDrive.gateRuns] ++
    [d.shownDrive.requested, d.shownDrive.present, d.shownDrive.grant, d.shownDrive.cap].flatMap quantity ++
    [flagOf d.shownDrive.brakeFlag, flagOf d.shownDrive.reverseFlag, placeIn [.high, .low, .dig] d.shownShift.gear,
      placeOr [.high, .low, .dig] d.shownShift.pendingGear, flagOf d.shownShift.travel]

/-- The record in flight in section 6, the run count and K of HAUL_TO_TENSION alone (R116, R131). -/
def OpRecord.fields (r : OpRecord) : List Byte :=
  [placeIn [.payOut, .haulIn, .haulToTension, .home, .assistHaul] r.kind] ++
    [r.target, r.moved, r.target - r.moved].flatMap quantity ++ [flagOf r.immediate] ++
    (if r.kind = .haulToTension then quantity r.run ++ quantity r.settle else [0xFF, 0xFF, 0xFF, 0xFF]) ++
    quantity r.retries ++ quantity r.recovered ++ quantityOr r.starvedFor

/-- Section 6, as of the latest winch update or pulse (R131). -/
def WinchShown.fields (b : WinchShown) : List Byte :=
  [placeIn [.hold, .driven, .operation, .freespool, .jammed] b.mode] ++ quantityOr b.position ++
    [if b.position = none then 1 else 0] ++ quantityOr b.remaining ++
    [flagOf b.reserveWarned, if b.hookHome then 0 else 1] ++
    [b.requested, b.present, b.grant, b.cap, b.stallTime].flatMap quantity ++ [flagOf b.backOff] ++
    (b.record.map OpRecord.fields).getD (List.replicate 18 0xFF)

/-- Section 7, as of the latest light step (R148). -/
def Lights.fields (b : Lights) : List Byte :=
  quantity b.stepScene.val ++ quantityOr (b.stepPos.map Fin.val) ++ [flagOf b.leftTurn, flagOf b.rightTurn] ++
    [b.grant, b.signalSum, b.ambientSum, b.demand].flatMap quantity ++
    ([0, 1, 2, 3, 4, 5, 6, 7] : List (Fin 8)).flatMap fun k =>
      [placeIn [.fault, .cut, .hazard, .warn, .turn, .brake, .reverse, .beacon, .scene, .off] (b.outs.get k).overlay] ++
        quantity (b.outs.get k).selected ++ quantity (b.outs.get k).driven

/-- Section 8 (R164 to R166, R172). -/
def State.linkFields (s : State) : List Byte :=
  ([0, 1, 2] : List Nat).map (fun k => placeOr [.resetOccurred, .packChanged, .defaultsLoaded] s.pli.attention[k]?) ++
    [flagOf (s.pli.deferred ≠ none), (s.pli.owed.map Owed.code).getD 0xFF] ++ s.pli.sense.toBytes ++
    [if s.pst.engine = .idle then 0 else 1, flagOf s.pst.packPending] ++ quantity s.pst.active.val

/-- The bytes of a section, given the times left on the deadlines of DRIVE and STEER. -/
def State.sectionFields (s : State) (driveLeft steerLeft : Nat) : Nat → List Byte
  | 0 =>
    s.au.drive.fields (if s.au.drive.deadline then some driveLeft else none) ++
      s.au.steer.fields (if s.au.steer.deadline then some steerLeft else none) ++ s.au.gear.fields none ++
      s.au.winch.fields none
  | 1 => s.rxl.fields
  | 2 => s.bsv.fields
  | 3 => s.bga.fields
  | 4 => s.stc.fields
  | 5 => s.drc.fields
  | 6 => s.wnc.shown.fields
  | 7 => s.ltc.fields
  | _ => s.linkFields

/-! ### Changes of holder and of power state -/

/-- A row's place in the parameter of CLAIM and RELEASE (R167). -/
def Row.place : Row → Nat
  | .drive => 0
  | .steer => 1
  | .gear => 2
  | .winch => 3

/-- DRC disarmed (R88). -/
def State.disarmedNow (s : State) : State := { s with drc := { s.drc with armed := false, armCount := 0 } }

/-- A row taken by a claim: the pit's starting entry, the deadline of DRIVE and STEER, DRC disarmed by a claim of DRIVE (R4,
R12, R88). -/
def State.claimed (s : State) (r : Row) : State :=
  match r with
  | .drive => State.disarmedNow { s with au := { s.au with
      drive := ⟨.pit, none, true⟩, image := { s.au.image with drive := ⟨.command, 0⟩ } } }
  | .steer => { s with au := { s.au with
      steer := ⟨.pit, none, true⟩, image := { s.au.image with steer := ⟨0, false, s.au.image.steer.mode⟩ } } }
  | .gear => { s with au := { s.au with gear := ⟨.pit, none, false⟩, image := { s.au.image with gear := none } } }
  | .winch => { s with au := { s.au with
      winch := ⟨.pit, none, false⟩, winchTimer := false, image := { s.au.image with winch := ⟨.hold, 0⟩ } } }

/-- A claim of a row that PIT holds: the deadline of a DRIVE or STEER row starts again (R12). -/
def State.reaffirmed (s : State) (r : Row) : State :=
  match r with
  | .drive => { s with au := { s.au with drive := { s.au.drive with deadline := true } } }
  | .steer => { s with au := { s.au with steer := { s.au.steer with deadline := true } } }
  | .gear => s
  | .winch => s

/-- A row that goes to RADIO: the entry is the radio's, from the commands last published (R2, R3); DRC is disarmed where
DRIVE leaves PIT, AUTO(FAILSAFE) or NONE (R88). -/
def State.toRadio (s : State) (r : Row) : State :=
  match r with
  | .drive => State.disarmedNow { s with au := { s.au with
      drive := ⟨.radio, none, false⟩
      image := { s.au.image with drive := ⟨.command, s.rxl.published.throttle.getD 0⟩ } } }
  | .steer => { s with au := { s.au with
      steer := ⟨.radio, none, false⟩
      image := { s.au.image with steer := ⟨s.rxl.published.steer.getD 0, false,
        match s.rxl.published.steerMode with
        | some i => s.pst.working.stc.modeList.get i
        | none => s.au.image.steer.mode⟩ } } }
  | .gear => { s with au := { s.au with
      gear := ⟨.radio, none, false⟩
      image := { s.au.image with gear := s.rxl.published.gear.map fun
        | 0 => Gear.high
        | 1 => Gear.low
        | 2 => Gear.dig } } }
  | .winch => { s with au := { s.au with
      winch := ⟨.radio, none, false⟩, winchTimer := false
      image := { s.au.image with winch := ⟨.speed, s.rxl.published.winch.getD 0⟩ } } }

/-- A row that goes to NONE: the neutral entry (R2); a pending holder stays only where the rule of the event says so. -/
def State.toNone (s : State) (r : Row) (pending : Option PendingHolder) : State :=
  match r with
  | .drive => { s with au := { s.au with
      drive := ⟨.noParty, pending, false⟩, image := { s.au.image with drive := ⟨.command, 0⟩ } } }
  | .steer => { s with au := { s.au with
      steer := ⟨.noParty, pending, false⟩, image := { s.au.image with steer := ⟨0, false, s.au.image.steer.mode⟩ } } }
  | .gear => { s with au := { s.au with
      gear := ⟨.noParty, pending, false⟩, image := { s.au.image with gear := none } } }
  | .winch => { s with au := { s.au with
      winch := ⟨.noParty, pending, false⟩, winchTimer := false, image := { s.au.image with winch := ⟨.hold, 0⟩ } } }

/-- The part after a wake: ACTIVE, the drive disarmed, and each servo's next pulse the first after the wake (R44, R80, R88,
R100). -/
def State.woken (s : State) : State :=
  State.timerRestarted { s with
    bsv := { s.bsv with power := .active, railEn := s.bsv.stage ≠ .fault, nextScan := .afterWake }
    stc := { s.stc with unpulsed := true }
    drc := { s.drc with armed := false, armCount := 0, unpulsed := true } }

/-- A pack record save requested by BSV: none in FAULT; at once when the engine is IDLE, with the contents of this moment;
otherwise it is pending (R35, R172). -/
def State.saveRequested (s : State) : State :=
  if s.bsv.stage = .fault then s
  else if s.pst.engine = .idle then
    { s with pst := { s.pst with
        engine := .pack ⟨s.bsv.identityCells, s.bsv.identityAverage, min 65535 (s.bsv.charge / 36000), s.wnc.position,
          s.pst.active⟩
        pack := .invalid
        packPending := false } }
  else { s with pst := { s.pst with packPending := true } }

/-- The part after the entry to PARKED (R42). -/
def State.nowParked (s : State) : State :=
  State.saveRequested { s with bsv := { s.bsv with power := .parked, railEn := false, parkTimer := none, cutRun := 0 } }

/-! ### The result of an operation (R119, R162, R163) -/

/-- The CODE of the request that creates an operation: the source of its result (section 9.8). -/
def OpKind.code : OpKind → Byte
  | .payOut => 0x30
  | .haulIn => 0x31
  | .haulToTension => 0x32
  | .home => 0x33
  | .assistHaul => 0x34

/-- The sense of an ending that is not GOOD: the residual, but for HOME, which has none (R119). -/
def OpRecord.resultSense (r : OpRecord) (k : SenseKind) : Sense :=
  if r.kind = .home then ⟨k, false, false, false, 0⟩ else ⟨k, true, false, false, r.target - r.moved⟩

/-- The moved count, low byte first, and the recovered jams (R162, R163). -/
def OpRecord.resultBytes (r : OpRecord) : List Byte :=
  [BitVec.ofNat 8 (r.moved % 256), BitVec.ofNat 8 (r.moved / 256), BitVec.ofNat 8 r.recovered]

/-- PLI after an operation has ended, GOOD for `none`: without IMMEDIATE the owed reply is completed and becomes ready;
under IMMEDIATE an outcome other than GOOD fills the deferred slot, or sets the more flag of a result held there (R162,
R163, R164). -/
def PitLink.withResult (p : PitLink) (r : OpRecord) (outcome : Option SenseKind) : PitLink :=
  match r.immediate, outcome, p.owed with
  | true, none, _ => p
  | true, some k, _ =>
    { p with deferred := match p.deferred with
        | none => some ⟨r.kind.code, r.resultSense k, r.moved, r.recovered, false⟩
        | some d => some { d with more := true } }
  | false, _, none => p
  | false, none, some o =>
    { p with
      owed := none
      ready := p.ready ++ [⟨o.entries ++ [⟨o.code, .good, r.resultBytes⟩], true⟩] }
  | false, some k, some o =>
    { p with
      owed := none
      sense := r.resultSense k
      ready := p.ready ++
        [⟨o.entries ++ [⟨o.code, .check, (r.resultSense k).toBytes ++ r.resultBytes⟩], true⟩] }

/-- The DRIVE row at the removal of an ASSIST_HAUL record: a pending AUTO(ASSIST) is cleared, and an AUTO(ASSIST) holder is
given RADIO if its throttle can be taken up, else NONE, unless a holder is pending (R17, R18). -/
def AuthRow.afterAssist (r : AuthRow) (throttleLive : Bool) : AuthRow :=
  { r with pending :=
      if r.holder = .auto .assist then
        (if r.pending = none then some (if throttleLive then .radio else .noParty) else r.pending)
      else if r.pending = some .assist then none else r.pending }

/-! ### Formulas of the rules -/

/-- The target duty of a throttle magnitude: the segment of the curve that holds it, |t| = 1000 in the last (R89). -/
def curveTarget (c : Curve) (t : Nat) : Nat :=
  let points := [c.p0, c.p1, c.p2, c.p3, c.p4]
  let k := min 3 (t / 250)
  if t = 0 then 0
  else points.getD k 0 + (points.getD (k + 1) 0 - points.getD k 0) * (t - 250 * k) / 250

/-- A raw channel value normalized: offset and trim, reverse, limit, dead band and scaling (R156). -/
def normalCommand (b : Binding) (raw : Nat) : Int :=
  let c : Int := if b.reverse then -((raw : Int) - 1000 - b.trim) else (raw : Int) - 1000 - b.trim
  let m := min 1000 c.natAbs
  if m ≤ b.deadBand then 0 else c.sign * ((m - b.deadBand) * 1000 / (1000 - b.deadBand) : Nat)

/-- The pulse width of an axle output in µs, from endpoints in order (R77). -/
def servoPulse (x : Axle) (a : Int) : Nat :=
  if 0 ≤ a then x.centre + a.natAbs * (x.max - x.centre) / 1000 else x.centre - a.natAbs * (x.centre - x.min) / 1000

/-- A duty's demand in 0.1 A, rounded up (R52). -/
def demandOf (duty stall : Nat) : Nat := (duty * stall + 999) / 1000

/-- A grant's duty cap (R62). -/
def capOf (grant stall : Nat) : Nat := min 1000 (grant * 1000 / stall)

/-- A duty under a ramp: it rises by at most the step and falls at once (R93, R111). -/
def ramped (target previous step : Nat) : Nat := if previous ≤ target then min target (previous + step) else target

/-- An output moved toward its target by at most the slew limit (R74). -/
def Slewed (limit : Nat) (out target new : Int) : Prop :=
  if (target - out).natAbs ≤ limit then new = target
  else if out < target then new = out + limit
  else new = out - limit

/-- The raw value of a channel, from 1, in the channel table, if the channel is bound and within the count (R155). -/
def Receiver.channel (b : Receiver) (k : Nat) : Option Nat :=
  if 1 ≤ k ∧ k ≤ b.channels then (b.slots[k - 1]?).join else none

/-- AU after any reset: every row NONE, the neutral image, requested mode FRONT (R1, R2). -/
def resetAuthority : Authority where
  drive := ⟨.noParty, none, false⟩
  steer := ⟨.noParty, none, false⟩
  gear := ⟨.noParty, none, false⟩
  winch := ⟨.noParty, none, false⟩
  winchTimer := false
  image := ⟨⟨.command, 0⟩, ⟨0, false, .front⟩, none, ⟨.hold, 0⟩⟩

/-- RXL after any reset (R151). -/
def resetReceiver : Receiver where
  link := .absent
  slots := List.replicate 12 none
  channels := 0
  published := ⟨none, none, none, none, none, none⟩
  lastCounter := none
  run := 0
  gap := none
  assembler := .hunting

/-- REPORT STATUS shows the drive as it stands (R102). -/
def Drive.ShownCurrent (d : Drive) : Prop :=
  d.shownDrive = { armed := d.armed, armCount := d.armCount, dir := d.dir, gateRuns := d.gateTimer ≠ none
                   requested := d.requested, present := d.present, grant := d.grant, cap := d.cap
                   brakeFlag := d.brakeFlag, reverseFlag := d.reverseFlag }

/-- REPORT STATUS shows the winch as it stands (R131). -/
def Winch.ShownCurrent (b : Winch) : Prop :=
  b.shown = { mode := b.mode, position := b.position, remaining := b.position.map fun p => b.capacity - p
              reserveWarned := b.reserveWarned, hookHome := b.hookHome, requested := b.requested, present := b.present
              grant := b.grant, cap := b.cap, stallTime := b.stallTime, backOff := b.backOff, record := b.record }

/-- A budget row after any reset, with the rank it then has (R49). -/
def BudgetRow.Cleared (r : BudgetRow) (rank : Nat) : Prop :=
  r.demand = 0 ∧ r.passDemand = 0 ∧ r.grant = 0 ∧ r.protectedGrant = 0 ∧ r.state = .full ∧ r.rank = rank

/-- The four consumers, the budget with its normal ranks and the figures of its latest pass, and the frame assembler of PLI
after any reset, with the settings then in the working copy (R49, R59, R65, R66, R84, R103, R133, R158). The fields that
no reset table names have the values of assumption log entries 41 and 53. -/
def State.BlocksReset (s : State) : Prop :=
  (s.bga.steer.Cleared 1 ∧ s.bga.drive.Cleared 2 ∧ s.bga.winch.Cleared 3 ∧ s.bga.lights.Cleared 4 ∧
      s.bga.stagePercent = 0 ∧ s.bga.sagFactor = 0 ∧ s.bga.available = 0 ∧ s.bga.remaining = 0 ∧
      s.bga.assistRanks = false) ∧
    s.pli.assembler = .hunting ∧ s.pli.resetAwaited = false ∧
    (s.stc.active = .front ∧ s.stc.pendingMode = none ∧ s.stc.front = 0 ∧ s.stc.rear = 0 ∧ s.stc.frontTarget = 0 ∧
      s.stc.rearTarget = 0 ∧ s.stc.overload = false ∧ s.stc.restraint = false ∧ s.stc.published = 0 ∧
      s.stc.interval = s.pst.working.stc.refreshPeriod ∧ s.stc.frontPulse = none ∧ s.stc.rearPulse = none ∧
      s.stc.unpulsed = true ∧ s.stc.shownRestraint = false) ∧
    (s.drc.armed = false ∧ s.drc.armCount = 0 ∧ s.drc.dir = .neutral ∧ s.drc.gateTimer = none ∧ s.drc.requested = 0 ∧
      s.drc.present = 0 ∧ s.drc.grant = 0 ∧ s.drc.cap = 0 ∧ s.drc.bridge = .opened ∧ s.drc.brakeFlag = false ∧
      s.drc.reverseFlag = false ∧ s.drc.neutralCount = 0 ∧ s.drc.gear = s.pst.working.drc.startGear ∧
      s.drc.pendingGear = none ∧ s.drc.travel = false ∧ s.drc.shiftPulse = none ∧ s.drc.unpulsed = true ∧
      s.drc.pulseChanged = ⟨false, false, false⟩ ∧
      s.drc.shownDrive = ⟨false, 0, .neutral, false, 0, 0, 0, 0, false, false⟩ ∧
      s.drc.shownShift = ⟨s.pst.working.drc.startGear, none, false⟩) ∧
    (s.wnc.mode = .hold ∧ s.wnc.record = none ∧ s.wnc.requested = 0 ∧ s.wnc.present = 0 ∧ s.wnc.requestedDir = .out ∧
      s.wnc.stopMark = false ∧ s.wnc.bridge = .opened ∧ s.wnc.grant = 0 ∧ s.wnc.cap = 0 ∧ s.wnc.stallTime = 0 ∧
      s.wnc.backOff = false ∧ s.wnc.pulseSinceScan = false ∧ s.wnc.ShownCurrent) ∧
    s.ltc.scene = 0 ∧ s.ltc.heldPos = none ∧ s.ltc.leftTurn = false ∧ s.ltc.rightTurn = false ∧
    s.ltc.outs = .all ⟨.off, none, 0, 0, .released⟩ ∧ s.ltc.grant = 0 ∧ s.ltc.signalSum = 0 ∧ s.ltc.ambientSum = 0 ∧
    s.ltc.demand = 0 ∧ s.ltc.stepScene = 0 ∧ s.ltc.stepPos = none ∧ s.ltc.patternWritten = .all false

/-! ### Scans -/

/-- What a scan records of its readings, for the cell count it is judged by: each reading within its range, V_comp of the
counted cells, and both minima over them, or over tap 1 when none is counted (R20, R22, entry 20). -/
def Battery.Measured (b : Battery) (r : Readings) (cellResistance : Nat) : Prop :=
  b.vRaw = ⟨min 4500 r.tap1.toNat, min 4500 r.tap2.toNat, min 4500 r.tap3.toNat, min 4500 r.tap4.toNat⟩ ∧
    b.packCurrent = min 1500 r.pack.toNat ∧ b.railCurrent = min 150 r.rail.toNat ∧
    b.winchCurrent = min 400 r.winch.toNat ∧
    (∀ k : Fin 4, b.vComp.get k =
      if k.val < b.cellCount then some (b.vRaw.get k + min 500 (b.packCurrent * cellResistance / 10)) else none) ∧
    (∃ k : Fin 4, k.val < max 1 b.cellCount ∧ b.minRaw = b.vRaw.get k) ∧
    (∀ k : Fin 4, k.val < max 1 b.cellCount → b.minRaw ≤ b.vRaw.get k) ∧
    b.minComp = b.minRaw + min 500 (b.packCurrent * cellResistance / 10)

/-- The taps are counted upward, and the count stops at the first tap at 2000 mV or below (R25). -/
def Battery.TapsCounted (b : Battery) : Prop :=
  b.cellCount ≤ 4 ∧ (∀ k : Fin 4, k.val < b.cellCount → 2000 < b.vRaw.get k) ∧
    ∀ k : Fin 4, k.val = b.cellCount → b.vRaw.get k ≤ 2000

/-! ### Budget, drive, lights and the entry to LOST -/

/-- The rank distribution (R58): each row, as its unprotected demand and its floor, is offered what remains, and is given
nothing when that is below its floor. -/
def served : List (Nat × Nat) → Nat → List Nat
  | [], _ => []
  | (u, floor) :: rest, r =>
    let g := if min u r < floor then 0 else min u r
    g :: served rest (r - g)

/-- The direction state after an update under an armed COMMAND entry (R90, R91). -/
def directionAfter (gateTime : Nat) (before : DirState) (t : Int) : DirState :=
  match before with
  | .neutral => if 0 < t then .forward else if t < 0 then .reverse else .neutral
  | .reverse => if 0 < t then .forward else if t < 0 then .reverse else .neutral
  | .gate => if 0 < t then .forward else .gate
  | .forward =>
    if 0 < t then .forward
    else if gateTime = 0 then (if t < 0 then .reverse else .neutral)
    else if t < 0 then .brake else .gate
  | .brake => if 0 < t then .forward else if t < 0 then .brake else if gateTime = 0 then .neutral else .gate

/-- A brake at the drag strength, or the open bridge at strength 0 (R86, R92). -/
def dragAction (strength : Nat) : DriveBridge := if strength = 0 then .opened else .brake strength

/-- The condition and the roles of an overlay, from the turn flags of the same step (R140). -/
def State.Raised (s : State) (left right : Bool) (r : Role) : Overlay → Bool
  | .fault => s.bsv.stage = .fault
  | .cut => s.bsv.stage = .cut && (r = .tail || r = .brake)
  | .hazard => s.rxl.link = .lost && s.bsv.power = .active && (r = .turnL || r = .turnR)
  | .warn => (s.bsv.stage = .warn || s.bsv.stage = .limit) && r = .tail
  | .turn => s.bsv.power = .active && ((left && r = .turnL) || (right && r = .turnR))
  | .brake => s.drc.brakeFlag && r = .brake
  | .reverse => s.drc.reverseFlag && r = .reverse
  | .beacon => s.wnc.mode ≠ .hold && s.bsv.power = .active && r = .beacon
  | .scene => true
  | .off => false

/-- The priority order of the overlays (R140). -/
def overlayOrder : List Overlay := [.fault, .cut, .hazard, .warn, .turn, .brake, .reverse, .beacon, .scene]

/-- The signal overlays: overlays 1 to 5 (R140). -/
def signalOverlays : List Overlay := [.fault, .cut, .hazard, .warn, .turn]

/-- The pattern that each pattern overlay plays (R138, R140). -/
def overlayPattern : List (Overlay × Fin 8) := [(.hazard, 0), (.turn, 1), (.warn, 2), (.cut, 3), (.fault, 4), (.beacon, 5)]

/-- The drive type's reading of a level: ON_OFF takes 128 and above as 255 (R144). -/
def typed (d : DriveType) (level : Nat) : Nat := if d = .onOff then (if level < 128 then 0 else 255) else level

/-- A row at the entry to LOST (R10). -/
def AuthRow.lost (r : AuthRow) : AuthRow :=
  if r.holder = .radio then ⟨.auto .failsafe, none, false⟩
  else if r.pending = some .radio then { r with pending := none }
  else r

/-- AU after the entry to LOST (R2, R10). The operation record that R10 asks of an AUTO(ASSIST) row is read as its
ASSIST_HAUL record (DEDUCED, entry 60). -/
def State.lostRows (s : State) : Authority where
  drive :=
    if s.au.drive.holder = .auto .assist ∧ s.au.drive.pending = some .radio ∧
        s.wnc.record.map OpRecord.kind ≠ some .assistHaul then
      { s.au.drive with pending := some .noParty }
    else s.au.drive.lost
  steer := s.au.steer.lost
  gear := s.au.gear.lost
  winch := s.au.winch.lost
  winchTimer := s.au.winchTimer && s.au.winch.holder ≠ .radio && s.au.winch.pending ≠ some .radio
  image :=
    { drive := if s.au.drive.holder = .radio then ⟨.fullBrake, 0⟩ else s.au.image.drive
      steer :=
        if s.au.steer.holder = .radio then { s.au.image.steer with hold := true } else s.au.image.steer
      gear := if s.au.gear.holder = .radio then none else s.au.image.gear
      winch := if s.au.winch.holder = .radio then ⟨.hold, 0⟩ else s.au.image.winch }

/-- The gap timer restarted with the failsafe time in force (R152). -/
def State.gapRestarted (s : State) : Option GapTimer := some ⟨s.pst.working.rxl.failsafeTime, false⟩

/-- The operation record of an assisted haul is removed by the winch stick's leaving neutral, seen in the commands published
before and after a frame (R16, R127). -/
def State.assistTakenOver (s : State) (now : Option Int) : Bool :=
  s.au.winch.holder = .pit && s.au.winch.pending = none && s.rxl.published.winch = some 0 && now ≠ none && now ≠ some 0 &&
    match s.wnc.record with
    | some r => r.kind = .assistHaul
    | none => false

/-- What a published frame does beside the rows of AU: the six commands are formed, normalized, from the channel table and
the bindings (R154 to R156); the lights switch sets its scene once (R136); an enabled source wakes a PARKED part (R43). -/
def State.FramePublished (s t : State) : Prop :=
  (∀ (b : Binding) (now : Option Int), (b, now) ∈
      [(s.pst.working.rxl.throttle, t.rxl.published.throttle), (s.pst.working.rxl.steer, t.rxl.published.steer),
        (s.pst.working.rxl.winch, t.rxl.published.winch)] →
    now = (t.rxl.channel b.channel).map (normalCommand b)) ∧
  (∀ (b : Binding) (now : Option SwitchPos), (b, now) ∈
      [(s.pst.working.rxl.steerMode, t.rxl.published.steerMode), (s.pst.working.rxl.gear, t.rxl.published.gear),
        (s.pst.working.rxl.lights, t.rxl.published.lights)] →
    now = (t.rxl.channel b.channel).map fun raw =>
      if normalCommand b raw < -333 then 0 else if 333 < normalCommand b raw then 2 else 1) ∧
  (t.rxl.published.lights = none → t.ltc = { s.ltc with heldPos := none }) ∧
  (∀ i, t.rxl.published.lights = some i →
    t.ltc = if s.ltc.heldPos = some i then s.ltc
      else { s.ltc with heldPos := some i, scene := s.pst.working.ltc.sceneList.get i }) ∧
  (s.bsv.power = .parked →
    (t.bsv.power = .active ↔
      s.pst.working.bsv.wakeRadio = true ∧
          ((∃ v, t.rxl.published.throttle = some v ∧ 200 < v.natAbs) ∨
            ∃ v, t.rxl.published.steer = some v ∧ 200 < v.natAbs) ∨
        s.pst.working.bsv.wakeWinch = true ∧ ∃ v, t.rxl.published.winch = some v ∧ v ≠ 0) ∧
    (t.bsv.power = .active → t.bsv = s.woken.bsv ∧ t.drc = s.woken.drc ∧ t.stc.unpulsed = true)) ∧
  (s.bsv.power ≠ .parked → t.bsv = s.bsv ∧ t.stc.unpulsed = s.stc.unpulsed) ∧
  t.bga = s.bga ∧ t.pst = s.pst

/-- The entry to LIVE takes the winch from PIT or AUTO(FAILSAFE) and so removes the record of an assisted haul (R8, R127). -/
def State.assistCutShort (s : State) : Bool :=
  (s.au.winch.holder = .pit || s.au.winch.holder = .auto .failsafe) &&
    s.wnc.record.map OpRecord.kind = some .assistHaul

/-- The direction WNC gives a pulse (R104). -/
def Winch.pulseToward (b : Winch) : WinchDir :=
  if b.bridge = .windOut then .out
  else if b.bridge = .windIn then .inward
  else if b.bridge = .opened ∧ b.mode = .freespool then .out
  else b.drivenDir

/-- The line position after a pulse; `none` is UNKNOWN (R105). -/
def Winch.positionAfter (b : Winch) : Option Nat :=
  match b.position with
  | none => none
  | some p =>
    if b.pulseToward = .out then (if p + 1 ≤ b.capacity then some (p + 1) else none)
    else if 0 < p then some (p - 1)
    else if b.hookHome = true then some 0 else none

/-- A target withheld at the end of the drum (R113). -/
def stickTarget (v : Int) (position : Option Nat) (capacity : Nat) (hookHome : Bool) : Nat :=
  if 0 < v ∧ position = some capacity ∨ v < 0 ∧ hookHome = true then 0 else v.natAbs

/-- The present duty from the requested duty, 0 when starved (R111). -/
def windDuty (requested grant floor cap before ramp : Nat) : Nat :=
  if 0 < requested ∧ (grant < floor ∨ cap = 0) then 0 else min requested (min cap (before + ramp))

end Sys2Proof.Machine
end

