-- ==== Sys2Proof/WellFormed.lean ====
section
/-! DEFINITION. Which commands can come about: a request block has at most 16 parameter bytes, a frame is complete, a
discard has its reason, and an unknown code is not in the catalogue. -/

namespace Sys2Proof

/-- PLEN is 0 to 16 (section 9.1). -/
def Block.wellFormed (b : Block) : Bool := b.params.length ≤ 16

/-- A LEN outside the receiver frame's is what R149 discards. -/
def ReceiverDiscard.wellFormed : ReceiverDiscard → Bool
  | .missingStopBit => true
  | .badLength len => !Machine.receiverLenOk len

/-- A body has the length that a good LEN gives (R158). -/
def bodyLengthOk (body : List Byte) : Bool := 2 ≤ body.length && body.length ≤ 120

/-- The reasons of R158. -/
def PitDiscard.wellFormed : PitDiscard → Bool
  | .missingStopBit => true
  | .byteWhileTransmitting => true
  | .badLength len => !Machine.pitLenOk len
  | .crcMismatch body low high =>
    bodyLengthOk body && Machine.crcBytes (Machine.crc16 (Machine.byteOf body.length :: body)) ≠ [low, high]
  | .notWholeBlocks body => bodyLengthOk body && (Machine.bodyBlocks body).isNone

/-- A command that can come about. -/
def Instr.wellFormed : Instr → Bool
  | .powerOnReset => true
  | .brownoutReset => true
  | .scanCompletion _ => true
  | .parkIdleTimerExpiry => true
  | .servoRefreshExpiry => true
  | .driveUpdateExpiry => true
  | .gateTimerExpiry => true
  | .shiftServoRefresh => true
  | .shiftTravelTimerExpiry => true
  | .winchUpdateExpiry _ => true
  | .backOffTimerExpiry => true
  | .drumPulseArrival _ => true
  | .hookHomeArrival => true
  | .winchBoundaryTimerExpiry => true
  | .pitHoldDeadlineExpiry _ => true
  | .lightStepExpiry => true
  | .channelFrame bytes => (Machine.receiverFrameOf bytes).isSome
  | .rxlByteGapTimeout => true
  | .holdMarkExpiry => true
  | .failsafeMarkExpiry => true
  | .pitByteGapTimeout => true
  | .replyTransmit => true
  | .resetRequestEffect => true
  | .commitProgrammingEnd _ => true
  | .packSaveEnd _ => true
  | .reportStatus b => b.wellFormed
  | .requestSense b => b.wellFormed
  | .identify b => b.wellFormed
  | .claim b => b.wellFormed
  | .release b => b.wellFormed
  | .setDrive b => b.wellFormed
  | .setSteer b => b.wellFormed
  | .setGear b => b.wellFormed
  | .setScene b => b.wellFormed
  | .winchPayOut b => b.wellFormed
  | .winchHaulIn b => b.wellFormed
  | .winchHaulToTension b => b.wellFormed
  | .winchHome b => b.wellFormed
  | .winchAssistHaul b => b.wellFormed
  | .winchFreespool b => b.wellFormed
  | .winchStop b => b.wellFormed
  | .abort b => b.wellFormed
  | .readSetting b => b.wellFormed
  | .writeSetting b => b.wellFormed
  | .selectProfile b => b.wellFormed
  | .commitProfile b => b.wellFormed
  | .loadDefaults b => b.wellFormed
  | .park b => b.wellFormed
  | .reset b => b.wellFormed
  | .receiverFrameDiscard why => why.wellFormed
  | .pitFrameDiscard why => why.wellFormed
  | .unknownCode code b => b.wellFormed && (Machine.Request.ofCode code).isNone

end Sys2Proof
end

