-- ==== Sys2Proof/Certificates/Slice0/Obligations.lean ====
section
/-! DEFINITION. The statements for the provers, each about the machine and none about a program. The terms they use beyond
the machine's own stand in Sys2Proof/Safety.lean. -/

section Statements

open Sys2Proof Sys2Proof.Machine

/-! ### The step and the properties it keeps -/

/-- A step takes the command at the front of the queue and runs it on the state with the rest of the queue; on an empty
queue the block idles (assumption log, entry 1). -/
def Obligations.StepRunsFrontCommand : Prop :=
  (∀ (c : Instr) (rest : List Instr) (s : State), s.pending = c :: rest →
    step s = exec c { s with pending := rest }) ∧
  ∀ s : State, s.pending = [] → step s = .next s

/-- Every property that the statements below call kept holds right after reset: the shape of the authority table, who may
hold a row, the record and its holder, the lines and timers of BSV, the ranges of the receiver link and of the commands, the
legality of the settings, the queues, the owed reply, the drive's duties and the line position. -/
def Obligations.ResetMeetsInvariants : Prop :=
  State.reset.au.Shaped ∧ State.reset.HeardPit ∧ State.reset.RadioHeard ∧ State.reset.RecordHeld ∧
    State.reset.bsv.Powered ∧ State.reset.rxl.Linked ∧ State.reset.CommandsInRange ∧ State.reset.pst.Legal ∧
    State.reset.pst.SaveWaits ∧ State.reset.pli.AttentionOnce ∧ State.reset.OwedHasWork ∧ State.reset.drc.Dutied ∧
    State.reset.wnc.Positioned

/-- Every step keeps the shape of the authority table: a pit hold deadline runs exactly while PIT holds DRIVE or STEER, the
pending holders and the reason ASSIST stand only on the rows that may have them, and the winch boundary timer runs exactly
while WINCH has a pending holder (R1, R6, R14). -/
def Obligations.AuthorityShapeKept : Prop :=
  ∀ s t : State, s.au.Shaped → step s = .next t → t.au.Shaped

/-- Every step keeps both halves of who may hold a row under which link: PIT holds DRIVE, STEER or GEAR in LIVE or HOLD only
with pending RADIO (R8), and outside LIVE and HOLD the radio holds no row and waits for none (R10, R153). -/
def Obligations.LinkAndHoldersKept : Prop :=
  ∀ s t : State, s.au.Shaped → s.HeardPit → s.RadioHeard → step s = .next t → t.HeardPit ∧ t.RadioHeard

/-- Every step keeps the operation record under an undisturbed PIT holder of WINCH, and the WINCH entry OPERATION exactly
while it exists (R4, R13, R127). -/
def Obligations.RecordHeldKept : Prop :=
  ∀ s t : State, s.au.Shaped → s.RecordHeld → step s = .next t → t.RecordHeld

/-- Every step keeps BSV's lines, park idle timer, stage and power state in agreement (R38, R39, R45). -/
def Obligations.PowerStateKept : Prop :=
  ∀ s t : State, s.bsv.Powered → step s = .next t → t.bsv.Powered

/-- Every step keeps the receiver link's fields in range and its gap timer running exactly outside ABSENT (R151 to R153),
and every published command and control image command within −1000 to 1000 (R2, R151). -/
def Obligations.ReceiverLinkKept : Prop :=
  ∀ s t : State, s.rxl.Linked → s.CommandsInRange → s.pst.Legal → step s = .next t →
    t.rxl.Linked ∧ t.CommandsInRange

/-- Every step keeps every setting of the working copy, of the valid profile records and of a commit in progress within its
range and order (R29, R63, R78, R101, R108, R171). Settings read from a record whose programming has not ended are free
legal ones (assumption log, entry 9). -/
def Obligations.SettingsLegalKept : Prop :=
  ∀ s t : State, s.pst.Legal → step s = .next t → t.pst.Legal

/-- Every step keeps at most one attention entry of each kind (R165), and a pack record save pending only while the program
engine programs (R35, R172). -/
def Obligations.QueuesKept : Prop :=
  ∀ s t : State, s.pli.AttentionOnce → s.pst.SaveWaits → step s = .next t → t.pli.AttentionOnce ∧ t.pst.SaveWaits

/-- Every step keeps an owed reply with its work in flight, and every batch in progress under it restricted (R162). -/
def Obligations.OwedReplyHasWorkKept : Prop :=
  ∀ s t : State, s.OwedHasWork → step s = .next t → t.OwedHasWork

/-- Every step keeps the drive's duties, bridge, gate timer and flags in agreement (R84, R91 to R95), and a KNOWN line
position within the spool capacity in force (R105, R108). -/
def Obligations.MotionKept : Prop :=
  ∀ s t : State, s.drc.Dutied → s.wnc.Positioned → step s = .next t → t.drc.Dutied ∧ t.wnc.Positioned

/-! ### The frames of the two links -/

/-- The frame of a batch of one to four well-formed request blocks, sent after bytes that are no START, is read back as
those commands in order (R158, section 9.1). -/
def Obligations.PitBatchReadsBack : Prop :=
  ∀ (noise : List Byte) (l : List Instr), (∀ x ∈ noise, x ≠ 0x5C) → l ≠ [] → l.length ≤ 4 →
    (∀ i ∈ l, i.wellFormed = true) →
    (l.map fun i => (commandBlock i).map fun p => p.2.last) = List.replicate (l.length - 1) (some false) ++ [some true] →
    readPit .hunting (noise ++ batchFrame l) = l

/-- A receiver frame of 4 to 12 channels, sent after bytes that are no sync byte, is read back whole, and its fields are
those that were sent, with a matching CRC-8 (R149, R150). -/
def Obligations.ReceiverFrameReadsBack : Prop :=
  ∀ (noise : List Byte) (hdr : Byte) (values : List Nat), (∀ x ∈ noise, x ≠ 0xB5) → 4 ≤ values.length →
    values.length ≤ 12 → (∀ v ∈ values, v < 65536) →
    readReceiver .hunting (noise ++ 0xB5 :: receiverBytes hdr values) = [.channelFrame (receiverBytes hdr values)] ∧
      ∃ f, receiverFrameOf (receiverBytes hdr values) = some f ∧ f.counter = hdr.toNat % 16 ∧
        f.failsafe = hdr.getLsbD 7 ∧ f.values = values ∧ f.crc = crc8 f.checked

/-! ### How a request block is decided -/

/-- In IDENT, in SHUTDOWN, and in PARKED with wake on pit disabled, a block that is not exempt is answered BUSY with the
sense of its case, and nothing else changes (R160, steps 2 and 3). In PARKED with wake on pit enabled it wakes the part
and is then decided as in ACTIVE (R43, R44, R88, R160). -/
def Obligations.BlocksHeldBackOrWake : Prop :=
  (∀ (c : Instr) (code : Byte) (b : Block) (s : State), commandBlock c = some (code, b) → s.Open →
    code ∉ [0x01, 0x02, 0x03] →
    (s.bsv.stage = .ident → exec c s = .next (s.answered b ⟨code, .busy, [1, 1, 0, 0, 0]⟩)) ∧
      (s.bsv.stage ≠ .ident →
        s.bsv.power = .shutdown ∨ (s.bsv.power = .parked ∧ s.pst.working.bsv.wakePit = false) →
        exec c s = .next (s.answered b ⟨code, .busy, [0, 0, 0, 0, 0]⟩))) ∧
  ∀ (c : Instr) (code : Byte) (b : Block) (s : State), commandBlock c = some (code, b) → s.Open →
    code ∉ [0x01, 0x02, 0x03] → s.bsv.stage ≠ .ident → s.bsv.power = .parked → s.pst.working.bsv.wakePit = true →
    exec c s = exec c s.woken

/-- In ACTIVE, what is owed to the console is reported in place of a block that is neither exempt nor ABORT: the oldest
attention entry, else the deferred result (R160, step 4, R163, R165). -/
def Obligations.ReportsGoFirst : Prop :=
  ∀ (c : Instr) (code : Byte) (b : Block) (s : State), commandBlock c = some (code, b) → s.Open →
    code ∉ [0x01, 0x02, 0x03, 0x37] → s.bsv.stage ≠ .ident → s.bsv.power = .active →
    (∀ a rest, s.pli.attention = a :: rest →
      exec c s = .next (State.timerRestarted
        (State.checkEntry { s with pli := { s.pli with attention := rest } } b code
          (match a with
            | .resetOccurred => .resetOccurred
            | .packChanged => .packChanged
            | .defaultsLoaded => .defaultsLoaded)))) ∧
      ∀ d, s.pli.attention = [] → s.pli.deferred = some d →
        exec c s = .next (State.timerRestarted
          (State.answered
            { s with pli := { s.pli with
                deferred := none, sense := { d.sense with deferred := true, more := d.more } } } b
            ⟨code, .check, ({ d.sense with deferred := true, more := d.more } : Sense).toBytes ++
              [d.source, BitVec.ofNat 8 (d.moved % 256), BitVec.ofNat 8 (d.moved / 256), BitVec.ofNat 8 d.recovered]⟩))

/-- After a block that was not GOOD each later block of the batch is SKIPPED, unexamined (R161); while a reply is owed, a
block that is not REPORT STATUS, REQUEST SENSE or ABORT is answered BUSY with IN_MOTION (R162). Nothing else changes. That
the restriction comes before the steps of R160, so that such a block wakes nothing, is the model's reading (assumption log,
entry 40). -/
def Obligations.BatchStopsAndRestricts : Prop :=
  ∀ (c : Instr) (code : Byte) (b : Block) (s : State), commandBlock c = some (code, b) →
    ((∃ bt, s.pli.batch = some bt ∧ bt.stopped = true) → exec c s = .next (s.answered b ⟨code, .skipped, []⟩)) ∧
      (s.Going → s.Restricted → code ∉ [0x01, 0x02, 0x37] →
        exec c s = .next (s.answered b ⟨code, .busy, [1, 2, 0, 0, 0]⟩))

/-- A request with a wrong length, a parameter out of range, a wrong place in its batch or an entry that may not fit is
answered CHECK with BAD_PARAMETER and has no effect, exempt requests included (R160, step 5, R161, R167); a CODE outside
the catalogue gets UNKNOWN_CODE (the fit check comes first, assumption log, entry 39). -/
def Obligations.IllegalBlocksChecked : Prop :=
  (∀ (r : Request) (b : Block) (s : State), s.Ready → r.exempt = false →
    ¬s.Fits r.largestData ∨ ¬GoodParams r b.params ∨ ¬s.WellPlaced r b →
    exec (r.command b) s = .next (s.checked b r .badParameter)) ∧
  (∀ (r : Request) (b : Block) (s : State), s.Going → r.exempt = true → ¬s.Restricted ∨ r ≠ .identify →
    ¬s.Fits r.largestData ∨ ¬GoodParams r b.params →
    exec (r.command b) s = .next (s.checkEntry b r.code .badParameter)) ∧
  ∀ (code : Byte) (b : Block) (s : State), s.Ready →
    exec (.unknownCode code b) s = .next (State.timerRestarted
      (s.checkEntry b code (if (s.formed.map fun e => 3 + e.data.length).sum + 3 + 9 ≤ 108 then .unknownCode
        else .badParameter)))

/-! ### The exempt requests -/

/-- REPORT STATUS is answered GOOD with its section, at most 96 bytes, in every stage and power state; nothing else of the
part changes. Each section holds its fields in the order of their rules (R1, R65, R83, R102, R131, R148, R157, R166). The
places of some named values, the order of the six functions, the lengths, and which update, refresh or pulse the fields of
sections 5 and 6 show, rest on the layout that assumption log entry 38 chooses; the time left on a deadline is a free value
(entry 5), and the demand of a row is the one that the latest pass used (entry 26). -/
def Obligations.ReportStatusAnswers : Prop :=
  ∀ (b : Block) (k : Byte) (s : State), s.Going → s.Fits 96 → s.rxl.slots.length = 12 → b.params = [k] → k.toNat ≤ 8 →
    ∃ n data driveLeft steerLeft,
      exec (.reportStatus b) s = .next (State.answered { s with free := n } b ⟨0x01, .good, data⟩) ∧
      data.length = [20, 43, 35, 29, 14, 18, 37, 54, 14].getD k.toNat 0 ∧ data.length ≤ 96 ∧ (k ≠ 0 → n = s.free) ∧
      driveLeft ≤ 500 ∧ steerLeft ≤ 500 ∧ data = s.sectionFields driveLeft steerLeft k.toNat

/-- REQUEST SENSE returns and removes the first of the sense record, the oldest attention entry and the deferred result that
holds something, else the clear sense (R164). IDENTIFY is answered GOOD with the product code, the design revision, the
active profile index and the stored CRC-16 of the four profile records, low byte first (R166); nothing else changes. Over
which bytes the CRC of a valid record runs is open (assumption log, entry 7). -/
def Obligations.SenseAndIdentityAnswered : Prop :=
  (∀ (b : Block) (s : State), s.Going → s.Fits 5 → b.params = [] →
    exec (.requestSense b) s = .next (
      if s.pli.sense.kind ≠ .clear then
        State.answered { s with pli := { s.pli with sense := ⟨.clear, false, false, false, 0⟩ } } b
          ⟨0x02, .good, s.pli.sense.toBytes⟩
      else match s.pli.attention, s.pli.deferred with
        | a :: rest, _ =>
          State.answered { s with pli := { s.pli with attention := rest } } b
            ⟨0x02, .good, [7, match a with
              | .resetOccurred => 1
              | .packChanged => 2
              | .defaultsLoaded => 3, 0, 0, 0]⟩
        | [], some d =>
          State.answered { s with pli := { s.pli with deferred := none } } b
            ⟨0x02, .good, ({ d.sense with deferred := true, more := d.more } : Sense).toBytes⟩
        | [], none => s.answered b ⟨0x02, .good, [0, 0, 0, 0, 0]⟩)) ∧
  ∀ (b : Block) (s : State) (v0 v1 v2 v3 : Settings), s.Going → ¬s.Restricted → s.Fits 12 → b.params = [] →
    s.pst.slots = ⟨.valid v0, .valid v1, .valid v2, .valid v3⟩ →
    exec (.identify b) s = .next (s.answered b ⟨0x03, .good,
      [0x34, 0x4C, 2, BitVec.ofNat 8 s.pst.active.val] ++
        [v0, v1, v2, v3].flatMap fun v =>
          [(crc16 (Config.profileBytes v)).truncate 8, ((crc16 (Config.profileBytes v)) >>> 8).truncate 8]⟩)

/-! ### The rows of the authority table -/

/-- A CLAIM is decided by the first case of R11 that applies, and taken as R12 says. -/
def Obligations.ClaimFollowsTable : Prop :=
  ∀ (b : Block) (r : Row) (s : State), s.Reaches .claim → s.RecordHeld → s.RadioHeard →
    b.params = [BitVec.ofNat 8 r.place] →
    exec (.claim b) s = .next (
      if (s.au.row r).pending = some .radio then s.checked b .claim .radioActive
      else if (s.au.row r).holder = .pit then (s.reaffirmed r).good b .claim
      else if (s.au.row r).holder = .auto .assist ∨ (s.au.row r).pending = some .assist then
        s.checked b .claim .autoHeld
      else if (s.rxl.link = .live ∨ s.rxl.link = .hold) ∧ r ≠ .winch then s.checked b .claim .radioActive
      else if (s.au.row r).holder = .radio ∧ s.au.image.winch.speed ≠ 0 then s.checked b .claim .radioActive
      else (s.claimed r).good b .claim)

/-- A RELEASE takes its row from PIT to RADIO if RXL is LIVE and the binding is live, else to NONE; it is refused where the
pit does not hold the row, and for WINCH while an operation record exists (R15). The binding is judged as it was at the last
published frame (assumption log, entry 19), and a STEER row's mode is the one that the steer mode list of the working copy
gives the switch now (entry 18). -/
def Obligations.ReleaseLeavesPit : Prop :=
  ∀ (b : Block) (r : Row) (s : State), s.Reaches .release → b.params = [BitVec.ofNat 8 r.place] →
    exec (.release b) s = .next (
      if (s.au.row r).holder ≠ .pit then s.checked b .release .notHolder
      else if r = .winch ∧ s.wnc.record ≠ none then s.checked b .release .inMotion
      else if s.rxl.link = .live ∧ s.rxl.published.live r = true then (s.toRadio r).good b .release
      else (s.toNone r none).good b .release)

/-- Each request of R13's table is refused with NOT_HOLDER, with no effect, while the pit does not hold its row. -/
def Obligations.PitCommandsNeedTheRow : Prop :=
  ∀ (r : Request) (row : Row) (b : Block) (s : State), r.heldRow = some row → s.Reaches r → GoodParams r b.params →
    s.WellPlaced r b → (s.au.row row).holder ≠ .pit →
    exec (r.command b) s = .next (s.checked b r .notHolder)

/-- An executed SET DRIVE replaces the throttle and restarts the DRIVE deadline; an executed SET GEAR replaces the requested
gear; a SET SCENE sets the scene and leaves the held light position (R4, R14, R137). -/
def Obligations.DriveGearSceneSet : Prop :=
  (∀ (b : Block) (lo hi : Byte) (s : State), s.Reaches .setDrive → s.au.drive.holder = .pit → b.params = [lo, hi] →
    inRange (signedOf lo hi) →
    exec (.setDrive b) s = .next (State.good { s with au := { s.au with
      drive := { s.au.drive with deadline := true }
      image := { s.au.image with drive := ⟨.command, signedOf lo hi⟩ } } } b .setDrive)) ∧
  (∀ (b : Block) (k : Byte) (s : State), s.Reaches .setGear → s.au.gear.holder = .pit → b.params = [k] → k.toNat ≤ 2 →
    exec (.setGear b) s = .next (State.good { s with au := { s.au with
      image := { s.au.image with
        gear := some (if k = 0 then .high else if k = 1 then .low else .dig) } } } b .setGear)) ∧
  ∀ (b : Block) (k : Fin 4) (s : State), s.Reaches .setScene → b.params = [BitVec.ofNat 8 k.val] →
    exec (.setScene b) s = .next (State.good { s with ltc := { s.ltc with scene := k } } b .setScene)

/-- A SET STEER from a PIT row replaces the steer, restarts the STEER deadline and, with a mode parameter, replaces the
requested mode, unless the assist restraint is in force and the mode is neither requested nor active (R4, R14, R73). -/
def Obligations.SteerSetUnderRestraint : Prop :=
  ∀ (b : Block) (lo hi : Byte) (mode : Option SteerMode) (s : State), s.Reaches .setSteer → s.au.steer.holder = .pit →
    b.params = [lo, hi] ++ (match mode with
      | none => []
      | some .front => [0]
      | some .rear => [1]
      | some .counter => [2]
      | some .crab => [3]) →
    inRange (signedOf lo hi) →
    exec (.setSteer b) s = .next (
      if s.stc.restraint = true ∧ ∃ m, mode = some m ∧ m ≠ s.au.image.steer.mode ∧ m ≠ s.stc.active then
        s.checked b .setSteer .assistActive
      else State.good { s with au := { s.au with
        steer := { s.au.steer with deadline := true }
        image := { s.au.image with
          steer := ⟨signedOf lo hi, false, mode.getD s.au.image.steer.mode⟩ } } } b .setSteer)

/-! ### The winch requests -/

/-- An operation request that the pit may make is refused by the first of cases 1 to 5 of R117 that applies. -/
def Obligations.OperationRefused : Prop :=
  ∀ (r : Request) (b : Block) (s : State), r ∈ operationRequests → s.Reaches r → GoodParams r b.params →
    s.WellPlaced r b → s.au.winch.holder = .pit →
    (s.wnc.record ≠ none → exec (r.command b) s = .next (s.checked b r .inMotion)) ∧
    (s.wnc.record = none → s.au.winch.pending = some .radio →
      exec (r.command b) s = .next (s.checked b r .radioActive)) ∧
    (s.wnc.record = none → s.au.winch.pending ≠ some .radio → s.wnc.mode = .jammed →
      exec (r.command b) s = .next (s.checked b r .winchJammedState)) ∧
    (s.wnc.record = none → s.au.winch.pending ≠ some .radio → s.wnc.mode ≠ .jammed →
      (s.bsv.stage = .cut ∨ s.bsv.stage = .fault) → exec (r.command b) s = .next (s.checked b r .stageCut)) ∧
    (s.OperationFree → r = .winchPayOut → s.wnc.position = none →
      exec (r.command b) s = .next (s.checked b r .positionUnknown))

/-- An operation request that no case of R117 refuses creates its record with the request's count, the WINCH entry becomes
OPERATION, and the block is answered GOOD under IMMEDIATE or owes its reply (R4, R116, R117, R162, R163). The target of HOME
is the capacity in force at the latest winch update (assumption log, entry 33), and an owing block restarts the park idle
timer when it is taken (entry 23). -/
def Obligations.OperationTaken : Prop :=
  (∀ (b : Block) (lo hi : Byte) (s : State), s.Reaches .winchPayOut → s.MayOperate b → s.OperationFree →
    s.wnc.position ≠ none → b.params = [lo, hi] → 1 ≤ wordOf lo hi → wordOf lo hi ≤ 20000 →
    exec (.winchPayOut b) s =
      .next ((s.withRecord (newRecord .payOut (wordOf lo hi) 0 0 b)).operationAnswered b .winchPayOut)) ∧
  (∀ (b : Block) (lo hi : Byte) (s : State), s.Reaches .winchHaulIn → s.MayOperate b → s.OperationFree →
    b.params = [lo, hi] → 1 ≤ wordOf lo hi → wordOf lo hi ≤ 20000 →
    exec (.winchHaulIn b) s =
      .next ((s.withRecord (newRecord .haulIn (wordOf lo hi) 0 0 b)).operationAnswered b .winchHaulIn)) ∧
  (∀ (b : Block) (lo hi tlo thi k : Byte) (s : State), s.Reaches .winchHaulToTension → s.MayOperate b →
    s.OperationFree → b.params = [lo, hi, tlo, thi, k] → GoodParams .winchHaulToTension b.params →
    exec (.winchHaulToTension b) s =
      .next ((s.withRecord (newRecord .haulToTension (wordOf lo hi) (wordOf tlo thi) k.toNat b)).operationAnswered b
        .winchHaulToTension)) ∧
  ∀ (b : Block) (s : State), s.Reaches .winchHome → s.MayOperate b → s.OperationFree → b.params = [] →
    exec (.winchHome b) s =
      .next ((s.withRecord (newRecord .home s.wnc.capacity 0 0 b)).operationAnswered b .winchHome)

/-- A WINCH ASSIST HAUL that WNC does not refuse is taken from a RADIO DRIVE row at throttle 0 or a NONE row with no pending
holder: DRIVE is given pending AUTO(ASSIST), the record is created and the assist restraint is in force. Any other DRIVE
row refuses it as R17 says. An owing block restarts the park idle timer when it is taken (assumption log, entry 23). -/
def Obligations.AssistHaulDecided : Prop :=
  ∀ (b : Block) (lo hi : Byte) (s : State), s.Reaches .winchAssistHaul → s.MayOperate b → s.OperationFree →
    b.params = [lo, hi] → 1 ≤ wordOf lo hi → wordOf lo hi ≤ 20000 →
    (s.au.drive.holder = .radio ∧ s.au.image.drive.throttle = 0 ∨
        s.au.drive.holder = .noParty ∧ s.au.drive.pending = none →
      exec (.winchAssistHaul b) s = .next (State.operationAnswered
        { s with
          wnc := { s.wnc with
            record := some (newRecord .assistHaul (wordOf lo hi) 0 0 b), stallTime := 0, backOff := false }
          au := { s.au with
            drive := { s.au.drive with pending := some .assist }
            image := { s.au.image with winch := ⟨.operation, 0⟩ } }
          stc := { s.stc with restraint := true } } b .winchAssistHaul)) ∧
    (s.au.drive.holder = .radio ∧ s.au.image.drive.throttle ≠ 0 →
      exec (.winchAssistHaul b) s = .next (s.checked b .winchAssistHaul .radioActive)) ∧
    (s.au.drive.holder = .auto .failsafe ∨ s.au.drive.holder = .auto .assist →
      exec (.winchAssistHaul b) s = .next (s.checked b .winchAssistHaul .autoHeld)) ∧
    (s.au.drive.holder = .noParty ∧ s.au.drive.pending = some .radio →
      exec (.winchAssistHaul b) s = .next (s.checked b .winchAssistHaul .radioActive)) ∧
    (s.au.drive.holder = .pit → exec (.winchAssistHaul b) s = .next (s.checked b .winchAssistHaul .notHolder))

/-- A WINCH FREESPOOL from the pit makes the WINCH entry FREESPOOL; it is refused while a record exists and while the mode
is JAMMED (R4, R114). Without an operation in flight, ABORT changes nothing but its own answer, also while a commit's reply
is owed and while reports are owed to the console, and WINCH STOP sets the stop mark and ends a FREESPOOL entry; with one,
WINCH STOP removes the record and sets the stop mark (R4, R125, R128, R160, R162). -/
def Obligations.FreespoolAndStopDecided : Prop :=
  (∀ (b : Block) (s : State), s.Reaches .winchFreespool → s.au.winch.holder = .pit → b.params = [] →
    exec (.winchFreespool b) s = .next (
      if s.wnc.record ≠ none then s.checked b .winchFreespool .inMotion
      else if s.wnc.mode = .jammed then s.checked b .winchFreespool .winchJammedState
      else State.good { s with au := { s.au with image := { s.au.image with winch := ⟨.freespool, 0⟩ } } } b
        .winchFreespool)) ∧
  ∀ (b : Block) (s : State), b.params = [] →
    (s.Going → s.bsv.stage ≠ .ident → s.bsv.power = .active → s.Fits 0 → s.wnc.record = none →
      exec (.abort b) s = .next (s.good b .abort)) ∧
    (s.Reaches .winchStop → s.wnc.record = none →
      exec (.winchStop b) s = .next (State.good { s with
        wnc := { s.wnc with stopMark := true }
        au := { s.au with image := { s.au.image with
          winch := if s.au.image.winch.kind = .freespool then ⟨.hold, 0⟩ else s.au.image.winch } } } b .winchStop)) ∧
    (s.Reaches .winchStop → s.RecordHeld → s.wnc.record ≠ none →
      ∃ t, exec (.winchStop b) s = .next t ∧ t.wnc.record = none ∧ t.wnc.stopMark = true ∧ t.wnc.bridge = .brake ∧
        t.wnc.position = s.wnc.position ∧ t.au.winch = s.au.winch ∧ t.au.image.winch = ⟨.hold, 0⟩)

/-- ABORT and WINCH STOP end the operation in flight with BY_REQUEST: the record is removed, the duties are 0 and the bridge
brakes, and WINCH STOP sets the stop mark; without IMMEDIATE the owed reply becomes ready with the sense, the moved count
and the recovered jams, under IMMEDIATE the result reaches the deferred slot; the request itself is answered GOOD behind it.
The end of an assisted haul ends the restraint and gives DRIVE its pending holder. ABORT acts while reports are owed to the
console, and while a reply is owed (R13, R17, R18, R72, R119, R128, R160, R162, R163). That the winch mode stays until the
next update, and that the THROTTLE binding is judged as it was at the last published frame, are the model's readings
(assumption log, entries 28 and 19). -/
def Obligations.AbortEndsOperation : Prop :=
  ∀ (req : Request) (b : Block) (r : OpRecord) (s : State),
    req = .abort ∧ s.Going ∧ s.bsv.stage ≠ .ident ∧ s.bsv.power = .active ∧ s.Fits 0 ∨
      req = .winchStop ∧ s.Reaches .winchStop →
    s.RecordHeld → b.params = [] → s.wnc.record = some r →
    ∃ t, exec (req.command b) s = .next t ∧
      t.wnc = { s.wnc with
        record := none, requested := 0, present := 0, backOff := false, stallTime := 0, bridge := .brake
        stopMark := if req = .winchStop then true else s.wnc.stopMark } ∧
      t.au.winch = s.au.winch ∧ t.au.image.winch = ⟨.hold, 0⟩ ∧ t.au.image.drive = s.au.image.drive ∧ t.drc = s.drc ∧
      t.rxl = s.rxl ∧ t.pst = s.pst ∧
      (r.kind ≠ .assistHaul → t.au.drive = s.au.drive ∧ t.stc = s.stc) ∧
      (r.kind = .assistHaul → t.stc = { s.stc with restraint := false } ∧
        t.au.drive = s.au.drive.afterAssist (s.rxl.link = .live && s.rxl.published.throttle.isSome)) ∧
      (∀ p : PitLink, p = s.pli.withResult r (some .byRequest) →
        t.pli.owed = p.owed ∧ t.pli.sense = p.sense ∧ t.pli.deferred = p.deferred ∧ t.pli.attention = p.attention ∧
          (s.IsLast b → t.pli.batch = none ∧
            t.pli.ready = p.ready ++ [⟨s.formed ++ [⟨req.code, .good, []⟩], false⟩]) ∧
          (¬s.IsLast b → t.pli.ready = p.ready ∧
            ∃ bt, t.pli.batch = some bt ∧ bt.entries = s.formed ++ [⟨req.code, .good, []⟩] ∧ bt.stopped = false)) ∧
      (∀ o, r.immediate = false → s.pli.owed = some o → r.kind ≠ .home →
        t.pli.sense = ⟨.byRequest, true, false, false, r.target - r.moved⟩ ∧
          ∃ rest, t.pli.ready = s.pli.ready ++
            ⟨o.entries ++ [⟨o.code, .check,
              [4, 2, 1, BitVec.ofNat 8 ((r.target - r.moved) % 256), BitVec.ofNat 8 ((r.target - r.moved) / 256),
                BitVec.ofNat 8 (r.moved % 256), BitVec.ofNat 8 (r.moved / 256), BitVec.ofNat 8 r.recovered]⟩], true⟩ ::
            rest) ∧
      (r.immediate = true → s.pli.deferred = none → r.kind = .haulIn →
        t.pli.deferred =
          some ⟨0x31, ⟨.byRequest, true, false, false, r.target - r.moved⟩, r.moved, r.recovered, false⟩)

/-! ### The store's requests -/

/-- READ SETTING is answered GOOD with the number and the value of the working copy, and nothing else changes; a value that
WRITE SETTING would write reads back as it was written, and every other setting as before (R170). -/
def Obligations.SettingReadsBack : Prop :=
  (∀ (b : Block) (lo hi : Byte) (i : SettingId) (s : State), s.Reaches .readSetting → b.params = [lo, hi] →
    i ∈ SettingId.list → i.number = wordOf lo hi →
    exec (.readSetting b) s = .next (State.timerRestarted
      (s.answered b ⟨0x40, .good, [lo, hi] ++ settingBytes s.pst.working i⟩))) ∧
  ∀ (w w' : Settings) (i j : SettingId) (value : List Byte), w.legal = true → writeValue w i value = some w' →
    settingBytes w' i = value ∧ (j ≠ i → settingBytes w' j = settingBytes w j)

/-- WRITE SETTING of anything but a pattern: BAD_PARAMETER for a wrong length or range, then SETTING_IN_USE for the spool
capacity and the count edge while an operation record exists, then SETTING_ORDER unless every order of the settings table
still holds and a written spool capacity is not below a KNOWN line position; otherwise GOOD, and the working copy alone
changes, with the shift pulse settings marked as changed (R99, R108, R170, R171). Only a differing pulse setting is marked, and
the park idle timer restarts with the park time as written (assumption log, entries 36 and 23). -/
def Obligations.WriteSettingDecided : Prop :=
  ∀ (b : Block) (lo hi : Byte) (value : List Byte) (i : SettingId) (s : State), s.Reaches .writeSetting →
    s.pst.working.legal = true → b.params = lo :: hi :: value → 1 ≤ value.length → value.length ≤ 14 →
    i ∈ SettingId.list → i.number = wordOf lo hi → (∀ k, i ≠ .pattern k) →
    (writeValue s.pst.working i value = none → exec (.writeSetting b) s = .next (s.checked b .writeSetting .badParameter)) ∧
    ∀ w, writeValue s.pst.working i value = some w →
      exec (.writeSetting b) s = .next (
        if s.wnc.record ≠ none ∧ (i = .scalar .spoolCapacity ∨ i = .scalar .countEdge) then
          s.checked b .writeSetting .settingInUse
        else if w.legal = true ∧
            (i = .scalar .spoolCapacity → ∀ p, s.wnc.position = some p → p ≤ w.wnc.spoolCapacity) then
          State.good { s with
            pst := { s.pst with working := w }
            drc := { s.drc with pulseChanged :=
              ⟨s.drc.pulseChanged.high || s.pst.working.drc.highPulse ≠ w.drc.highPulse,
                s.drc.pulseChanged.low || s.pst.working.drc.lowPulse ≠ w.drc.lowPulse,
                s.drc.pulseChanged.dig || s.pst.working.drc.digPulse ≠ w.drc.digPulse⟩ } } b .writeSetting
        else s.checked b .writeSetting .settingOrder)

/-- A pattern is written in parts: a first part starts the staging list afresh, a part that follows on extends it, the part
that brings it to n replaces the whole list if its steps are legal, and a part that does not follow on, whatever its n and
length, or an illegal list, is refused; the last two empty the staging list (R139, R170, section 10.5.1). Any other part
refused for its form leaves the staging list as it was (assumption log, entry 57). -/
def Obligations.PatternWrittenInParts : Prop :=
  (∀ (b : Block) (lo hi : Byte) (k : Fin 8) (first n : Nat) (before steps : List PatternStep) (s : State),
    s.Reaches .writeSetting → (SettingId.pattern k).number = wordOf lo hi → (first = 1 ∨ first = 7 ∨ first = 13) →
    first ≤ n → n ≤ 16 → steps.length = min 6 (n - first + 1) → (∀ p ∈ steps, p.level ≤ 255 ∧ p.duration ≤ 255) →
    b.params = [lo, hi] ++ patternPartBytes first n steps → before.length = first - 1 →
    (first = 1 ∨ s.pst.staging = some ⟨k, n, before⟩ →
      (first - 1 + steps.length < n →
        exec (.writeSetting b) s = .next (State.good
          { s with pst := { s.pst with staging := some ⟨k, n, before ++ steps⟩ } } b .writeSetting)) ∧
      (first - 1 + steps.length = n → (∀ p ∈ before ++ steps, 1 ≤ p.duration ∧ p.duration ≤ 50 ∧ p.level ≤ 255) →
        exec (.writeSetting b) s = .next (State.good { s with
          pst := { s.pst with
            staging := none
            working := { s.pst.working with ltc := { s.pst.working.ltc with
              patterns := s.pst.working.ltc.patterns.set k (before ++ steps) } } }
          ltc := { s.ltc with patternWritten := s.ltc.patternWritten.set k true } } b .writeSetting)) ∧
      (first - 1 + steps.length = n → (∃ p ∈ steps, p.duration = 0 ∨ 50 < p.duration) →
        exec (.writeSetting b) s = .next (State.checked
          { s with pst := { s.pst with staging := none } } b .writeSetting .badParameter))) ∧
    (first ≠ 1 → (∀ l, s.pst.staging = some ⟨k, n, l⟩ → l.length ≠ first - 1) →
      exec (.writeSetting b) s = .next (State.checked
        { s with pst := { s.pst with staging := none } } b .writeSetting .badParameter))) ∧
  ∀ (b : Block) (lo hi f : Byte) (k : Fin 8) (rest : List Byte) (follows : Prop) (s : State),
    s.Reaches .writeSetting → (SettingId.pattern k).number = wordOf lo hi → b.params = [lo, hi, f] ++ rest →
    rest.length ≤ 13 →
    (follows ↔ ∃ n more l, rest = n :: more ∧ s.pst.staging = some ⟨k, n.toNat, l⟩ ∧ l.length = f.toNat - 1) →
    ((f = 7 ∨ f = 13) ∧ ¬follows →
      exec (.writeSetting b) s = .next (State.checked
        { s with pst := { s.pst with staging := none } } b .writeSetting .badParameter)) ∧
    (¬((f = 7 ∨ f = 13) ∧ ¬follows) →
      (∀ n more, rest = n :: more → (f = 1 ∨ f = 7 ∨ f = 13) → f.toNat ≤ n.toNat → n.toNat ≤ 16 →
        more.length ≠ 2 * min 6 (n.toNat - f.toNat + 1)) →
      exec (.writeSetting b) s = .next (s.checked b .writeSetting .badParameter))

/-- SELECT PROFILE, LOAD DEFAULTS and COMMIT PROFILE are answered BUSY with STORE_BUSY while the engine programs, which does
not restart the park idle timer (R39, R160). SELECT PROFILE needs the truck to stand, then loads the slot, or the defaults
if it is marked; LOAD DEFAULTS loads the defaults and keeps three winch settings while a record exists; both empty the
staging list (R173). That each pattern then counts as written, that the park idle timer restarts with the new copy's park
time, and that the direction state is read as it stands, are the model's readings (assumption log, entries 37, 23 and
58). -/
def Obligations.WorkingCopyReplaced : Prop :=
  (∀ (r : Request) (b : Block) (s : State), r ∈ [Request.selectProfile, .loadDefaults, .commitProfile] → s.Reaches r →
    GoodParams r b.params → s.WellPlaced r b → s.pst.engine ≠ .idle →
    exec (r.command b) s = .next (s.answered b ⟨r.code, .busy, [1, 6, 0, 0, 0]⟩)) ∧
  (∀ (b : Block) (k : Fin 4) (s : State), s.Reaches .selectProfile → b.params = [BitVec.ofNat 8 k.val] →
    s.pst.engine = .idle → (s.drc.dir ≠ .neutral ∨ s.wnc.mode ≠ .hold) →
    exec (.selectProfile b) s = .next (s.checked b .selectProfile .inMotion)) ∧
  (∀ (b : Block) (k : Fin 4) (v : Settings) (s : State), s.Reaches .selectProfile → b.params = [BitVec.ofNat 8 k.val] →
    s.pst.engine = .idle → s.drc.dir = .neutral → s.wnc.mode = .hold → s.wnc.record = none →
    (s.pst.marks.get k = true ∧ v = .defaults ∨ s.pst.marks.get k = false ∧ s.pst.slots.get k = .valid v) →
    ∃ t : State, exec (.selectProfile b) s = .next (t.good b .selectProfile) ∧
      t.pst = { s.pst with working := v, active := k, staging := none } ∧
      t.ltc = { s.ltc with patternWritten := .all true } ∧ t.pli = s.pli ∧ t.au = s.au ∧ t.wnc = s.wnc ∧
      t.bsv = s.bsv) ∧
  ∀ (b : Block) (s : State), s.Reaches .loadDefaults → b.params = [] → s.pst.engine = .idle →
    ∃ (t : State) (w : Settings), exec (.loadDefaults b) s = .next (t.good b .loadDefaults) ∧
      t.pst = { s.pst with working := w, staging := none } ∧ t.pli = s.pli ∧ t.au = s.au ∧ t.wnc = s.wnc ∧
      (s.wnc.record = none → w = .defaults) ∧
      (s.wnc.record ≠ none → w = { Settings.defaults with wnc := { Settings.defaults.wnc with
        spoolCapacity := s.pst.working.wnc.spoolCapacity, countEdge := s.pst.working.wnc.countEdge,
        lineReserve := s.pst.working.wnc.lineReserve } })

/-- COMMIT PROFILE starts the program engine on the active slot with the working copy and owes its reply. At the end of
programming a match stores the contents, clears the mark and completes the reply GOOD with no data; a mismatch sets the
mark and completes it with STORE_WRITE_FAILED; a pending pack save then begins with the contents of that moment, and in
FAULT a SHUTDOWN part releases PWR_HOLD (R35, R46, R162, R172). What a record that does not match its CRC holds is free, and
the pack record counts as not matching while it is programmed (assumption log, entry 8); the owing block restarts the park
idle timer when it is taken (entry 23); when PWR_HOLD is released rests on entry 24, and entry 52 says what becomes of a
commit without a reply. -/
def Obligations.CommitRunsToItsReply : Prop :=
  (∀ (b : Block) (s : State), s.Reaches .commitProfile → s.IsLast b → b.params = [] → s.pst.engine = .idle →
    ∃ (t : State) (crc : Crc16), exec (.commitProfile b) s = .next (t.owing .commitProfile) ∧
      t.pst = { s.pst with
        engine := .commit s.pst.active s.pst.working
        slots := s.pst.slots.set s.pst.active (.invalid crc) } ∧
      t.pli = s.pli ∧ t.bsv = s.bsv ∧ t.au = s.au ∧ t.wnc = s.wnc ∧ t.drc = s.drc) ∧
  ∀ (k : Fin 4) (v : Settings) (verified : Bool) (s : State), s.pst.engine = .commit k v →
    (∀ o, s.pli.owed = some o → o.code = 0x43) →
    ∃ crc n, exec (.commitProgrammingEnd verified) s = .next { s with
      free := n
      pst := { s.pst with
        engine := if s.pst.packPending then .pack ⟨s.bsv.identityCells, s.bsv.identityAverage,
          min 65535 (s.bsv.charge / 36000), s.wnc.position, s.pst.active⟩ else .idle
        pack := if s.pst.packPending then .invalid else s.pst.pack
        packPending := false
        slots := s.pst.slots.set k (if verified then .valid v else .invalid crc)
        marks := s.pst.marks.set k (!verified) }
      bsv := { s.bsv with pwrHold :=
        if s.bsv.power = .shutdown ∧ s.bsv.stage = .fault ∧ s.pst.packPending = false then false else s.bsv.pwrHold }
      pli := match s.pli.owed with
        | none => s.pli
        | some o => { s.pli with
          owed := none
          sense := if verified then s.pli.sense else ⟨.storeWriteFailed, false, false, false, 0⟩
          ready := s.pli.ready ++ [⟨o.entries ++
            [if verified then ⟨0x43, .good, []⟩ else ⟨0x43, .check, [6, 2, 0, 0, 0]⟩], true⟩] } } ∧
      (verified = true → n = s.free)

/-- At the end of a pack save the record is stored or fails; a failure fills the deferred slot with source 0, or sets the more
flag of a result held there; a pending save begins at once, with the contents of that moment, whether the one before was
written or failed, and otherwise a SHUTDOWN part releases PWR_HOLD (R35, R46, R163, R172). That the record counts as not
matching its CRC while it is programmed and after a failed save is the model's choice (assumption log, entry 8), and when
PWR_HOLD is released rests on entry 24. -/
def Obligations.PackSaveEnds : Prop :=
  ∀ (p : PackRecord) (verified : Bool) (s : State), s.pst.engine = .pack p →
    exec (.packSaveEnd verified) s = .next { s with
      pst := { s.pst with
        engine := if s.pst.packPending then .pack ⟨s.bsv.identityCells, s.bsv.identityAverage,
          min 65535 (s.bsv.charge / 36000), s.wnc.position, s.pst.active⟩ else .idle
        pack := if s.pst.packPending = false ∧ verified = true then .valid p else .invalid
        packPending := false }
      bsv := { s.bsv with pwrHold := s.bsv.pwrHold && (s.pst.packPending || s.bsv.power ≠ .shutdown) }
      pli := { s.pli with deferred :=
        if verified then s.pli.deferred else match s.pli.deferred with
          | none => some ⟨0, ⟨.storeWriteFailed, false, false, false, 0⟩, 0, 0, false⟩
          | some d => some { d with more := true } } }

/-! ### PARK and RESET -/

/-- A PARK from a standing truck is answered GOOD and the part enters PARKED at once; otherwise PARK and RESET are refused
with IN_MOTION. A RESET from a standing truck is answered GOOD, and nothing of the part changes until its reply has been
sent (R41, R42, R161, R167). That the pack record counts as not matching its CRC from the beginning of the save, and that
the direction state is read as it stands, are the model's (assumption log, entries 8 and 58). -/
def Obligations.ParkAndResetDecided : Prop :=
  (∀ (b : Block) (s : State), s.Reaches .park → b.params = [] → s.drc.dir = .neutral → s.wnc.mode = .hold →
    s.wnc.record = none → exec (.park b) s = .next (s.nowParked.answered b ⟨0x50, .good, []⟩)) ∧
  (∀ (b : Block) (s : State), s.Reaches .reset → b.params = [] → s.IsLast b → s.drc.dir = .neutral →
    s.wnc.mode = .hold → s.wnc.record = none → exec (.reset b) s = .next (s.good b .reset)) ∧
  ∀ (r : Request) (b : Block) (s : State), r = .park ∨ r = .reset → s.Reaches r → b.params = [] → s.WellPlaced r b →
    (s.drc.dir ≠ .neutral ∨ s.wnc.mode ≠ .hold) → exec (r.command b) s = .next (s.checked b r .inMotion)

/-- At the expiry of the park idle timer, which runs, the part enters PARKED, unless an operation record exists, which
restarts the timer and keeps the power state (R40, R42). That the pack record counts as not matching its CRC from the
beginning of the save is the model's choice (assumption log, entry 8). -/
def Obligations.ParkIdleTimerExpires : Prop :=
  ∀ s : State, s.bsv.Powered → s.bsv.parkTimer ≠ none →
    exec .parkIdleTimerExpiry s = .next (if s.wnc.record ≠ none then s.timerRestarted else s.nowParked)

/-! ### Resets -/

/-- A power-on or brownout reset puts every block at the values of its reset table: IDENT in ACTIVE with both lines asserted,
every row NONE, the link ABSENT, the drive disarmed, the winch in HOLD with the position of a valid pack record within the
spool capacity, the working copy loaded from the active slot or from the defaults, the array kept, and RESET_OCCURRED,
with DEFAULTS_LOADED behind it if a slot failed its check (R1, R2, R24, R47, R49, R66, R84, R103, R107, R133, R151, R159,
R169). The fields that no reset table names have the values of assumption log entries 21, 41, 42, 53 and 54. -/
def Obligations.PowerOnSetsEveryBlock : Prop :=
  ∀ (c : Instr) (cause : ResetCause) (s : State),
    c = .powerOnReset ∧ cause = .powerOn ∨ c = .brownoutReset ∧ cause = .brownout →
    ∃ t, exec c s = .next t ∧ t.rxl = resetReceiver ∧ t.au = resetAuthority ∧ t.BlocksReset ∧
      (t.bsv.stage = .ident ∧ t.bsv.identScans = 0 ∧ t.bsv.power = .active ∧ t.bsv.parkTimer = none ∧
        t.bsv.pwrHold = true ∧ t.bsv.railEn = true ∧ t.bsv.resetCause = cause ∧ t.bsv.charge = 0 ∧ t.bsv.cellCount = 0 ∧
        t.bsv.vRaw = ⟨0, 0, 0, 0⟩ ∧ t.bsv.packCurrent = 0 ∧ t.bsv.railCurrent = 0 ∧ t.bsv.winchCurrent = 0 ∧
        t.bsv.warnRun = 0 ∧ t.bsv.limitRun = 0 ∧ t.bsv.cutRun = 0 ∧ t.bsv.recoveryRun = 0 ∧ t.bsv.storageRun = 0 ∧
        t.bsv.vComp = ⟨none, none, none, none⟩ ∧ t.bsv.minComp = 0 ∧ t.bsv.minRaw = 0 ∧ t.bsv.gateWarned = false ∧
        t.bsv.gateCrossed = false ∧ t.bsv.identityCells = 0 ∧ t.bsv.identityAverage = 0 ∧ t.bsv.nextScan = .four) ∧
      (t.wnc.reserveWarned = false ∧ t.wnc.drivenDir = .out ∧ t.wnc.hookHome = false ∧
        t.wnc.capacity = t.pst.working.wnc.spoolCapacity ∧ t.wnc.edge = t.pst.working.wnc.countEdge ∧
        ∀ p, t.wnc.position = some p ↔
          p ≤ t.pst.working.wnc.spoolCapacity ∧ ∃ r, s.pst.pack = .valid r ∧ r.position = some p) ∧
      (t.pst.slots = s.pst.slots ∧ t.pst.pack = s.pst.pack ∧ t.pst.engine = .idle ∧ t.pst.packPending = false ∧
        t.pst.staging = none ∧
        (∀ k, t.pst.marks.get k = true ↔ ∃ crc, s.pst.slots.get k = .invalid crc) ∧
        (∀ r, s.pst.pack = .valid r → t.pst.active = r.active) ∧
        ((∀ r, s.pst.pack ≠ .valid r) → t.pst.active = 0) ∧
        (∀ v, s.pst.slots.get t.pst.active = .valid v → t.pst.working = v) ∧
        ((∀ v, s.pst.slots.get t.pst.active ≠ .valid v) → t.pst.working = .defaults)) ∧
      (t.pli.batch = none ∧ t.pli.owed = none ∧ t.pli.sense = ⟨.clear, false, false, false, 0⟩ ∧ t.pli.deferred = none ∧
        t.pli.ready = [] ∧ t.pli.lastSent = [] ∧
        ((∃ k, t.pst.marks.get k = true) → t.pli.attention = [.resetOccurred, .defaultsLoaded]) ∧
        ((∀ k, t.pst.marks.get k = false) → t.pli.attention = [.resetOccurred]))

/-- The effect of a RESET request whose GOOD reply has been sent: every block is reset but for what BSV, WNC and PST keep;
the runs are 0, the cause is REQUEST, the working copy is reloaded from the active slot, or from the defaults if it is
marked (R39, R48, R103, R159, R161, R169). Without such a reply nothing happens (assumption log, entry 2). The fields that no
reset table names have the values of entries 41, 42 and 53, and the power state is kept as it is at the effect (entry
56). -/
def Obligations.ResetRequestTakesEffect : Prop :=
  ∀ (v : Settings) (s : State),
    (s.pst.marks.get s.pst.active = true ∧ v = .defaults ∨
      s.pst.marks.get s.pst.active = false ∧ s.pst.slots.get s.pst.active = .valid v) →
    (s.pli.resetAwaited = false → exec .resetRequestEffect s = .next s) ∧
    (s.pli.resetAwaited = true →
      ∃ t, exec .resetRequestEffect s = .next t ∧ t.rxl = resetReceiver ∧ t.au = resetAuthority ∧ t.BlocksReset ∧
        t.bsv = { s.bsv with
          warnRun := 0, limitRun := 0, cutRun := 0, recoveryRun := 0, storageRun := 0, nextScan := .four
          resetCause := .request
          parkTimer :=
            if s.bsv.power = .active ∧ s.bsv.stage ≠ .ident then
              (if v.bsv.parkTime = 0 then none else some v.bsv.parkTime)
            else s.bsv.parkTimer } ∧
        t.wnc.position = s.wnc.position ∧ t.wnc.reserveWarned = s.wnc.reserveWarned ∧
        t.wnc.drivenDir = s.wnc.drivenDir ∧ t.wnc.hookHome = s.wnc.hookHome ∧ t.wnc.capacity = s.wnc.capacity ∧
        t.wnc.edge = s.wnc.edge ∧
        t.pst = { s.pst with working := v, staging := none } ∧ t.pli.attention = [.resetOccurred] ∧
        t.pli.owed = none ∧ t.pli.deferred = none ∧ t.pli.batch = none ∧ t.pli.ready = [] ∧
        t.pli.sense = ⟨.clear, false, false, false, 0⟩)

/-! ### Scans -/

/-- A scan records each reading within its range, forms V_comp for the counted cells and both minima over them, and runs the
budget. After identification it adds the pack current times the scan interval to the account, counts the storage run, and
restarts the park idle timer in ACTIVE while a command or the winch keeps the truck awake; nothing outside BSV, BGA, the
pulse-since-scan flag and a requested pack save changes. Each of the first 15 scans of IDENT counts its own taps and the
scan, and no run, account or timer (R20 to R22, R24, R25, R37, R39, R45). With no counted cell the minima are those of tap 1,
and the cell count during IDENT is the scan's own (assumption log, entry 20); the first interval after a wake is a free one
(entry 4); the scan that reaches 65535 mAh still adds its whole charge (entry 22). -/
def Obligations.ScanRecordsReadings : Prop :=
  (∀ (r : Readings) (s : State), s.bsv.power ≠ .shutdown → s.bsv.stage ≠ .ident →
    ∃ (t : State) (ms : Nat), exec (.scanCompletion r) s = .next t ∧
      t.bsv.Measured r s.pst.working.bsv.cellResistance ∧ t.bsv.cellCount = s.bsv.cellCount ∧
      t.bsv.identScans = s.bsv.identScans ∧ t.bsv.identityCells = s.bsv.identityCells ∧
      t.bsv.identityAverage = s.bsv.identityAverage ∧ t.bsv.resetCause = s.bsv.resetCause ∧
      t.bsv.charge = (if 65535 ≤ s.bsv.charge / 36000 then s.bsv.charge
        else s.bsv.charge + t.bsv.packCurrent * ms) ∧
      4 ≤ ms ∧ ms ≤ 103 ∧ (s.bsv.nextScan = .four → ms = 4) ∧ (s.bsv.nextScan = .hundred → ms = 100) ∧
      t.bsv.nextScan = (if s.bsv.power = .active then .four else .hundred) ∧
      t.bsv.storageRun = (if t.bsv.minComp < s.pst.working.bsv.storage then s.bsv.storageRun + 1 else 0) ∧
      (s.bsv.stage ∉ [Stage.normal, .warn, .limit] → t.bsv.stage = s.bsv.stage ∧ t.bsv.warnRun = s.bsv.warnRun ∧
        t.bsv.limitRun = s.bsv.limitRun ∧ t.bsv.cutRun = s.bsv.cutRun ∧ t.bsv.recoveryRun = s.bsv.recoveryRun ∧
        t.bsv.gateWarned = s.bsv.gateWarned ∧ t.bsv.gateCrossed = s.bsv.gateCrossed) ∧
      (t.bsv.power ≠ .shutdown → t.bsv.parkTimer =
        if s.bsv.power = .active ∧ (s.au.image.drive.throttle ≠ 0 ∨ s.au.image.steer.steer ≠ 0 ∨
            s.wnc.present ≠ 0 ∨ s.wnc.pulseSinceScan = true) then
          (if s.pst.working.bsv.parkTime = 0 then none else some s.pst.working.bsv.parkTime)
        else s.bsv.parkTimer) ∧
      t.rxl = s.rxl ∧ t.au = s.au ∧ t.stc = s.stc ∧ t.drc = s.drc ∧ t.ltc = s.ltc ∧ t.pli = s.pli ∧
      t.wnc = { s.wnc with pulseSinceScan := false } ∧ t.pst.working = s.pst.working ∧ t.pst.slots = s.pst.slots) ∧
  ∀ (r : Readings) (s : State), s.bsv.stage = .ident → s.bsv.power = .active → s.bsv.identScans < 15 →
    ∃ t, exec (.scanCompletion r) s = .next t ∧ t.bsv.Measured r s.pst.working.bsv.cellResistance ∧ t.bsv.TapsCounted ∧
      t.bsv = { s.bsv with
        vRaw := t.bsv.vRaw, vComp := t.bsv.vComp, cellCount := t.bsv.cellCount, minComp := t.bsv.minComp
        minRaw := t.bsv.minRaw, packCurrent := t.bsv.packCurrent, railCurrent := t.bsv.railCurrent
        winchCurrent := t.bsv.winchCurrent, identScans := s.bsv.identScans + 1, nextScan := .four } ∧
      t.rxl = s.rxl ∧ t.au = s.au ∧ t.stc = s.stc ∧ t.drc = s.drc ∧ t.ltc = s.ltc ∧ t.pli = s.pli ∧ t.pst = s.pst ∧
      t.wnc = { s.wnc with pulseSinceScan := false }

/-- The stage a scan leads to from NORMAL, WARN or LIMIT: the lowest stage whose qualification run completes, else a
completed recovery, else WARN by a crossed energy gate once per pack; the entry to CUT has the pack record saved. Each
counted run gains 1 from a scan that qualifies and is 0 after one that does not; at a change of stage the runs still counted
are kept, the others and the recovery run are 0, and the gate marks the pack as warned (R30 to R34). -/
def Obligations.ScanMovesStage : Prop :=
  ∀ (r : Readings) (s : State), s.bsv.power ≠ .shutdown → s.bsv.stage ∈ [Stage.normal, .warn, .limit] →
    s.bsv.storageRun < 2499 →
    ∃ t, exec (.scanCompletion r) s = .next t ∧
      ∀ gate : Prop, (gate ↔ s.pst.working.bsv.packCapacity ≠ 0 ∧
          s.pst.working.bsv.packCapacity * s.pst.working.bsv.energyWarnPercent / 100 ≤ min 65535 (t.bsv.charge / 36000)) →
        (s.bsv.power ≠ .parked ∧ t.bsv.minComp < s.pst.working.bsv.cut ∧ 124 ≤ s.bsv.cutRun →
          t.bsv.stage = .cut ∧ t.pst.engine ≠ .idle) ∧
        (¬(s.bsv.power ≠ .parked ∧ t.bsv.minComp < s.pst.working.bsv.cut ∧ 124 ≤ s.bsv.cutRun) →
          t.pst = s.pst ∧
          (s.bsv.stage ≠ .limit ∧ t.bsv.minComp < 3400 ∧ 249 ≤ s.bsv.limitRun → t.bsv.stage = .limit) ∧
          (¬(s.bsv.stage ≠ .limit ∧ t.bsv.minComp < 3400 ∧ 249 ≤ s.bsv.limitRun) →
            (s.bsv.stage = .normal → t.bsv.minComp < s.pst.working.bsv.warn → 249 ≤ s.bsv.warnRun →
              t.bsv.stage = .warn) ∧
            (s.bsv.stage = .normal → ¬(t.bsv.minComp < s.pst.working.bsv.warn ∧ 249 ≤ s.bsv.warnRun) →
              (gate ∧ s.bsv.gateWarned = false → t.bsv.stage = .warn) ∧
              (¬(gate ∧ s.bsv.gateWarned = false) → t.bsv.stage = .normal)) ∧
            (s.bsv.stage = .limit → 3500 ≤ t.bsv.minComp → 1249 ≤ s.bsv.recoveryRun → t.bsv.stage = .warn) ∧
            (s.bsv.stage = .limit → t.bsv.minComp < 3500 ∨ s.bsv.recoveryRun < 1249 → t.bsv.stage = .limit) ∧
            (s.bsv.stage = .warn → ¬gate → s.pst.working.bsv.warn + 100 ≤ t.bsv.minComp → 1249 ≤ s.bsv.recoveryRun →
              t.bsv.stage = .normal) ∧
            (s.bsv.stage = .warn →
              gate ∨ t.bsv.minComp < s.pst.working.bsv.warn + 100 ∨ s.bsv.recoveryRun < 1249 → t.bsv.stage = .warn))) ∧
        (t.bsv.gateWarned = true ↔ s.bsv.gateWarned = true ∨ gate) ∧ (t.bsv.gateCrossed = true ↔ gate) ∧
        t.bsv.power = s.bsv.power ∧ t.bsv.pwrHold = s.bsv.pwrHold ∧ t.bsv.railEn = s.bsv.railEn ∧
        ∀ warnRun limitRun cutRun recoveryRun : Nat,
          (s.bsv.stage = .normal ∧ t.bsv.minComp < s.pst.working.bsv.warn → warnRun = s.bsv.warnRun + 1) →
          (¬(s.bsv.stage = .normal ∧ t.bsv.minComp < s.pst.working.bsv.warn) → warnRun = 0) →
          (s.bsv.stage ≠ .limit ∧ t.bsv.minComp < 3400 → limitRun = s.bsv.limitRun + 1) →
          (¬(s.bsv.stage ≠ .limit ∧ t.bsv.minComp < 3400) → limitRun = 0) →
          (s.bsv.power ≠ .parked ∧ t.bsv.minComp < s.pst.working.bsv.cut → cutRun = s.bsv.cutRun + 1) →
          (¬(s.bsv.power ≠ .parked ∧ t.bsv.minComp < s.pst.working.bsv.cut) → cutRun = 0) →
          (s.bsv.stage = .limit ∧ 3500 ≤ t.bsv.minComp ∨
            s.bsv.stage = .warn ∧ ¬gate ∧ s.pst.working.bsv.warn + 100 ≤ t.bsv.minComp →
              recoveryRun = s.bsv.recoveryRun + 1) →
          (¬(s.bsv.stage = .limit ∧ 3500 ≤ t.bsv.minComp ∨
            s.bsv.stage = .warn ∧ ¬gate ∧ s.pst.working.bsv.warn + 100 ≤ t.bsv.minComp) → recoveryRun = 0) →
          t.bsv.warnRun = (if t.bsv.stage = .normal then warnRun else 0) ∧
            t.bsv.limitRun = (if t.bsv.stage = .normal ∨ t.bsv.stage = .warn then limitRun else 0) ∧
            t.bsv.cutRun = (if t.bsv.stage = .cut then 0 else cutRun) ∧
            t.bsv.recoveryRun = (if t.bsv.stage = s.bsv.stage then recoveryRun else 0)

/-- The 16th scan of IDENT counts the taps and ends identification: FAULT for a count outside 2 to 4 or a counted cell out of
range, with the account 0 and nothing else raised; otherwise the same pack restores its account and identity, a new pack
starts from 0, queues PACK_CHANGED and has its record saved, and the initial stage follows from the minimum V_comp and the
energy gate, whose flag is set exactly where the gate turns NORMAL into WARN (R24 to R27, R32, R35, R38). -/
def Obligations.IdentificationEnds : Prop :=
  ∀ (r : Readings) (s : State), s.bsv.stage = .ident → s.bsv.power = .active → s.bsv.identScans = 15 →
    ∃ (t : State) (avg : Nat), exec (.scanCompletion r) s = .next t ∧ t.bsv.TapsCounted ∧
      t.bsv.Measured r s.pst.working.bsv.cellResistance ∧
      (t.bsv.warnRun = 0 ∧ t.bsv.limitRun = 0 ∧ t.bsv.cutRun = 0 ∧ t.bsv.recoveryRun = 0 ∧ t.bsv.storageRun = 0 ∧
        t.bsv.power = .active ∧
        t.bsv.parkTimer = if s.pst.working.bsv.parkTime = 0 then none else some s.pst.working.bsv.parkTime) ∧
      avg = (t.bsv.vComp.toList.filterMap id).sum / t.bsv.cellCount ∧
      ∀ bad : Prop,
        (bad ↔ t.bsv.cellCount < 2 ∨
          ∃ k : Fin 4, k.val < t.bsv.cellCount ∧ (4350 < t.bsv.vRaw.get k ∨ t.bsv.vRaw.get k < 2500)) →
        (bad → t.bsv.stage = .fault ∧ t.bsv.charge = 0 ∧ t.bsv.railEn = false ∧ t.pli = s.pli ∧ t.pst = s.pst ∧
          t.bsv.gateWarned = false ∧ t.bsv.gateCrossed = s.bsv.gateCrossed ∧
          t.bsv.identityCells = s.bsv.identityCells ∧ t.bsv.identityAverage = s.bsv.identityAverage) ∧
        (¬bad → ∀ p, s.pst.pack = .valid p → p.cellCount = t.bsv.cellCount → avg < p.average + 150 →
          t.bsv.charge = p.used * 36000 ∧ t.bsv.identityCells = p.cellCount ∧ t.bsv.identityAverage = p.average ∧
            t.pli = s.pli ∧ t.pst = s.pst) ∧
        (¬bad → (∀ p, s.pst.pack = .valid p → p.cellCount ≠ t.bsv.cellCount ∨ p.average + 150 ≤ avg) →
          t.bsv.charge = 0 ∧ t.bsv.identityCells = t.bsv.cellCount ∧ t.bsv.identityAverage = avg ∧
            .packChanged ∈ t.pli.attention ∧ t.pst.engine ≠ .idle) ∧
        (¬bad → ∀ gate : Prop, (gate ↔ s.pst.working.bsv.packCapacity ≠ 0 ∧
            s.pst.working.bsv.packCapacity * s.pst.working.bsv.energyWarnPercent / 100 ≤
              min 65535 (t.bsv.charge / 36000)) →
          (t.bsv.gateCrossed = true ↔ gate) ∧
          (t.bsv.gateWarned = true ↔ gate ∧ s.pst.working.bsv.warn ≤ t.bsv.minComp) ∧
          (s.pst.working.bsv.warn ≤ t.bsv.minComp → ¬gate → t.bsv.stage = .normal) ∧
          (s.pst.working.bsv.warn ≤ t.bsv.minComp → gate → t.bsv.stage = .warn) ∧
          (t.bsv.minComp < s.pst.working.bsv.warn → 3400 ≤ t.bsv.minComp → t.bsv.stage = .warn) ∧
          (t.bsv.minComp < s.pst.working.bsv.warn → t.bsv.minComp < 3400 → t.bsv.stage = .limit))

/-- The scan that completes the storage run shuts the part down: the rail released, the timer stopped, every grant 0 at the
same completion, a stage of CUT or FAULT kept, and any other left for SHUTDOWN with every run of the stage machine at 0, and
a pack record save requested, but in FAULT, where PWR_HOLD is released at once unless a commit is programming. A scan at or
above the storage threshold sets the run to 0 (R30, R33, R45, R46, R54). When PWR_HOLD is released in FAULT rests on
assumption log entry 24. -/
def Obligations.StorageRunShutsDown : Prop :=
  ∀ (r : Readings) (s : State), s.bsv.power ≠ .shutdown → s.bsv.stage ≠ .ident → s.bsv.storageRun = 2499 →
    ∃ t, exec (.scanCompletion r) s = .next t ∧
      (s.pst.working.bsv.storage ≤ t.bsv.minComp →
        t.bsv.power = s.bsv.power ∧ t.bsv.storageRun = 0 ∧ t.bsv.pwrHold = s.bsv.pwrHold) ∧
      (t.bsv.minComp < s.pst.working.bsv.storage →
        t.bsv.power = .shutdown ∧ t.bsv.storageRun = 2500 ∧ t.bsv.railEn = false ∧ t.bsv.parkTimer = none ∧
          (s.bsv.stage = .cut → t.bsv.stage = .cut) ∧ (s.bsv.stage = .fault → t.bsv.stage = .fault) ∧
          (s.bsv.stage ≠ .cut → s.bsv.stage ≠ .fault → t.bsv.stage = .shutdown ∨ t.bsv.stage = .cut) ∧
          (s.bsv.stage ∈ [Stage.normal, .warn, .limit] → t.bsv.warnRun = 0 ∧ t.bsv.limitRun = 0 ∧ t.bsv.cutRun = 0 ∧
            t.bsv.recoveryRun = 0) ∧
          t.bga.steer.grant = 0 ∧ t.bga.drive.grant = 0 ∧ t.bga.winch.grant = 0 ∧ t.bga.lights.grant = 0 ∧
          (s.bsv.stage = .fault → t.pst = s.pst ∧
            ((∃ k v, s.pst.engine = .commit k v) → t.bsv.pwrHold = s.bsv.pwrHold) ∧
            ((∀ k v, s.pst.engine ≠ .commit k v) → t.bsv.pwrHold = false)) ∧
          (s.bsv.stage ≠ .fault → t.bsv.pwrHold = s.bsv.pwrHold ∧ t.pst.engine ≠ .idle))

/-! ### The budget -/

/-- The budget pass of a scan completion: no grant in SHUTDOWN and FAULT; otherwise the protected grants of STEER and LIGHTS
and then the rank distribution of what remains, DRIVE before WINCH but after it while an assisted haul exists, with the
sag factor and the stage percentage in the available current, and each row's state from its grant (R50, R54 to R60). So
the grants never exceed the larger of the available current and the protected grants, no row is given more than it asked
for, and the winch is given its floor or nothing. -/
def Obligations.GrantsServedByRank : Prop :=
  ∀ (rd : Readings) (s : State), s.bsv.power ≠ .shutdown →
    ∃ t, exec (.scanCompletion rd) s = .next t ∧
      (t.bga.steer.demand = s.bga.steer.demand ∧ t.bga.drive.demand = s.bga.drive.demand ∧
        t.bga.winch.demand = s.bga.winch.demand ∧ t.bga.lights.demand = s.bga.lights.demand) ∧
      (t.bga.steer.passDemand = (if t.bsv.railEn = true then s.bga.steer.demand else 0) ∧
        t.bga.drive.passDemand = s.bga.drive.demand ∧ t.bga.winch.passDemand = s.bga.winch.demand ∧
        t.bga.lights.passDemand = s.bga.lights.demand) ∧
      (t.bsv.stage = .shutdown ∨ t.bsv.stage = .fault ∨ t.bsv.power = .shutdown →
        t.bga.steer.grant = 0 ∧ t.bga.drive.grant = 0 ∧ t.bga.winch.grant = 0 ∧ t.bga.lights.grant = 0) ∧
      (¬(t.bsv.stage = .shutdown ∨ t.bsv.stage = .fault ∨ t.bsv.power = .shutdown) →
        t.bga.stagePercent = (match t.bsv.stage with
          | .normal | .warn => 100
          | .limit => 50
          | _ => 0) ∧
        t.bga.sagFactor = (if s.pst.working.bga.sagStart ≤ t.bsv.minRaw then 1000
          else if t.bsv.minRaw ≤ s.pst.working.bga.sagEnd then 0
          else (t.bsv.minRaw - s.pst.working.bga.sagEnd) * 1000 /
            (s.pst.working.bga.sagStart - s.pst.working.bga.sagEnd)) ∧
        t.bga.available = s.pst.working.bga.currentLimit * t.bga.stagePercent * t.bga.sagFactor / 100000 ∧
        t.bga.steer.protectedGrant = min t.bga.steer.passDemand s.pst.working.bga.railLimit ∧
        t.bga.drive.protectedGrant = 0 ∧ t.bga.winch.protectedGrant = 0 ∧
        t.bga.lights.protectedGrant = min t.bga.lights.passDemand 5 ∧
        t.bga.remaining = t.bga.available - (t.bga.steer.protectedGrant + t.bga.lights.protectedGrant) ∧
        (t.bga.assistRanks = true ↔ ∃ r, s.wnc.record = some r ∧ r.kind = .assistHaul) ∧
        (t.bga.assistRanks = false →
          [t.bga.steer.rank, t.bga.drive.rank, t.bga.winch.rank, t.bga.lights.rank] = [1, 2, 3, 4] ∧
          [t.bga.steer.grant - t.bga.steer.protectedGrant, t.bga.drive.grant, t.bga.winch.grant,
            t.bga.lights.grant - t.bga.lights.protectedGrant] =
          served [(t.bga.steer.passDemand - t.bga.steer.protectedGrant, 0), (t.bga.drive.passDemand, 0),
            (t.bga.winch.passDemand, s.pst.working.bga.winchFloor),
            (t.bga.lights.passDemand - t.bga.lights.protectedGrant, 0)] t.bga.remaining) ∧
        (t.bga.assistRanks = true →
          [t.bga.steer.rank, t.bga.drive.rank, t.bga.winch.rank, t.bga.lights.rank] = [1, 3, 2, 4] ∧
          [t.bga.steer.grant - t.bga.steer.protectedGrant, t.bga.winch.grant, t.bga.drive.grant,
            t.bga.lights.grant - t.bga.lights.protectedGrant] =
          served [(t.bga.steer.passDemand - t.bga.steer.protectedGrant, 0),
            (t.bga.winch.passDemand, s.pst.working.bga.winchFloor), (t.bga.drive.passDemand, 0),
            (t.bga.lights.passDemand - t.bga.lights.protectedGrant, 0)] t.bga.remaining)) ∧
      (∀ b ∈ [t.bga.steer, t.bga.drive, t.bga.winch, t.bga.lights], b.protectedGrant ≤ b.grant ∧ b.grant ≤ b.passDemand ∧
        b.state = if b.grant = b.passDemand then .full else if b.grant = 0 then .starved else .partly) ∧
      (t.bga.winch.grant = 0 ∨ s.pst.working.bga.winchFloor ≤ t.bga.winch.grant) ∧
      t.bga.steer.grant + t.bga.drive.grant + t.bga.winch.grant + t.bga.lights.grant ≤
        max t.bga.available (t.bga.steer.protectedGrant + t.bga.lights.protectedGrant)

/-! ### Steering -/

/-- A servo refresh with no change of holder pending: the requested mode becomes active only near centre and never under the
assist restraint, the targets follow the mode, each output moves by at most the slew limit, only toward centre under a
rail overload and not at all under the hold flag, and becomes a pulse; the first pulse after a reset or a wake commands the
held position; with the rail released nothing moves and no pulse is sent; the demand is posted and the steer command
published (R51, R67 to R71, R74 to R77, R79, R80). A refresh that completes a pending change to RADIO acts on the radio's
entry (R6, R7). That the outputs stay held at the first pulse after a reset, as after a wake, and that the radio's entry
takes its mode from the steer mode list then in the working copy, are the model's readings (assumption log, entries 53 and
18). -/
def Obligations.SteeringRefreshes : Prop :=
  (∀ s : State, s.au.steer.pending = none → s.pst.working.legal = true →
    ∃ t, exec .servoRefreshExpiry s = .next t ∧
      t = { s with
        stc := t.stc
        bga := { s.bga with steer := { s.bga.steer with
          demand := min s.pst.working.bga.railLimit (s.bsv.railCurrent + 10) } } } ∧
      t.stc.published = s.au.image.steer.steer ∧ t.stc.interval = s.pst.working.stc.refreshPeriod ∧
      t.stc.restraint = s.stc.restraint ∧ t.stc.shownRestraint = s.stc.restraint ∧
      (t.stc.overload = true ↔ s.pst.working.bga.railLimit < s.bsv.railCurrent) ∧
      (s.au.image.steer.mode = s.stc.active → t.stc.active = s.stc.active ∧ t.stc.pendingMode = none) ∧
      (s.au.image.steer.mode ≠ s.stc.active →
        if s.au.image.steer.steer.natAbs ≤ s.pst.working.stc.centreBand ∧ s.au.image.steer.hold = false ∧
            s.bsv.railEn = true ∧ s.stc.restraint = false then
          t.stc.active = s.au.image.steer.mode ∧ t.stc.pendingMode = none
        else t.stc.active = s.stc.active ∧ t.stc.pendingMode = some s.au.image.steer.mode) ∧
      (s.bsv.railEn = false →
        t.stc.front = s.stc.front ∧ t.stc.rear = s.stc.rear ∧ t.stc.frontTarget = s.stc.frontTarget ∧
          t.stc.rearTarget = s.stc.rearTarget ∧ t.stc.frontPulse = none ∧ t.stc.rearPulse = none ∧
          t.stc.unpulsed = s.stc.unpulsed) ∧
      (s.bsv.railEn = true →
        t.stc.frontPulse = some (servoPulse s.pst.working.stc.front t.stc.front) ∧
        t.stc.rearPulse = some (servoPulse s.pst.working.stc.rear t.stc.rear) ∧ t.stc.unpulsed = false ∧
        (s.au.image.steer.hold = true ∨ s.stc.unpulsed = true →
          t.stc.front = s.stc.front ∧ t.stc.rear = s.stc.rear) ∧
        (s.au.image.steer.hold = true →
          t.stc.frontTarget = s.stc.frontTarget ∧ t.stc.rearTarget = s.stc.rearTarget) ∧
        (s.au.image.steer.hold = false →
          t.stc.frontTarget = (if t.stc.active = .rear then 0 else s.au.image.steer.steer) ∧
          t.stc.rearTarget = (match t.stc.active with
            | .front => 0
            | .rear => s.au.image.steer.steer
            | .counter => -(s.au.image.steer.steer.sign *
                (s.au.image.steer.steer.natAbs * s.pst.working.stc.rearRatio / 100 : Nat))
            | .crab => s.au.image.steer.steer.sign *
                (s.au.image.steer.steer.natAbs * s.pst.working.stc.rearRatio / 100 : Nat)) ∧
          (s.stc.unpulsed = false → ∀ out target new, (out, target, new) ∈ [(s.stc.front, t.stc.frontTarget, t.stc.front),
              (s.stc.rear, t.stc.rearTarget, t.stc.rear)] →
            (t.stc.overload = false → Slewed s.pst.working.stc.slewLimit out target new) ∧
            (t.stc.overload = true → ∃ v, Slewed s.pst.working.stc.slewLimit out target v ∧
              (out = 0 → new = 0) ∧ (v * out < 0 → new = 0) ∧
              (0 ≤ v * out → v.natAbs ≤ out.natAbs → new = v) ∧
              (0 < v * out → out.natAbs ≤ v.natAbs → new = out)))))) ∧
  ∀ s : State, s.au.steer.pending = some .radio → s.rxl.published.steer ≠ none →
    exec .servoRefreshExpiry s = exec .servoRefreshExpiry (s.toRadio .steer)

/-! ### Drive -/

/-- A drive update, its boundary reached: the grant gives the cap; 250 updates of neutral throttle in ACTIVE arm the drive; the
first governing condition of R86 stops it, and otherwise an armed COMMAND entry runs the direction machine with its gate.
The bridge, the brake-active flag, the reverse-active flag, the neutral count and the demand follow (R62, R84 to R87, R90
to R92, R95). An update that completes a pending change of holder acts on the new holder's entry; the return from
AUTO(ASSIST) to RADIO does not disarm (R6, R7, R18, R88). The pins follow from the bridge action. REPORT STATUS shows the
drive as the latest update leaves it, and the transmission as it showed it before (R102, assumption log, entry 38). -/
def Obligations.DriveGovernedByTable : Prop :=
  (∀ s : State, s.au.drive.pending = none ∨ s.drc.dir = .gate →
    ∃ t, exec .driveUpdateExpiry s = .next t ∧
      t = { s with
        drc := t.drc
        bga := { s.bga with drive := { s.bga.drive with
          demand := demandOf t.drc.requested s.pst.working.drc.stallCurrent } } } ∧
      t.drc.grant = s.bga.drive.grant ∧ t.drc.cap = capOf s.bga.drive.grant s.pst.working.drc.stallCurrent ∧
      t.drc.armCount =
        (if s.bsv.power = .active ∧ s.au.image.drive.throttle = 0 then min 250 (s.drc.armCount + 1) else 0) ∧
      (t.drc.armed = true ↔ s.drc.armed = true ∨ t.drc.armCount = 250) ∧
      (t.drc.reverseFlag = true ↔ t.drc.dir = .reverse) ∧
      t.drc.neutralCount = (if t.drc.dir = .neutral then min 100 (s.drc.neutralCount + 1) else 0) ∧
      t.drc.gear = s.drc.gear ∧ t.drc.travel = s.drc.travel ∧ t.drc.shiftPulse = s.drc.shiftPulse ∧
      t.drc.pendingGear = s.drc.pendingGear ∧ t.drc.pulseChanged = s.drc.pulseChanged ∧
      t.drc.unpulsed = s.drc.unpulsed ∧ t.drc.shownShift = s.drc.shownShift ∧ t.drc.ShownCurrent ∧
      (t.drc.dir ≠ .forward → t.drc.dir ≠ .reverse → t.drc.requested = 0 ∧ t.drc.present = 0) ∧
      (s.bsv.power = .shutdown →
        t.drc.dir = .neutral ∧ t.drc.gateTimer = none ∧ t.drc.bridge = .opened ∧ t.drc.brakeFlag = false) ∧
      (s.bsv.power = .parked →
        t.drc.dir = .neutral ∧ t.drc.gateTimer = none ∧ t.drc.bridge = .brake 1000 ∧ t.drc.brakeFlag = false) ∧
      (s.bsv.power = .active →
        ((s.bsv.stage ∈ [Stage.ident, .cut, .fault] ∨ s.au.image.drive.kind = .fullBrake) →
          t.drc.dir = .neutral ∧ t.drc.gateTimer = none ∧ t.drc.bridge = .brake 1000 ∧ t.drc.brakeFlag = true) ∧
        (s.bsv.stage ∉ [Stage.ident, .cut, .fault] → s.au.image.drive.kind ≠ .fullBrake → t.drc.armed = false →
          t.drc.dir = .neutral ∧ t.drc.gateTimer = none ∧ t.drc.brakeFlag = false ∧
            t.drc.bridge = dragAction s.pst.working.drc.dragStrength) ∧
        (s.bsv.stage ∉ [Stage.ident, .cut, .fault] → s.au.image.drive.kind = .command → t.drc.armed = true →
          t.drc.dir = directionAfter s.pst.working.drc.gateTime s.drc.dir s.au.image.drive.throttle ∧
          (t.drc.dir = .gate → s.drc.dir = .gate → t.drc.gateTimer = s.drc.gateTimer) ∧
          (t.drc.dir = .gate → s.drc.dir ≠ .gate → t.drc.gateTimer = some s.pst.working.drc.gateTime) ∧
          (t.drc.dir ≠ .gate → t.drc.gateTimer = none) ∧
          (t.drc.dir = .forward → t.drc.bridge = .driveForward ∧ t.drc.brakeFlag = false) ∧
          (t.drc.dir = .reverse → t.drc.bridge = .driveReverse ∧ t.drc.brakeFlag = false) ∧
          (s.au.image.drive.throttle = 0 →
            t.drc.bridge = dragAction s.pst.working.drc.dragStrength ∧ t.drc.brakeFlag = false) ∧
          (s.au.image.drive.throttle < 0 → t.drc.dir ≠ .reverse →
            t.drc.bridge = .brake s.au.image.drive.throttle.natAbs ∧ t.drc.brakeFlag = true)))) ∧
  (∀ s : State, s.drc.dir ≠ .gate →
    (s.au.drive.pending = some .radio → s.rxl.published.throttle ≠ none →
      s.au.drive.holder ∈ [Holder.pit, .auto .failsafe, .noParty] →
      exec .driveUpdateExpiry s = exec .driveUpdateExpiry (s.toRadio .drive)) ∧
    (s.au.drive.pending = some .radio → s.rxl.published.throttle ≠ none → s.au.drive.holder = .auto .assist →
      exec .driveUpdateExpiry s = exec .driveUpdateExpiry { s with au := (s.toRadio .drive).au }) ∧
    (s.au.drive.pending = some .noParty →
      exec .driveUpdateExpiry s = exec .driveUpdateExpiry (s.toNone .drive none)) ∧
    (s.au.drive.pending = some .assist →
      exec .driveUpdateExpiry s = exec .driveUpdateExpiry { s with au := { s.au with
        drive := ⟨.auto .assist, none, false⟩, image := { s.au.image with drive := ⟨.assist, 0⟩ } } })) ∧
  ∀ d : Drive, d.pins = match d.bridge with
    | .driveForward => ⟨true, false, d.present⟩
    | .driveReverse => ⟨false, true, d.present⟩
    | .brake strength => ⟨true, true, strength⟩
    | .opened => ⟨false, false, 0⟩

/-- The duties of an armed drive in ACTIVE outside IDENT, CUT and FAULT: the target is the curve's, scaled in reverse; the
requested duty rises by at most the punch and falls at once, from 0 at an entry to its direction; the present duty is also
held by the cap and, during shift travel, by the shift threshold (R89, R93, R94). Under an ASSIST entry the drive pushes at
the assist duty while the line is loaded, and otherwise brakes in full (R96). -/
def Obligations.DriveDutiesRamp : Prop :=
  ∀ s : State, s.au.drive.pending = none ∨ s.drc.dir = .gate → s.bsv.power = .active →
    s.bsv.stage ∉ [Stage.ident, .cut, .fault] → s.drc.armed = true →
    ∃ t, exec .driveUpdateExpiry s = .next t ∧
      ∀ driven : Nat → Prop,
        (∀ target, driven target ↔
          t.drc.requested =
              ramped target (if t.drc.dir = s.drc.dir then s.drc.requested else 0) s.pst.working.drc.punch ∧
            t.drc.present = min t.drc.requested (min
              (if s.drc.travel = true then min t.drc.cap s.pst.working.drc.shiftThreshold else t.drc.cap)
              ((if t.drc.dir = s.drc.dir then s.drc.present else 0) + s.pst.working.drc.punch))) →
        (s.au.image.drive.kind = .command → t.drc.dir = .forward →
          driven (curveTarget s.pst.working.drc.curve s.au.image.drive.throttle.natAbs)) ∧
        (s.au.image.drive.kind = .command → t.drc.dir = .reverse →
          driven (curveTarget s.pst.working.drc.curve s.au.image.drive.throttle.natAbs *
            s.pst.working.drc.reversePercent / 100)) ∧
        (s.au.image.drive.kind = .assist →
          if s.pst.working.wnc.assistThreshold ≤ s.bsv.winchCurrent ∧ 0 < s.pst.working.drc.assistDuty then
            t.drc.dir = .forward ∧ t.drc.bridge = .driveForward ∧ driven s.pst.working.drc.assistDuty
          else t.drc.dir = .neutral ∧ t.drc.bridge = .brake 1000 ∧ t.drc.brakeFlag = true ∧ t.drc.requested = 0 ∧
            t.drc.present = 0)

/-! ### Timers and the transmission -/

/-- The expiries that act at once: the gate timer makes GATE NEUTRAL and leaves the bridge (R91); shift travel ends (R99); a
back-off ends and recovery is awaited (R124); the winch boundary timer completes the change to RADIO (R6, R7); a pit hold
deadline makes its row NONE and keeps its pending holder (R14); the hold mark of the gap timer takes LIVE to HOLD and empties
a recovery run, and its failsafe mark takes HOLD and RECOVERING to LOST, with the rows of R10 (R152). A timer that is stopped
neither expires nor passes a mark (assumption log, entry 2), and the run of a lost recovery is emptied (entry 47). The
operation record that R10 asks of an AUTO(ASSIST) row is read as an ASSIST_HAUL one (entry 60). -/
def Obligations.TimersExpire : Prop :=
  ∀ s : State,
    (s.bsv.parkTimer = none → exec .parkIdleTimerExpiry s = .next s) ∧
    (s.drc.gateTimer = none → exec .gateTimerExpiry s = .next s) ∧
    (s.drc.gateTimer ≠ none →
      exec .gateTimerExpiry s = .next { s with drc := { s.drc with dir := .neutral, gateTimer := none } }) ∧
    exec .shiftTravelTimerExpiry s = .next { s with drc := { s.drc with travel := false } } ∧
    (s.wnc.backOff = false → exec .backOffTimerExpiry s = .next s) ∧
    (s.wnc.backOff = true → s.wnc.record = none →
      exec .backOffTimerExpiry s = .next { s with wnc := { s.wnc with backOff := false } }) ∧
    (∀ r, s.wnc.backOff = true → s.wnc.record = some r →
      exec .backOffTimerExpiry s =
        .next { s with wnc := { s.wnc with backOff := false, record := some { r with recoveryAwaited := true } } }) ∧
    (s.au.winchTimer = false → exec .winchBoundaryTimerExpiry s = .next s) ∧
    (s.au.winchTimer = true → s.au.winch.pending = some .radio → s.rxl.published.winch ≠ none →
      exec .winchBoundaryTimerExpiry s = .next (s.toRadio .winch)) ∧
    (s.au.drive.deadline = false → exec (.pitHoldDeadlineExpiry .drive) s = .next s) ∧
    (s.au.drive.deadline = true →
      exec (.pitHoldDeadlineExpiry .drive) s = .next (s.toNone .drive s.au.drive.pending)) ∧
    (s.au.steer.deadline = false → exec (.pitHoldDeadlineExpiry .steer) s = .next s) ∧
    (s.au.steer.deadline = true →
      exec (.pitHoldDeadlineExpiry .steer) s = .next (s.toNone .steer s.au.steer.pending)) ∧
    (s.rxl.gap = none → exec .holdMarkExpiry s = .next s ∧ exec .failsafeMarkExpiry s = .next s) ∧
    ∀ g, s.rxl.gap = some g →
      exec .holdMarkExpiry s = .next { s with rxl := { s.rxl with
        gap := some { g with holdPassed := true }
        link := if s.rxl.link = .live then .hold else s.rxl.link
        run := if s.rxl.link = .recovering then 0 else s.rxl.run } } ∧
      exec .failsafeMarkExpiry s = .next (
        if s.rxl.link = .hold ∨ s.rxl.link = .recovering then
          { s with rxl := { s.rxl with link := .lost, run := 0 }, au := s.lostRows }
        else s)

/-- A shift servo refresh, its boundary reached: the requested gear becomes pending, and present when the rail is powered, no
travel is in progress, the duty is low and, for DIG, the drive has stood; then the pulse of the present gear begins, and
travel starts after a change of gear, at the first pulse after a reset, a wake or a refresh without a pulse, and after a
write of the gear's pulse setting. With the rail released there is no pulse and travel ends (R97 to R100). REPORT STATUS
shows the transmission as the latest refresh leaves it (R102, assumption log, entry 38). An expiry without travel completes
a pending change of holder first (R6). -/
def Obligations.ShiftServoRefreshes : Prop :=
  (∀ (s : State) (want : Option Gear), s.au.gear.pending = none ∨ s.drc.travel = true →
    want = (if s.au.image.gear = some s.drc.gear then none else s.au.image.gear) →
    (s.bsv.railEn = false →
      exec .shiftServoRefresh s = .next { s with drc := { s.drc with
        pendingGear := want, travel := false, shiftPulse := none, shownShift := ⟨s.drc.gear, want, false⟩ } }) ∧
    (s.bsv.railEn = true → ∀ g, want = some g → s.drc.travel = false →
      s.drc.present ≤ s.pst.working.drc.shiftThreshold →
      (s.drc.gear = .dig ∨ g = .dig → s.drc.neutralCount = 100) →
      exec .shiftServoRefresh s = .next { s with drc := { s.drc with
        gear := g, pendingGear := none, travel := true, shiftPulse := some (s.pst.working.drc.pulse g),
        unpulsed := false, pulseChanged := ⟨false, false, false⟩, shownShift := ⟨g, none, true⟩ } }) ∧
    (s.bsv.railEn = true →
      (∀ g, want = some g → s.drc.travel = true ∨ s.pst.working.drc.shiftThreshold < s.drc.present ∨
        (s.drc.gear = .dig ∨ g = .dig) ∧ s.drc.neutralCount ≠ 100) →
      ∀ travel : Bool, travel = (s.drc.travel || s.drc.unpulsed || s.drc.shiftPulse = none ||
          match s.drc.gear with
          | .high => s.drc.pulseChanged.high
          | .low => s.drc.pulseChanged.low
          | .dig => s.drc.pulseChanged.dig) →
      exec .shiftServoRefresh s = .next { s with drc := { s.drc with
        pendingGear := want
        travel := travel
        shownShift := ⟨s.drc.gear, want, travel⟩
        shiftPulse := some (s.pst.working.drc.pulse s.drc.gear)
        unpulsed := false
        pulseChanged := ⟨false, false, false⟩ } })) ∧
  ∀ s : State, s.drc.travel = false → s.au.gear.pending = some .radio → s.rxl.published.gear ≠ none →
    exec .shiftServoRefresh s = exec .shiftServoRefresh (s.toRadio .gear)

/-! ### The winch's updates, pulses and switch -/

/-- A winch update, in any state: the grant gives the cap, a written capacity and count edge take effect, the level of
HOOK_HOME is seen and its arrival sets the position, the stop mark is cleared, the demand follows the requested duty.
Whatever the mode and the operation, the drum is driven only in ACTIVE in NORMAL, WARN or LIMIT, with a grant at or above
the floor, within the requested duty and the cap and in the requested direction; otherwise the bridge brakes, or stands
open in FREESPOOL and SHUTDOWN. An operation ends in CUT, FAULT and SHUTDOWN, after 2000 ms of starvation, at a hook that
is home and at the capacity, and a HOME that the hook ends leaves the position 0 and KNOWN. The pins follow from the bridge
action (R62, R104, R106, R108, R109, R111, R112, R115, R119 to R121, R123, R126). That a level read active after inactive is a
hook-home arrival, and that the starvation is counted by updates, are the model's (assumption log, entries 29 and 32). REPORT
STATUS shows the winch as this update leaves it (R131, entry 38). -/
def Obligations.WinchDrivenSafely : Prop :=
  (∀ b : Winch, b.pins = match b.bridge with
    | .windOut => ⟨true, false, b.present⟩
    | .windIn => ⟨false, true, b.present⟩
    | .brake => ⟨true, true, 1000⟩
    | .opened => ⟨false, false, 0⟩) ∧
  ∀ (level : Bool) (s : State),
    ∃ t, exec (.winchUpdateExpiry level) s = .next t ∧
      t = { s with
        wnc := t.wnc, au := t.au, stc := t.stc, pli := t.pli
        bga := { s.bga with winch := { s.bga.winch with
          demand := demandOf t.wnc.requested s.pst.working.wnc.stallCurrent } } } ∧
      t.wnc.grant = s.bga.winch.grant ∧ t.wnc.cap = capOf s.bga.winch.grant s.pst.working.wnc.stallCurrent ∧
      t.wnc.capacity = s.pst.working.wnc.spoolCapacity ∧ t.wnc.edge = s.pst.working.wnc.countEdge ∧
      t.wnc.hookHome = level ∧ t.wnc.stopMark = false ∧ t.wnc.pulseSinceScan = s.wnc.pulseSinceScan ∧
      t.wnc.ShownCurrent ∧
      (level = true → s.wnc.hookHome = false → t.wnc.position = some 0 ∧ t.wnc.reserveWarned = false) ∧
      (level = false ∨ s.wnc.hookHome = true →
        level = false ∨ (∀ r, s.wnc.record = some r → r.kind ≠ .home) ∨ s.bsv.stage = .cut ∨ s.bsv.stage = .fault ∨
          s.bsv.power = .shutdown →
        t.wnc.reserveWarned = s.wnc.reserveWarned ∧
          ∀ p, t.wnc.position = some p ↔ s.wnc.position = some p ∧ p ≤ s.pst.working.wnc.spoolCapacity) ∧
      (0 < t.wnc.present →
        s.bsv.stage ∈ [Stage.normal, .warn, .limit] ∧ s.bsv.power = .active ∧
          s.pst.working.bga.winchFloor ≤ s.bga.winch.grant ∧ t.wnc.present ≤ t.wnc.requested ∧
          t.wnc.present ≤ t.wnc.cap ∧ t.wnc.drivenDir = t.wnc.requestedDir ∧
          (t.wnc.requestedDir = .out → t.wnc.bridge = .windOut) ∧
          (t.wnc.requestedDir = .inward → t.wnc.bridge = .windIn)) ∧
      (t.wnc.present = 0 →
        t.wnc.bridge = if s.bsv.power = .shutdown ∨ t.wnc.mode = .freespool then .opened else .brake) ∧
      (s.bsv.stage = .cut ∨ s.bsv.stage = .fault ∨ s.bsv.power = .shutdown → t.wnc.record = none) ∧
      (s.bsv.power = .shutdown → t.wnc.mode = .hold) ∧
      ∀ r, s.wnc.record = some r →
        ((∃ x, r.starvedFor = some x ∧ 2000 ≤ x) → t.wnc.record = none) ∧
        (level = true → r.kind ≠ .payOut → t.wnc.record = none) ∧
        (level = true → r.kind = .home → s.bsv.stage ≠ .cut → s.bsv.stage ≠ .fault → s.bsv.power ≠ .shutdown →
          t.wnc.position = some 0 ∧ t.wnc.reserveWarned = false ∧ (r.immediate = true → t.pli = s.pli)) ∧
        (r.kind = .payOut → t.wnc.position = some t.wnc.capacity → t.wnc.record = none)

/-- Under the radio's speed in ACTIVE, with no operation, the winch holds at a neutral stick and otherwise is driven toward
the stick's side, withheld at either end of the drum, under the ramp, the cap and the starvation rule; each stalled update
adds 5 ms to the stall time and any other sets it to 0, and 300 ms of stall enter JAMMED at once. JAMMED is left by a
WINCH STOP, or by the radio at a neutral stick (R110, R111, R113, R124, R125). -/
def Obligations.WinchFollowsStick : Prop :=
  ∀ (level : Bool) (v : Int) (s : State), s.wnc.record = none → s.bsv.power = .active →
    s.bsv.stage ∈ [Stage.normal, .warn, .limit] → s.au.image.winch = ⟨.speed, v⟩ →
    (s.wnc.mode = .jammed → s.wnc.stopMark = false → ¬(s.au.winch.holder = .radio ∧ v = 0) →
      ∃ t, exec (.winchUpdateExpiry level) s = .next t ∧ t.wnc.mode = .jammed ∧ t.wnc.requested = 0 ∧
        t.wnc.present = 0 ∧ t.wnc.bridge = .brake ∧ t.au = s.au ∧ t.pli = s.pli) ∧
    (s.wnc.mode ≠ .jammed ∨ s.wnc.stopMark = true ∨ s.au.winch.holder = .radio ∧ v = 0 →
      ∃ t, exec (.winchUpdateExpiry level) s = .next t ∧ t.wnc.record = none ∧ t.au = s.au ∧ t.stc = s.stc ∧
        t.pli = s.pli ∧
        (v = 0 → t.wnc.mode = .hold ∧ t.wnc.requested = 0 ∧ t.wnc.present = 0 ∧ t.wnc.stallTime = 0) ∧
        (v ≠ 0 → ∀ (dir : WinchDir) (req pres : Nat) (jam : Prop),
          dir = (if 0 < v then .out else .inward) →
          req = ramped (stickTarget v t.wnc.position t.wnc.capacity level)
            (if dir = s.wnc.requestedDir then s.wnc.requested else 0) s.pst.working.wnc.winchRamp →
          pres = windDuty req t.wnc.grant s.pst.working.bga.winchFloor t.wnc.cap
            (if dir = s.wnc.requestedDir ∧ s.wnc.requested ≠ 0 then s.wnc.present else 0)
            s.pst.working.wnc.winchRamp →
          (jam ↔ 200 ≤ pres ∧ s.pst.working.wnc.jamCurrent ≤ s.bsv.winchCurrent ∧ s.wnc.backOff = false ∧
            300 ≤ s.wnc.stallTime + 5) →
          t.wnc.requestedDir = dir ∧
            (jam → t.wnc.mode = .jammed ∧ t.wnc.requested = 0 ∧ t.wnc.present = 0) ∧
            (¬jam → t.wnc.mode = .driven ∧ t.wnc.requested = req ∧ t.wnc.present = pres ∧
              t.wnc.stallTime =
                if 200 ≤ pres ∧ s.pst.working.wnc.jamCurrent ≤ s.bsv.winchCurrent ∧ s.wnc.backOff = false then
                  s.wnc.stallTime + 5 else 0)))

/-- An operation that no ending of stage 4 ends is driven at the operation duty in its direction, or in the opposite one
during a back-off, under the ramp, the cap and the starvation rule. Then the tension run completes a HAUL_TO_TENSION with
GOOD; else 300 ms of stall start a back-off, or end the operation in JAMMED at the fourth jam; else it goes on, with its
starvation measured (R110, R111, R118, R119, R122 to R124). That the tension run is measured, and its ending taken, before
the stall time, so that an update whose run goes from 0 to 1 sets the stall time to 0 and declares no jam, is the model's
reading of stage 6 (assumption log, entry 31); the starvation is counted 5 ms for each update (entry 32). -/
def Obligations.OperationIsDriven : Prop :=
  ∀ (level : Bool) (r : OpRecord) (s : State), s.wnc.record = some r → s.bsv.power = .active →
    s.bsv.stage ∈ [Stage.normal, .warn, .limit] → s.wnc.mode ≠ .jammed ∨ s.wnc.stopMark = true →
    (level = true → r.kind = .payOut) →
    (r.kind = .payOut → 0 < s.pst.working.wnc.spoolCapacity ∧
      s.wnc.position ≠ some s.pst.working.wnc.spoolCapacity) →
    (∀ x, r.starvedFor = some x → x < 2000) →
    ∃ t, exec (.winchUpdateExpiry level) s = .next t ∧
      ∀ (dir : WinchDir) (req pres run stall : Nat) (starved : Bool),
        dir = (if r.kind = .payOut ↔ s.wnc.backOff = false then .out else .inward) →
        req = ramped s.pst.working.wnc.operationDuty
          (if dir = s.wnc.requestedDir then s.wnc.requested else 0) s.pst.working.wnc.winchRamp →
        pres = windDuty req t.wnc.grant s.pst.working.bga.winchFloor t.wnc.cap
          (if dir = s.wnc.requestedDir ∧ s.wnc.requested ≠ 0 then s.wnc.present else 0)
          s.pst.working.wnc.winchRamp →
        (starved = true ↔ 0 < req ∧ (t.wnc.grant < s.pst.working.bga.winchFloor ∨ t.wnc.cap = 0)) →
        run = (if r.kind = .haulToTension ∧ dir = .inward ∧ 0 < pres ∧ r.tension ≤ s.bsv.winchCurrent then r.run + 1
          else 0) →
        stall = (if 200 ≤ pres ∧ s.pst.working.wnc.jamCurrent ≤ s.bsv.winchCurrent ∧ s.wnc.backOff = false ∧ run = 0 then
          s.wnc.stallTime + 5 else 0) →
        (r.kind = .haulToTension ∧ r.settle ≤ run →
          t.wnc.record = none ∧ t.wnc.present = 0 ∧ t.wnc.requested = 0 ∧ t.wnc.bridge = .brake ∧
            (r.immediate = true → t.pli = s.pli) ∧
            ∀ o, r.immediate = false → s.pli.owed = some o →
              t.pli = { s.pli with
                owed := none
                ready := s.pli.ready ++ [⟨o.entries ++ [⟨o.code, .good,
                  [BitVec.ofNat 8 (r.moved % 256), BitVec.ofNat 8 (r.moved / 256), BitVec.ofNat 8 r.recovered]⟩],
                    true⟩] }) ∧
        (¬(r.kind = .haulToTension ∧ r.settle ≤ run) →
          (stall < 300 ∨ r.retries < 3 →
            t.wnc.mode = .operation ∧ t.wnc.requestedDir = dir ∧ t.wnc.requested = req ∧ t.wnc.present = pres ∧
              t.au = s.au ∧ t.pli = s.pli ∧ t.stc = s.stc ∧
              t.wnc.record = some { r with
                run := run
                retries := if stall < 300 then r.retries else r.retries + 1
                starvedFor := if starved then some (match r.starvedFor with
                  | none => 0
                  | some x => x + 5) else none } ∧
              t.wnc.stallTime = (if stall < 300 then stall else 0) ∧
              t.wnc.backOff = (if stall < 300 then s.wnc.backOff else true)) ∧
          (300 ≤ stall → 3 ≤ r.retries →
            t.wnc.mode = .jammed ∧ t.wnc.record = none ∧ t.wnc.requested = 0 ∧ t.wnc.present = 0 ∧
              t.wnc.bridge = .brake ∧ t.wnc.backOff = false ∧
              (r.immediate = false → s.pli.owed ≠ none → t.pli.owed = none ∧
                t.pli.sense = (if r.kind = .home then ⟨.winchJammed, false, false, false, 0⟩
                  else ⟨.winchJammed, true, false, false, r.target - r.moved⟩)) ∧
              (r.immediate = true → s.pli.deferred = none → ∃ d, t.pli.deferred = some d ∧
                d.sense.kind = .winchJammed ∧ d.moved = r.moved ∧ d.recovered = r.recovered)))

/-- A drum pulse: an edge that the count edge does not select is no pulse; a pulse moves the position as R105 says, marks the
scan's flag and, with nothing in flight, changes only the stall time and the reserve warning beside them. It is the WINCH
boundary (R6, R7, R104 to R106, R112, R120, R124). A hook-home arrival sets the position to 0, ends a haul, and leaves a
PAY_OUT in flight (R106, R121). The taking of an edge that is not selected is the model's (assumption log, entry 35), and a
pulse IN at 0 is judged by the level of HOOK_HOME last seen (entry 29). REPORT STATUS shows the winch as a pulse leaves it
(R131, entry 38), and an arrival of the hook leaves what it shows until the next update. -/
def Obligations.PulsesAndHookMoveTheLine : Prop :=
  (∀ (e : Edge) (s : State),
    (s.wnc.edge ≠ .both → (e = .rising ↔ s.wnc.edge = .falling) → exec (.drumPulseArrival e) s = .next s) ∧
    (s.wnc.edge = .both ∨ ¬(e = .rising ↔ s.wnc.edge = .falling) → s.wnc.record = none → s.au.winch.pending = none →
      ∃ t, exec (.drumPulseArrival e) s = .next t ∧ t.wnc.ShownCurrent ∧
        t = { s with wnc := { s.wnc with
          pulseSinceScan := true
          position := s.wnc.positionAfter
          reserveWarned := s.wnc.reserveWarned && s.wnc.positionAfter ≠ some 0
          stallTime := if s.wnc.mode = .driven ∧ s.wnc.pulseToward = s.wnc.drivenDir then 0 else s.wnc.stallTime
          shown := t.wnc.shown } }) ∧
    (s.wnc.edge = .both ∨ ¬(e = .rising ↔ s.wnc.edge = .falling) → s.wnc.record = none →
      s.au.winch.pending = some .radio → s.rxl.published.winch ≠ none →
      ∃ t, exec (.drumPulseArrival e) s = .next t ∧ t.au = (s.toRadio .winch).au ∧
        t.wnc.position = s.wnc.positionAfter ∧ t.wnc.pulseSinceScan = true ∧ t.wnc.ShownCurrent ∧ t.pli = s.pli ∧
        t.stc = s.stc)) ∧
  ∀ s : State,
    (s.wnc.record = none ∨ (∃ r, s.wnc.record = some r ∧ r.kind = .payOut) →
      exec .hookHomeArrival s =
        .next { s with wnc := { s.wnc with position := some 0, reserveWarned := false, hookHome := true } }) ∧
    ∀ r, s.wnc.record = some r → r.kind ≠ .payOut →
      ∃ t, exec .hookHomeArrival s = .next t ∧ t.wnc.record = none ∧ t.wnc.position = some 0 ∧
        t.wnc.reserveWarned = false ∧ t.wnc.hookHome = true ∧ t.wnc.requested = 0 ∧ t.wnc.present = 0 ∧
        t.wnc.bridge = (if s.bsv.power = .shutdown then .opened else .brake) ∧ t.wnc.shown = s.wnc.shown ∧
        (r.kind = .home → r.immediate = true → t.pli = s.pli) ∧
        (r.kind ≠ .home → r.immediate = true → s.pli.deferred = none → ∃ d, t.pli.deferred = some d ∧
          d.sense = ⟨.hookHome, true, false, false, r.target - r.moved⟩ ∧ d.moved = r.moved ∧ d.more = false) ∧
        (r.immediate = false → s.pli.owed ≠ none → t.pli.owed = none ∧ t.pli.ready.length = s.pli.ready.length + 1)

/-- A pulse while an operation is in flight, before any boundary, from an edge that the count edge selects: one in its direction
counts and finds a back-off's recovery, one against it counts back, and neither below 0; a PAY_OUT is warned once on entering
the reserve, which sets the reserve-warned flag, and the position 0 clears it; the count completes the operation with its kind's outcome, LINE_END for a HOME whose switch has not closed, and a
PAY_OUT that reaches the capacity first ends there (R104, R105, R116, R118 to R122, R124). The hook is judged by its level
last seen, also for a haul below its count (assumption log, entries 29 and 30). REPORT STATUS shows the winch after the
pulse (R131, entry 38). -/
def Obligations.PulsesCountTheOperation : Prop :=
  ∀ (e : Edge) (r q : OpRecord) (noted : Bool) (s : State), s.wnc.record = some r →
    s.wnc.edge = .both ∨ ¬(e = .rising ↔ s.wnc.edge = .falling) → s.au.winch.pending = none →
    (noted = true ↔ r.reserveNoted = true ∨ r.kind = .payOut ∧ ∃ p, s.wnc.positionAfter = some p ∧
      s.wnc.capacity - p ≤ s.pst.working.wnc.lineReserve ∧ (s.wnc.reserveWarned = false ∨ p = 0)) →
    q = (if s.wnc.pulseToward = (if r.kind = .payOut then .out else .inward) then
        { r with
          moved := r.moved + 1
          reserveNoted := noted
          recoveryAwaited := false
          recovered := if r.recoveryAwaited = true then r.recovered + 1 else r.recovered }
      else { r with moved := r.moved - 1, reserveNoted := noted }) →
    ∃ t, exec (.drumPulseArrival e) s = .next t ∧ t.wnc.pulseSinceScan = true ∧ t.wnc.ShownCurrent ∧
      t.wnc.position = (if r.kind = .home ∧ s.wnc.hookHome = true then some 0 else s.wnc.positionAfter) ∧
      (t.wnc.reserveWarned = true ↔ ¬(r.kind = .home ∧ s.wnc.hookHome = true) ∧
        (s.wnc.reserveWarned = true ∧ s.wnc.positionAfter ≠ some 0 ∨
          r.kind = .payOut ∧ ∃ p, s.wnc.positionAfter = some p ∧ s.wnc.capacity - p ≤ s.pst.working.wnc.lineReserve)) ∧
      (q.moved < r.target → (r.kind = .payOut → ∀ p, s.wnc.positionAfter = some p → p < s.wnc.capacity) →
        (s.wnc.hookHome = true → r.kind = .payOut) →
        t.wnc.record = some q ∧ t.au = s.au ∧ t.pli = s.pli ∧ t.stc = s.stc ∧
          t.wnc.stallTime =
            (if s.wnc.pulseToward = (if r.kind = .payOut then .out else .inward) then 0 else s.wnc.stallTime)) ∧
      ∀ outcome : Option SenseKind,
        (r.target ≤ q.moved ∧
            (r.kind ∈ [OpKind.haulIn, .assistHaul] ∧ outcome = none ∨
              r.kind = .payOut ∧ outcome = (if noted then some .lineReserve else none) ∨
              r.kind = .haulToTension ∧ outcome = some .tensionNotReached ∨
              r.kind = .home ∧ outcome = (if s.wnc.hookHome then none else some .lineEnd)) ∨
          q.moved < r.target ∧
            (r.kind = .payOut ∧ s.wnc.positionAfter = some s.wnc.capacity ∧ outcome = some .lineEnd ∨
              r.kind = .home ∧ s.wnc.hookHome = true ∧ outcome = none ∨
              r.kind ∉ [OpKind.payOut, .home] ∧ s.wnc.hookHome = true ∧ outcome = some .hookHome)) →
        t.wnc.record = none ∧ t.wnc.requested = 0 ∧ t.wnc.present = 0 ∧ t.pli = s.pli.withResult q outcome

/-! ### Lights -/

/-- A light step raises and clears the turn flags, and each output shows the first overlay of the priority order whose
condition and roles hold; a pattern overlay plays its pattern from its first step, restarting on a change of overlay or a
written pattern; the others show their level; in SHUTDOWN every output is dark (R134, R139 to R144). The scene and the held
light position of the step are those that REPORT STATUS shows until the next step (R148, assumption log, entry 38). -/
def Obligations.LightOverlaysShown : Prop :=
  ∀ s : State, ∃ t, exec .lightStepExpiry s = .next t ∧
    t = { s with
      ltc := t.ltc, bga := { s.bga with lights := { s.bga.lights with demand := t.ltc.demand } } } ∧
    t.ltc.scene = s.ltc.scene ∧ t.ltc.heldPos = s.ltc.heldPos ∧ t.ltc.grant = s.bga.lights.grant ∧
    t.ltc.stepScene = s.ltc.scene ∧ t.ltc.stepPos = s.ltc.heldPos ∧ t.ltc.patternWritten = .all false ∧
    (∀ turn steer : Int, turn = s.pst.working.ltc.turnThreshold → steer = s.stc.published →
      (turn ≤ steer → t.ltc.rightTurn = true) ∧ (steer < turn - 100 → t.ltc.rightTurn = false) ∧
      (turn - 100 ≤ steer → steer < turn → t.ltc.rightTurn = s.ltc.rightTurn) ∧
      (steer ≤ -turn → t.ltc.leftTurn = true) ∧ (-(turn - 100) < steer → t.ltc.leftTurn = false) ∧
      (-turn < steer → steer ≤ -(turn - 100) → t.ltc.leftTurn = s.ltc.leftTurn)) ∧
    ∀ (k : Fin 8) (before now : LightOut) (c : OutputSetting), before = s.ltc.outs.get k → now = t.ltc.outs.get k →
      c = s.pst.working.ltc.outputs.get k →
      (s.bsv.power = .shutdown → now = ⟨.off, none, 0, 0, .released⟩) ∧
      (s.bsv.power ≠ .shutdown →
        overlayOrder.find? (s.Raised t.ltc.leftTurn t.ltc.rightTurn c.role) = some now.overlay ∧
        ((∀ p, (now.overlay, p) ∉ overlayPattern) → now.playback = none) ∧
        (∀ p, (now.overlay, p) ∈ overlayPattern → ∃ q, now.playback = some q ∧
          (before.overlay ≠ now.overlay ∨ before.playback = none ∨ s.ltc.patternWritten.get p = true → q = ⟨1, 1⟩) ∧
          (∀ b step, before.overlay = now.overlay → before.playback = some b → s.ltc.patternWritten.get p = false →
            (s.pst.working.ltc.patterns.get p)[b.index - 1]? = some step →
            q = if b.shown + 1 ≤ step.duration then ⟨b.index, b.shown + 1⟩
              else if b.index < (s.pst.working.ltc.patterns.get p).length then ⟨b.index + 1, 1⟩ else ⟨1, 1⟩) ∧
          ∀ step, (s.pst.working.ltc.patterns.get p)[q.index - 1]? = some step → now.selected = typed c.drive step.level) ∧
        (now.overlay = .brake → now.selected = typed c.drive s.pst.working.ltc.brakeLevel) ∧
        (now.overlay = .reverse → now.selected = typed c.drive s.pst.working.ltc.reverseLevel) ∧
        (now.overlay = .scene → s.bsv.power = .active →
          now.selected = typed c.drive ((s.pst.working.ltc.scenes.get s.ltc.scene).level c.role)) ∧
        (now.overlay = .scene → s.bsv.power = .parked →
          now.selected = typed c.drive (match s.pst.working.ltc.parkedScene with
            | some n => (s.pst.working.ltc.scenes.get n).level c.role
            | none => 0)))

/-- A light step forms the charges of the selected levels, their two sums and the demand, and divides the grant: the signal
outputs first, the ambient ones from what is left, each product before its division; an ON_OFF output below 255 is
released; in FAULT the selected levels are driven undivided; no output is driven above its selected level (R132, R134,
R144 to R146). -/
def Obligations.LightGrantDivided : Prop :=
  ∀ s : State, ∃ t, exec .lightStepExpiry s = .next t ∧
    (∀ chargeOf : Fin 8 → Nat,
      (∀ k, chargeOf k = (s.pst.working.ltc.outputs.get k).nominal * (t.ltc.outs.get k).selected / 255) →
      t.ltc.signalSum =
        ((List.finRange 8).map fun k => if (t.ltc.outs.get k).overlay ∈ signalOverlays then chargeOf k else 0).sum ∧
      t.ltc.ambientSum =
        ((List.finRange 8).map fun k => if (t.ltc.outs.get k).overlay ∈ signalOverlays then 0 else chargeOf k).sum) ∧
    t.ltc.demand = (t.ltc.signalSum + t.ltc.ambientSum + 99) / 100 ∧ t.bga.lights.demand = t.ltc.demand ∧
    ∀ (k : Fin 8) (o : LightOut) (c : OutputSetting) (g level : Nat), o = t.ltc.outs.get k →
      c = s.pst.working.ltc.outputs.get k → g = s.bga.lights.grant * 100 →
      level = (if c.nominal = 0 ∨ t.ltc.signalSum + t.ltc.ambientSum ≤ g then o.selected
        else if o.overlay ∈ signalOverlays then
          (if t.ltc.signalSum ≤ g then o.selected else o.selected * g / t.ltc.signalSum)
        else if t.ltc.signalSum ≤ g then o.selected * (g - t.ltc.signalSum) / t.ltc.ambientSum else 0) →
      (s.bsv.stage = .fault → o.driven = o.selected) ∧
      (s.bsv.stage ≠ .fault → o.driven = if c.drive = .onOff ∧ level < 255 then 0 else level) ∧
      o.driven ≤ o.selected ∧
      (o.driven = 0 → o.pin = .released) ∧
      (0 < o.driven → c.drive = .pwm → o.pin = .pwm o.driven) ∧ (0 < o.driven → c.drive = .onOff → o.pin = .on)

/-! ### The receiver link -/

/-- A complete frame moves the link as the table of R153 says, and restarts the gap timer if it is accepted: a bad frame
breaks a recovery run only; a flagged frame takes a heard link to LOST, where every RADIO row goes to AUTO(FAILSAFE) at
once; a repeat changes no state; a new frame fills the channel table, and while it is not published it reaches no other
block (R2, R10, R150, R152, R153). A frame or byte that ends in a discard leaves the assembler hunting (R149, R158). The
operation record that R10 asks of an AUTO(ASSIST) row is read as an ASSIST_HAUL one (assumption log, entry 60). -/
def Obligations.FrameMovesLink : Prop :=
  (∀ (bytes : List Byte) (f : ReceiverFrame) (s : State), receiverFrameOf bytes = some f →
    (f.crc ≠ crc8 f.checked →
      exec (.channelFrame bytes) s = .next { s with rxl := { s.rxl with
        assembler := .hunting, run := if s.rxl.link = .recovering then 0 else s.rxl.run } }) ∧
    (f.crc = crc8 f.checked → f.failsafe = true →
      (s.rxl.link = .absent →
        exec (.channelFrame bytes) s = .next { s with rxl := { s.rxl with assembler := .hunting } }) ∧
      (s.rxl.link = .lost →
        exec (.channelFrame bytes) s =
          .next { s with rxl := { s.rxl with assembler := .hunting, gap := s.gapRestarted } }) ∧
      (s.rxl.link ≠ .absent → s.rxl.link ≠ .lost →
        exec (.channelFrame bytes) s = .next { s with
          rxl := { s.rxl with
            link := .lost, assembler := .hunting, gap := s.gapRestarted
            run := if s.rxl.link = .recovering then 0 else s.rxl.run }
          au := s.lostRows })) ∧
    (f.crc = crc8 f.checked → f.failsafe = false → s.rxl.lastCounter = some f.counter →
      exec (.channelFrame bytes) s = .next { s with rxl := { s.rxl with
        assembler := .hunting, gap := if s.rxl.link = .absent then s.rxl.gap else s.gapRestarted } }) ∧
    (f.crc = crc8 f.checked → f.failsafe = false → s.rxl.lastCounter ≠ some f.counter →
      ∃ t, exec (.channelFrame bytes) s = .next t ∧ t.rxl.slots.length = 12 ∧
        (∀ k < 12, t.rxl.slots[k]? = some ((f.values[k]?).map (min 2000))) ∧ t.rxl.channels = f.values.length ∧
        t.rxl.lastCounter = some f.counter ∧ t.rxl.gap = s.gapRestarted ∧ t.rxl.assembler = .hunting ∧
        (s.rxl.link ∈ [LinkState.absent, .live, .hold] → t.rxl.link = .live ∧ t.rxl.run = s.rxl.run) ∧
        (s.rxl.link = .lost → t.rxl.link = .recovering ∧ t.rxl.run = 1) ∧
        (s.rxl.link = .recovering → (∃ g, s.rxl.gap = some g ∧ g.holdPassed = true) →
          t.rxl.link = .recovering ∧ t.rxl.run = 1) ∧
        (s.rxl.link = .recovering → (∀ g, s.rxl.gap = some g → g.holdPassed = false) →
          (s.rxl.run < 2 → t.rxl.link = .recovering ∧ t.rxl.run = s.rxl.run + 1) ∧
          (2 ≤ s.rxl.run → t.rxl.link = .live ∧ t.rxl.run = 0)) ∧
        (t.rxl.link ≠ .live → t.rxl.published = s.rxl.published ∧ t = { s with rxl := t.rxl }))) ∧
  (∀ (why : ReceiverDiscard) (s : State),
    exec (.receiverFrameDiscard why) s = .next { s with rxl := { s.rxl with assembler := .hunting } }) ∧
  (∀ s : State, exec .rxlByteGapTimeout s = .next { s with rxl := { s.rxl with assembler := .hunting } }) ∧
  (∀ (why : PitDiscard) (s : State),
    exec (.pitFrameDiscard why) s = .next { s with pli := { s.pli with assembler := .hunting } }) ∧
  ∀ s : State, exec .pitByteGapTimeout s = .next { s with pli := { s.pli with assembler := .hunting } }

/-- A new frame in LIVE publishes the six commands, normalized (R154 to R156), and they reach each row: a RADIO row takes its
command or, its binding no longer live, goes to NONE; a NONE row without a pending holder whose binding is live goes to
RADIO; the throttle beyond 300 takes back an assist; the stick leaving neutral takes back a PIT winch and ends its
operation with RADIO_TAKEOVER, and the end of an assisted haul gives DRIVE its pending holder; PIT rows otherwise keep their
entries. The lights switch sets its scene once, and an enabled source wakes a PARKED part (R3, R9, R16 to R18, R43, R127,
R136). A binding that was not live presents no neutral stick (assumption log, entry 17), a NONE row with a pending AUTO(ASSIST)
is not adopted, and DRIVE is judged before WINCH (entries 16 and 55); the steer mode list is looked up at the frame (entry
18). -/
def Obligations.PublishedFrameReachesRows : Prop :=
  ∀ (bytes : List Byte) (f : ReceiverFrame) (s : State), receiverFrameOf bytes = some f → f.crc = crc8 f.checked →
    f.failsafe = false → s.rxl.lastCounter ≠ some f.counter → s.rxl.link = .live →
    ∃ t, exec (.channelFrame bytes) s = .next t ∧ s.FramePublished t ∧
      (∀ kept : Option PendingHolder,
        kept = (if s.au.drive.pending = some .assist ∧ s.assistTakenOver t.rxl.published.winch = true then none
          else s.au.drive.pending) →
        (s.au.drive.holder = .radio → t.rxl.published.throttle = none →
          t.au.drive = ⟨.noParty, kept, false⟩ ∧ t.au.image.drive = ⟨.command, 0⟩) ∧
        (∀ v, s.au.drive.holder = .radio → t.rxl.published.throttle = some v →
          t.au.drive.holder = .radio ∧ t.au.image.drive = ⟨.command, v⟩ ∧
            t.au.drive.pending = if v ≠ 0 ∧ s.au.drive.pending = some .assist then none else kept) ∧
        (s.au.drive.holder = .noParty → s.au.drive.pending ≠ none ∨ t.rxl.published.throttle = none →
          t.au.drive = { s.au.drive with pending := kept } ∧ t.au.image.drive = s.au.image.drive) ∧
        (s.au.drive.holder ∈ [Holder.pit, .auto .failsafe] →
          t.au.drive = { s.au.drive with pending := kept } ∧ t.au.image.drive = s.au.image.drive)) ∧
      (∀ v, s.au.drive.holder = .noParty → s.au.drive.pending = none → t.rxl.published.throttle = some v →
        t.au.drive = ⟨.radio, none, false⟩ ∧ t.au.image.drive = ⟨.command, v⟩ ∧ t.drc.armed = false) ∧
      (s.au.drive.holder = .auto .assist → t.au.image.drive = s.au.image.drive ∧
        (∀ v, t.rxl.published.throttle = some v → 300 < v.natAbs →
          t.au.drive = { s.au.drive with pending := some .radio }) ∧
        ((∀ v, t.rxl.published.throttle = some v → v.natAbs ≤ 300) →
          (s.assistTakenOver t.rxl.published.winch = false → t.au.drive = s.au.drive) ∧
          (s.assistTakenOver t.rxl.published.winch = true →
            t.au.drive = s.au.drive.afterAssist t.rxl.published.throttle.isSome))) ∧
      (s.au.steer.holder = .radio → t.rxl.published.steer = none →
        t.au.steer = ⟨.noParty, s.au.steer.pending, false⟩ ∧
          t.au.image.steer = ⟨0, false, s.au.image.steer.mode⟩) ∧
      (∀ v, s.au.steer.holder = .radio ∨ s.au.steer.holder = .noParty ∧ s.au.steer.pending = none →
        t.rxl.published.steer = some v →
        t.au.steer.holder = .radio ∧ t.au.image.steer = ⟨v, false, match t.rxl.published.steerMode with
          | some i => s.pst.working.stc.modeList.get i
          | none => s.au.image.steer.mode⟩) ∧
      (s.au.steer.holder ∈ [Holder.pit, .auto .failsafe] → t.au.steer = s.au.steer ∧ t.au.image.steer = s.au.image.steer) ∧
      (s.au.gear.holder = .radio → t.rxl.published.gear = none →
        t.au.gear = ⟨.noParty, s.au.gear.pending, false⟩ ∧ t.au.image.gear = none) ∧
      (∀ i, s.au.gear.holder = .radio ∨ s.au.gear.holder = .noParty ∧ s.au.gear.pending = none →
        t.rxl.published.gear = some i →
        t.au.gear.holder = .radio ∧
          t.au.image.gear = some (if i = 0 then .high else if i = 1 then .low else .dig)) ∧
      (s.au.gear.holder ∈ [Holder.pit, .auto .failsafe] → t.au.gear = s.au.gear ∧ t.au.image.gear = s.au.image.gear) ∧
      (s.au.winch.holder = .radio → t.rxl.published.winch = none →
        t.au.winch = ⟨.noParty, none, false⟩ ∧ t.au.image.winch = ⟨.hold, 0⟩) ∧
      (∀ v, s.au.winch.holder = .radio ∨ s.au.winch.holder = .noParty ∧ s.au.winch.pending = none →
        t.rxl.published.winch = some v → t.au.winch.holder = .radio ∧ t.au.image.winch = ⟨.speed, v⟩) ∧
      (s.au.winch.holder = .pit → ∀ takes : Prop,
        (takes ↔ s.au.winch.pending = none ∧ s.rxl.published.winch = some 0 ∧
          ∃ v, t.rxl.published.winch = some v ∧ v ≠ 0) →
        (takes →
          t.au.winch = { s.au.winch with pending := some .radio } ∧ t.au.winchTimer = true ∧ t.wnc.record = none ∧
            (s.wnc.record ≠ none → t.au.image.winch = ⟨.hold, 0⟩ ∧ t.wnc.present = 0) ∧
            ∀ r, s.wnc.record = some r → t.pli = s.pli.withResult r (some .radioTakeover) ∧
              (r.kind = .assistHaul → t.stc.restraint = false)) ∧
        (¬takes → t.au.winch = s.au.winch ∧ t.au.winchTimer = s.au.winchTimer ∧ t.au.image.winch = s.au.image.winch ∧
          t.wnc = s.wnc ∧ t.pli = s.pli))

/-- The entry to LIVE by a new frame, from ABSENT, from HOLD, or from RECOVERING when it completes the run in time: every PIT and
AUTO(FAILSAFE) row is given pending RADIO and keeps its entry until its boundary, which ends an operation in flight with
RADIO_TAKEOVER and starts the winch boundary timer; RADIO takes the NONE rows whose binding is live and its own rows follow
the frame, or go to NONE where their binding is no longer live, as at a re-entry from HOLD; a NONE row that the radio cannot
take stays NONE. The six commands are those of the entering frame, normalized, and its lights switch and its wake sources act
as at any published frame. An adopted DRIVE row keeps a pending AUTO(ASSIST), unless the same
frame brings a throttle other than 0 or takes the winch and so ends the assisted haul, and an AUTO(ASSIST) row is given its
pending holder as at any published frame (R2, R8, R9, R17, R18, R43, R127, R136, R153 to R156). That a pending RADIO of an
adopted row is cleared, and that the throttle of the adopting frame counts, are the model's readings (assumption log, entry
15); the steer mode list is looked up at the frame (entry 18). -/
def Obligations.EntryToLiveGivesRows : Prop :=
  ∀ (bytes : List Byte) (f : ReceiverFrame) (s : State), receiverFrameOf bytes = some f → f.crc = crc8 f.checked →
    f.failsafe = false → s.rxl.lastCounter ≠ some f.counter →
    s.rxl.link = .absent ∨ s.rxl.link = .hold ∨
      s.rxl.link = .recovering ∧ 2 ≤ s.rxl.run ∧ (∀ g, s.rxl.gap = some g → g.holdPassed = false) →
    ∃ t, exec (.channelFrame bytes) s = .next t ∧ t.rxl.link = .live ∧ s.FramePublished t ∧
      (s.au.drive.holder ∈ [Holder.pit, .auto .failsafe] →
        t.au.drive = { s.au.drive with pending := some .radio } ∧ t.au.image.drive = s.au.image.drive) ∧
      (s.au.steer.holder ∈ [Holder.pit, .auto .failsafe] →
        t.au.steer = { s.au.steer with pending := some .radio } ∧ t.au.image.steer = s.au.image.steer) ∧
      (s.au.gear.holder ∈ [Holder.pit, .auto .failsafe] →
        t.au.gear = { s.au.gear with pending := some .radio } ∧ t.au.image.gear = s.au.image.gear) ∧
      (s.au.winch.holder ∈ [Holder.pit, .auto .failsafe] →
        t.au.winch = { s.au.winch with pending := some .radio } ∧ t.wnc.record = none ∧
          (s.au.winch.pending = none → t.au.winchTimer = true) ∧
          ∀ r, s.wnc.record = some r → t.pli = s.pli.withResult r (some .radioTakeover) ∧ t.wnc.present = 0 ∧
            (s.au.winch.holder = .pit → t.au.image.winch = ⟨.hold, 0⟩)) ∧
      (∀ v, s.au.drive.holder ∈ [Holder.noParty, .radio] → t.rxl.published.throttle = some v →
        t.au.drive.holder = .radio ∧ t.au.image.drive = ⟨.command, v⟩ ∧
          (s.au.drive.holder = .noParty → t.drc.armed = false) ∧
          (s.au.drive.pending = some .assist →
            t.au.drive.pending = if v = 0 ∧ s.assistCutShort = false then some .assist else none) ∧
          (s.au.drive.pending ≠ some .assist → s.au.drive.holder = .noParty → t.au.drive.pending = none)) ∧
      (s.au.drive.holder = .auto .assist → t.au.image.drive = s.au.image.drive ∧
        (∀ v, t.rxl.published.throttle = some v → 300 < v.natAbs →
          t.au.drive = { s.au.drive with pending := some .radio }) ∧
        ((∀ v, t.rxl.published.throttle = some v → v.natAbs ≤ 300) →
          (s.assistCutShort = false → t.au.drive = s.au.drive) ∧
          (s.assistCutShort = true → t.au.drive = s.au.drive.afterAssist t.rxl.published.throttle.isSome))) ∧
      (∀ v, s.au.steer.holder ∈ [Holder.noParty, .radio] → t.rxl.published.steer = some v →
        t.au.steer.holder = .radio ∧ t.au.image.steer = ⟨v, false, match t.rxl.published.steerMode with
          | some i => s.pst.working.stc.modeList.get i
          | none => s.au.image.steer.mode⟩) ∧
      (∀ i, s.au.gear.holder ∈ [Holder.noParty, .radio] → t.rxl.published.gear = some i →
        t.au.gear.holder = .radio ∧
          t.au.image.gear = some (if i = 0 then .high else if i = 1 then .low else .dig)) ∧
      (∀ v, s.au.winch.holder ∈ [Holder.noParty, .radio] → t.rxl.published.winch = some v →
        t.au.winch.holder = .radio ∧ t.au.image.winch = ⟨.speed, v⟩) ∧
      (s.au.drive.holder = .noParty → t.rxl.published.throttle = none →
        t.au.drive = ⟨.noParty,
          if s.au.drive.pending = some .assist ∧ s.assistCutShort = true then none else s.au.drive.pending,
          s.au.drive.deadline⟩ ∧ t.au.image.drive = s.au.image.drive) ∧
      (s.au.steer.holder = .noParty → t.rxl.published.steer = none →
        t.au.steer = s.au.steer ∧ t.au.image.steer = s.au.image.steer) ∧
      (s.au.gear.holder = .noParty → t.rxl.published.gear = none →
        t.au.gear = s.au.gear ∧ t.au.image.gear = s.au.image.gear) ∧
      (s.au.winch.holder = .noParty → t.rxl.published.winch = none →
        t.au.winch = s.au.winch ∧ t.au.image.winch = s.au.image.winch) ∧
      (s.au.drive.holder = .radio → t.rxl.published.throttle = none →
        t.au.drive = ⟨.noParty,
          if s.au.drive.pending = some .assist ∧ s.assistCutShort = true then none else s.au.drive.pending, false⟩ ∧
          t.au.image.drive = ⟨.command, 0⟩) ∧
      (s.au.steer.holder = .radio → t.rxl.published.steer = none →
        t.au.steer = ⟨.noParty, s.au.steer.pending, false⟩ ∧
          t.au.image.steer = ⟨0, false, s.au.image.steer.mode⟩) ∧
      (s.au.gear.holder = .radio → t.rxl.published.gear = none →
        t.au.gear = ⟨.noParty, s.au.gear.pending, false⟩ ∧ t.au.image.gear = none) ∧
      (s.au.winch.holder = .radio → t.rxl.published.winch = none →
        t.au.winch = ⟨.noParty, none, false⟩ ∧ t.au.image.winch = ⟨.hold, 0⟩)

/-! ### Replies -/

/-- A reply is transmitted once the assembler is not in the middle of a frame: the first owed reply, else the reply that
became ready first, framed as requests are; a GOOD RESET entry in it makes the reset wait for this transmission. With
nothing ready, or in the middle of a frame, nothing is sent (R158, R161, R162). That one step sends a whole reply is the
model's choice (assumption log, entry 12). -/
def Obligations.ReplyTransmitted : Prop :=
  ∀ s : State,
    (s.pli.ready = [] ∨ s.pli.assembler ≠ .hunting → exec .replyTransmit s = .next s) ∧
    ∀ (l1 l2 : List Reply) (r : Reply) (body : List Byte), s.pli.assembler = .hunting → s.pli.ready = l1 ++ r :: l2 →
      (r.owed = true ∧ (∀ x ∈ l1, x.owed = false) ∨ l1 = [] ∧ ∀ x ∈ r :: l2, x.owed = false) →
      body = r.entries.flatMap (fun e =>
        [e.code, (match e.status with
          | .good => 0
          | .check => 1
          | .busy => 2
          | .skipped => 3 : Byte), BitVec.ofNat 8 e.data.length] ++ e.data) →
      exec .replyTransmit s = .next { s with pli := { s.pli with
        ready := l1 ++ l2
        lastSent := [0x5C, BitVec.ofNat 8 body.length] ++ body ++
          [(crc16 (BitVec.ofNat 8 body.length :: body)).truncate 8,
            ((crc16 (BitVec.ofNat 8 body.length :: body)) >>> 8).truncate 8]
        resetAwaited := s.pli.resetAwaited || r.entries.any fun e => e.code = 0x51 && e.status = .good } }

end Statements
end

