-- ==== Sys2Proof/Laws/State.lean ====
section
/-! SUPPORT. One lemma for each field of the state under each update of one block, so that no proof unfolds a record
update. -/

namespace Sys2Proof.Machine

@[simp] theorem State.setRxl_rxl (s : State) b : (s.setRxl b).rxl = b := rfl
@[simp] theorem State.setRxl_au (s : State) b : (s.setRxl b).au = s.au := rfl
@[simp] theorem State.setRxl_bsv (s : State) b : (s.setRxl b).bsv = s.bsv := rfl
@[simp] theorem State.setRxl_bga (s : State) b : (s.setRxl b).bga = s.bga := rfl
@[simp] theorem State.setRxl_stc (s : State) b : (s.setRxl b).stc = s.stc := rfl
@[simp] theorem State.setRxl_drc (s : State) b : (s.setRxl b).drc = s.drc := rfl
@[simp] theorem State.setRxl_wnc (s : State) b : (s.setRxl b).wnc = s.wnc := rfl
@[simp] theorem State.setRxl_ltc (s : State) b : (s.setRxl b).ltc = s.ltc := rfl
@[simp] theorem State.setRxl_pli (s : State) b : (s.setRxl b).pli = s.pli := rfl
@[simp] theorem State.setRxl_pst (s : State) b : (s.setRxl b).pst = s.pst := rfl
@[simp] theorem State.setRxl_free (s : State) b : (s.setRxl b).free = s.free := rfl
@[simp] theorem State.setRxl_pending (s : State) b : (s.setRxl b).pending = s.pending := rfl
@[simp] theorem State.setRxl_w (s : State) b : (s.setRxl b).w = s.w := rfl

@[simp] theorem State.setAu_rxl (s : State) b : (s.setAu b).rxl = s.rxl := rfl
@[simp] theorem State.setAu_au (s : State) b : (s.setAu b).au = b := rfl
@[simp] theorem State.setAu_bsv (s : State) b : (s.setAu b).bsv = s.bsv := rfl
@[simp] theorem State.setAu_bga (s : State) b : (s.setAu b).bga = s.bga := rfl
@[simp] theorem State.setAu_stc (s : State) b : (s.setAu b).stc = s.stc := rfl
@[simp] theorem State.setAu_drc (s : State) b : (s.setAu b).drc = s.drc := rfl
@[simp] theorem State.setAu_wnc (s : State) b : (s.setAu b).wnc = s.wnc := rfl
@[simp] theorem State.setAu_ltc (s : State) b : (s.setAu b).ltc = s.ltc := rfl
@[simp] theorem State.setAu_pli (s : State) b : (s.setAu b).pli = s.pli := rfl
@[simp] theorem State.setAu_pst (s : State) b : (s.setAu b).pst = s.pst := rfl
@[simp] theorem State.setAu_free (s : State) b : (s.setAu b).free = s.free := rfl
@[simp] theorem State.setAu_pending (s : State) b : (s.setAu b).pending = s.pending := rfl
@[simp] theorem State.setAu_w (s : State) b : (s.setAu b).w = s.w := rfl

@[simp] theorem State.setBsv_rxl (s : State) b : (s.setBsv b).rxl = s.rxl := rfl
@[simp] theorem State.setBsv_au (s : State) b : (s.setBsv b).au = s.au := rfl
@[simp] theorem State.setBsv_bsv (s : State) b : (s.setBsv b).bsv = b := rfl
@[simp] theorem State.setBsv_bga (s : State) b : (s.setBsv b).bga = s.bga := rfl
@[simp] theorem State.setBsv_stc (s : State) b : (s.setBsv b).stc = s.stc := rfl
@[simp] theorem State.setBsv_drc (s : State) b : (s.setBsv b).drc = s.drc := rfl
@[simp] theorem State.setBsv_wnc (s : State) b : (s.setBsv b).wnc = s.wnc := rfl
@[simp] theorem State.setBsv_ltc (s : State) b : (s.setBsv b).ltc = s.ltc := rfl
@[simp] theorem State.setBsv_pli (s : State) b : (s.setBsv b).pli = s.pli := rfl
@[simp] theorem State.setBsv_pst (s : State) b : (s.setBsv b).pst = s.pst := rfl
@[simp] theorem State.setBsv_free (s : State) b : (s.setBsv b).free = s.free := rfl
@[simp] theorem State.setBsv_pending (s : State) b : (s.setBsv b).pending = s.pending := rfl
@[simp] theorem State.setBsv_w (s : State) b : (s.setBsv b).w = s.w := rfl

@[simp] theorem State.setBga_rxl (s : State) b : (s.setBga b).rxl = s.rxl := rfl
@[simp] theorem State.setBga_au (s : State) b : (s.setBga b).au = s.au := rfl
@[simp] theorem State.setBga_bsv (s : State) b : (s.setBga b).bsv = s.bsv := rfl
@[simp] theorem State.setBga_bga (s : State) b : (s.setBga b).bga = b := rfl
@[simp] theorem State.setBga_stc (s : State) b : (s.setBga b).stc = s.stc := rfl
@[simp] theorem State.setBga_drc (s : State) b : (s.setBga b).drc = s.drc := rfl
@[simp] theorem State.setBga_wnc (s : State) b : (s.setBga b).wnc = s.wnc := rfl
@[simp] theorem State.setBga_ltc (s : State) b : (s.setBga b).ltc = s.ltc := rfl
@[simp] theorem State.setBga_pli (s : State) b : (s.setBga b).pli = s.pli := rfl
@[simp] theorem State.setBga_pst (s : State) b : (s.setBga b).pst = s.pst := rfl
@[simp] theorem State.setBga_free (s : State) b : (s.setBga b).free = s.free := rfl
@[simp] theorem State.setBga_pending (s : State) b : (s.setBga b).pending = s.pending := rfl
@[simp] theorem State.setBga_w (s : State) b : (s.setBga b).w = s.w := rfl

@[simp] theorem State.setStc_rxl (s : State) b : (s.setStc b).rxl = s.rxl := rfl
@[simp] theorem State.setStc_au (s : State) b : (s.setStc b).au = s.au := rfl
@[simp] theorem State.setStc_bsv (s : State) b : (s.setStc b).bsv = s.bsv := rfl
@[simp] theorem State.setStc_bga (s : State) b : (s.setStc b).bga = s.bga := rfl
@[simp] theorem State.setStc_stc (s : State) b : (s.setStc b).stc = b := rfl
@[simp] theorem State.setStc_drc (s : State) b : (s.setStc b).drc = s.drc := rfl
@[simp] theorem State.setStc_wnc (s : State) b : (s.setStc b).wnc = s.wnc := rfl
@[simp] theorem State.setStc_ltc (s : State) b : (s.setStc b).ltc = s.ltc := rfl
@[simp] theorem State.setStc_pli (s : State) b : (s.setStc b).pli = s.pli := rfl
@[simp] theorem State.setStc_pst (s : State) b : (s.setStc b).pst = s.pst := rfl
@[simp] theorem State.setStc_free (s : State) b : (s.setStc b).free = s.free := rfl
@[simp] theorem State.setStc_pending (s : State) b : (s.setStc b).pending = s.pending := rfl
@[simp] theorem State.setStc_w (s : State) b : (s.setStc b).w = s.w := rfl

@[simp] theorem State.setDrc_rxl (s : State) b : (s.setDrc b).rxl = s.rxl := rfl
@[simp] theorem State.setDrc_au (s : State) b : (s.setDrc b).au = s.au := rfl
@[simp] theorem State.setDrc_bsv (s : State) b : (s.setDrc b).bsv = s.bsv := rfl
@[simp] theorem State.setDrc_bga (s : State) b : (s.setDrc b).bga = s.bga := rfl
@[simp] theorem State.setDrc_stc (s : State) b : (s.setDrc b).stc = s.stc := rfl
@[simp] theorem State.setDrc_drc (s : State) b : (s.setDrc b).drc = b := rfl
@[simp] theorem State.setDrc_wnc (s : State) b : (s.setDrc b).wnc = s.wnc := rfl
@[simp] theorem State.setDrc_ltc (s : State) b : (s.setDrc b).ltc = s.ltc := rfl
@[simp] theorem State.setDrc_pli (s : State) b : (s.setDrc b).pli = s.pli := rfl
@[simp] theorem State.setDrc_pst (s : State) b : (s.setDrc b).pst = s.pst := rfl
@[simp] theorem State.setDrc_free (s : State) b : (s.setDrc b).free = s.free := rfl
@[simp] theorem State.setDrc_pending (s : State) b : (s.setDrc b).pending = s.pending := rfl
@[simp] theorem State.setDrc_w (s : State) b : (s.setDrc b).w = s.w := rfl

@[simp] theorem State.setWnc_rxl (s : State) b : (s.setWnc b).rxl = s.rxl := rfl
@[simp] theorem State.setWnc_au (s : State) b : (s.setWnc b).au = s.au := rfl
@[simp] theorem State.setWnc_bsv (s : State) b : (s.setWnc b).bsv = s.bsv := rfl
@[simp] theorem State.setWnc_bga (s : State) b : (s.setWnc b).bga = s.bga := rfl
@[simp] theorem State.setWnc_stc (s : State) b : (s.setWnc b).stc = s.stc := rfl
@[simp] theorem State.setWnc_drc (s : State) b : (s.setWnc b).drc = s.drc := rfl
@[simp] theorem State.setWnc_wnc (s : State) b : (s.setWnc b).wnc = b := rfl
@[simp] theorem State.setWnc_ltc (s : State) b : (s.setWnc b).ltc = s.ltc := rfl
@[simp] theorem State.setWnc_pli (s : State) b : (s.setWnc b).pli = s.pli := rfl
@[simp] theorem State.setWnc_pst (s : State) b : (s.setWnc b).pst = s.pst := rfl
@[simp] theorem State.setWnc_free (s : State) b : (s.setWnc b).free = s.free := rfl
@[simp] theorem State.setWnc_pending (s : State) b : (s.setWnc b).pending = s.pending := rfl
@[simp] theorem State.setWnc_w (s : State) b : (s.setWnc b).w = s.w := rfl

@[simp] theorem State.setLtc_rxl (s : State) b : (s.setLtc b).rxl = s.rxl := rfl
@[simp] theorem State.setLtc_au (s : State) b : (s.setLtc b).au = s.au := rfl
@[simp] theorem State.setLtc_bsv (s : State) b : (s.setLtc b).bsv = s.bsv := rfl
@[simp] theorem State.setLtc_bga (s : State) b : (s.setLtc b).bga = s.bga := rfl
@[simp] theorem State.setLtc_stc (s : State) b : (s.setLtc b).stc = s.stc := rfl
@[simp] theorem State.setLtc_drc (s : State) b : (s.setLtc b).drc = s.drc := rfl
@[simp] theorem State.setLtc_wnc (s : State) b : (s.setLtc b).wnc = s.wnc := rfl
@[simp] theorem State.setLtc_ltc (s : State) b : (s.setLtc b).ltc = b := rfl
@[simp] theorem State.setLtc_pli (s : State) b : (s.setLtc b).pli = s.pli := rfl
@[simp] theorem State.setLtc_pst (s : State) b : (s.setLtc b).pst = s.pst := rfl
@[simp] theorem State.setLtc_free (s : State) b : (s.setLtc b).free = s.free := rfl
@[simp] theorem State.setLtc_pending (s : State) b : (s.setLtc b).pending = s.pending := rfl
@[simp] theorem State.setLtc_w (s : State) b : (s.setLtc b).w = s.w := rfl

@[simp] theorem State.setPli_rxl (s : State) b : (s.setPli b).rxl = s.rxl := rfl
@[simp] theorem State.setPli_au (s : State) b : (s.setPli b).au = s.au := rfl
@[simp] theorem State.setPli_bsv (s : State) b : (s.setPli b).bsv = s.bsv := rfl
@[simp] theorem State.setPli_bga (s : State) b : (s.setPli b).bga = s.bga := rfl
@[simp] theorem State.setPli_stc (s : State) b : (s.setPli b).stc = s.stc := rfl
@[simp] theorem State.setPli_drc (s : State) b : (s.setPli b).drc = s.drc := rfl
@[simp] theorem State.setPli_wnc (s : State) b : (s.setPli b).wnc = s.wnc := rfl
@[simp] theorem State.setPli_ltc (s : State) b : (s.setPli b).ltc = s.ltc := rfl
@[simp] theorem State.setPli_pli (s : State) b : (s.setPli b).pli = b := rfl
@[simp] theorem State.setPli_pst (s : State) b : (s.setPli b).pst = s.pst := rfl
@[simp] theorem State.setPli_free (s : State) b : (s.setPli b).free = s.free := rfl
@[simp] theorem State.setPli_pending (s : State) b : (s.setPli b).pending = s.pending := rfl
@[simp] theorem State.setPli_w (s : State) b : (s.setPli b).w = s.w := rfl

@[simp] theorem State.setPst_rxl (s : State) b : (s.setPst b).rxl = s.rxl := rfl
@[simp] theorem State.setPst_au (s : State) b : (s.setPst b).au = s.au := rfl
@[simp] theorem State.setPst_bsv (s : State) b : (s.setPst b).bsv = s.bsv := rfl
@[simp] theorem State.setPst_bga (s : State) b : (s.setPst b).bga = s.bga := rfl
@[simp] theorem State.setPst_stc (s : State) b : (s.setPst b).stc = s.stc := rfl
@[simp] theorem State.setPst_drc (s : State) b : (s.setPst b).drc = s.drc := rfl
@[simp] theorem State.setPst_wnc (s : State) b : (s.setPst b).wnc = s.wnc := rfl
@[simp] theorem State.setPst_ltc (s : State) b : (s.setPst b).ltc = s.ltc := rfl
@[simp] theorem State.setPst_pli (s : State) b : (s.setPst b).pli = s.pli := rfl
@[simp] theorem State.setPst_pst (s : State) b : (s.setPst b).pst = b := rfl
@[simp] theorem State.setPst_free (s : State) b : (s.setPst b).free = s.free := rfl
@[simp] theorem State.setPst_pending (s : State) b : (s.setPst b).pending = s.pending := rfl
@[simp] theorem State.setPst_w (s : State) b : (s.setPst b).w = b.working := rfl

@[simp] theorem State.setPending_rxl (s : State) b : (s.setPending b).rxl = s.rxl := rfl
@[simp] theorem State.setPending_au (s : State) b : (s.setPending b).au = s.au := rfl
@[simp] theorem State.setPending_bsv (s : State) b : (s.setPending b).bsv = s.bsv := rfl
@[simp] theorem State.setPending_bga (s : State) b : (s.setPending b).bga = s.bga := rfl
@[simp] theorem State.setPending_stc (s : State) b : (s.setPending b).stc = s.stc := rfl
@[simp] theorem State.setPending_drc (s : State) b : (s.setPending b).drc = s.drc := rfl
@[simp] theorem State.setPending_wnc (s : State) b : (s.setPending b).wnc = s.wnc := rfl
@[simp] theorem State.setPending_ltc (s : State) b : (s.setPending b).ltc = s.ltc := rfl
@[simp] theorem State.setPending_pli (s : State) b : (s.setPending b).pli = s.pli := rfl
@[simp] theorem State.setPending_pst (s : State) b : (s.setPending b).pst = s.pst := rfl
@[simp] theorem State.setPending_free (s : State) b : (s.setPending b).free = s.free := rfl
@[simp] theorem State.setPending_pending (s : State) b : (s.setPending b).pending = b := rfl
@[simp] theorem State.setPending_w (s : State) b : (s.setPending b).w = s.w := rfl

@[simp] theorem State.drawn_rxl (s : State) : s.drawn.rxl = s.rxl := rfl
@[simp] theorem State.drawn_au (s : State) : s.drawn.au = s.au := rfl
@[simp] theorem State.drawn_bsv (s : State) : s.drawn.bsv = s.bsv := rfl
@[simp] theorem State.drawn_bga (s : State) : s.drawn.bga = s.bga := rfl
@[simp] theorem State.drawn_stc (s : State) : s.drawn.stc = s.stc := rfl
@[simp] theorem State.drawn_drc (s : State) : s.drawn.drc = s.drc := rfl
@[simp] theorem State.drawn_wnc (s : State) : s.drawn.wnc = s.wnc := rfl
@[simp] theorem State.drawn_ltc (s : State) : s.drawn.ltc = s.ltc := rfl
@[simp] theorem State.drawn_pli (s : State) : s.drawn.pli = s.pli := rfl
@[simp] theorem State.drawn_pst (s : State) : s.drawn.pst = s.pst := rfl
@[simp] theorem State.drawn_free (s : State) : s.drawn.free = s.free + 1 := rfl
@[simp] theorem State.drawn_pending (s : State) : s.drawn.pending = s.pending := rfl
@[simp] theorem State.drawn_w (s : State) : s.drawn.w = s.w := rfl

@[simp] theorem State.drawnIf_rxl (s : State) (c : Bool) : (s.drawnIf c).rxl = s.rxl := by cases c <;> rfl
@[simp] theorem State.drawnIf_au (s : State) (c : Bool) : (s.drawnIf c).au = s.au := by cases c <;> rfl
@[simp] theorem State.drawnIf_bsv (s : State) (c : Bool) : (s.drawnIf c).bsv = s.bsv := by cases c <;> rfl
@[simp] theorem State.drawnIf_bga (s : State) (c : Bool) : (s.drawnIf c).bga = s.bga := by cases c <;> rfl
@[simp] theorem State.drawnIf_stc (s : State) (c : Bool) : (s.drawnIf c).stc = s.stc := by cases c <;> rfl
@[simp] theorem State.drawnIf_drc (s : State) (c : Bool) : (s.drawnIf c).drc = s.drc := by cases c <;> rfl
@[simp] theorem State.drawnIf_wnc (s : State) (c : Bool) : (s.drawnIf c).wnc = s.wnc := by cases c <;> rfl
@[simp] theorem State.drawnIf_ltc (s : State) (c : Bool) : (s.drawnIf c).ltc = s.ltc := by cases c <;> rfl
@[simp] theorem State.drawnIf_pli (s : State) (c : Bool) : (s.drawnIf c).pli = s.pli := by cases c <;> rfl
@[simp] theorem State.drawnIf_pst (s : State) (c : Bool) : (s.drawnIf c).pst = s.pst := by cases c <;> rfl
@[simp] theorem State.drawnIf_pending (s : State) (c : Bool) : (s.drawnIf c).pending = s.pending := by cases c <;> rfl
@[simp] theorem State.drawnIf_w (s : State) (c : Bool) : (s.drawnIf c).w = s.w := by cases c <;> rfl
@[simp] theorem State.drawnIf_false (s : State) : s.drawnIf false = s := rfl
@[simp] theorem State.drawnIf_true (s : State) : s.drawnIf true = s.drawn := rfl

end Sys2Proof.Machine
end

