-- ==== Sys2Proof/Laws/Ops.lean ====
section
/-! SUPPORT. What each shared operation of Machine/Ops.lean can do: the blocks it leaves as they were, and its effect said
once. -/

namespace Sys2Proof.Machine

@[simp] theorem State.beginPackSave_rxl (s : State) : (s.beginPackSave).rxl = s.rxl := by
  unfold State.beginPackSave; repeat (first | rfl | split | simp)
@[simp] theorem State.beginPackSave_au (s : State) : (s.beginPackSave).au = s.au := by
  unfold State.beginPackSave; repeat (first | rfl | split | simp)
@[simp] theorem State.beginPackSave_bsv (s : State) : (s.beginPackSave).bsv = s.bsv := by
  unfold State.beginPackSave; repeat (first | rfl | split | simp)
@[simp] theorem State.beginPackSave_bga (s : State) : (s.beginPackSave).bga = s.bga := by
  unfold State.beginPackSave; repeat (first | rfl | split | simp)
@[simp] theorem State.beginPackSave_stc (s : State) : (s.beginPackSave).stc = s.stc := by
  unfold State.beginPackSave; repeat (first | rfl | split | simp)
@[simp] theorem State.beginPackSave_drc (s : State) : (s.beginPackSave).drc = s.drc := by
  unfold State.beginPackSave; repeat (first | rfl | split | simp)
@[simp] theorem State.beginPackSave_wnc (s : State) : (s.beginPackSave).wnc = s.wnc := by
  unfold State.beginPackSave; repeat (first | rfl | split | simp)
@[simp] theorem State.beginPackSave_ltc (s : State) : (s.beginPackSave).ltc = s.ltc := by
  unfold State.beginPackSave; repeat (first | rfl | split | simp)
@[simp] theorem State.beginPackSave_pli (s : State) : (s.beginPackSave).pli = s.pli := by
  unfold State.beginPackSave; repeat (first | rfl | split | simp)
@[simp] theorem State.beginPackSave_free (s : State) : (s.beginPackSave).free = s.free := by
  unfold State.beginPackSave; repeat (first | rfl | split | simp)
@[simp] theorem State.beginPackSave_pending (s : State) : (s.beginPackSave).pending = s.pending := by
  unfold State.beginPackSave; repeat (first | rfl | split | simp)

@[simp] theorem State.requestPackSave_rxl (s : State) : (s.requestPackSave).rxl = s.rxl := by
  unfold State.requestPackSave; repeat (first | rfl | split | simp)
@[simp] theorem State.requestPackSave_au (s : State) : (s.requestPackSave).au = s.au := by
  unfold State.requestPackSave; repeat (first | rfl | split | simp)
@[simp] theorem State.requestPackSave_bsv (s : State) : (s.requestPackSave).bsv = s.bsv := by
  unfold State.requestPackSave; repeat (first | rfl | split | simp)
@[simp] theorem State.requestPackSave_bga (s : State) : (s.requestPackSave).bga = s.bga := by
  unfold State.requestPackSave; repeat (first | rfl | split | simp)
@[simp] theorem State.requestPackSave_stc (s : State) : (s.requestPackSave).stc = s.stc := by
  unfold State.requestPackSave; repeat (first | rfl | split | simp)
@[simp] theorem State.requestPackSave_drc (s : State) : (s.requestPackSave).drc = s.drc := by
  unfold State.requestPackSave; repeat (first | rfl | split | simp)
@[simp] theorem State.requestPackSave_wnc (s : State) : (s.requestPackSave).wnc = s.wnc := by
  unfold State.requestPackSave; repeat (first | rfl | split | simp)
@[simp] theorem State.requestPackSave_ltc (s : State) : (s.requestPackSave).ltc = s.ltc := by
  unfold State.requestPackSave; repeat (first | rfl | split | simp)
@[simp] theorem State.requestPackSave_pli (s : State) : (s.requestPackSave).pli = s.pli := by
  unfold State.requestPackSave; repeat (first | rfl | split | simp)
@[simp] theorem State.requestPackSave_free (s : State) : (s.requestPackSave).free = s.free := by
  unfold State.requestPackSave; repeat (first | rfl | split | simp)
@[simp] theorem State.requestPackSave_pending (s : State) : (s.requestPackSave).pending = s.pending := by
  unfold State.requestPackSave; repeat (first | rfl | split | simp)

@[simp] theorem State.restartParkTimer_rxl (s : State) : (s.restartParkTimer).rxl = s.rxl := by
  unfold State.restartParkTimer; repeat (first | rfl | split | simp)
@[simp] theorem State.restartParkTimer_au (s : State) : (s.restartParkTimer).au = s.au := by
  unfold State.restartParkTimer; repeat (first | rfl | split | simp)
@[simp] theorem State.restartParkTimer_bga (s : State) : (s.restartParkTimer).bga = s.bga := by
  unfold State.restartParkTimer; repeat (first | rfl | split | simp)
@[simp] theorem State.restartParkTimer_stc (s : State) : (s.restartParkTimer).stc = s.stc := by
  unfold State.restartParkTimer; repeat (first | rfl | split | simp)
@[simp] theorem State.restartParkTimer_drc (s : State) : (s.restartParkTimer).drc = s.drc := by
  unfold State.restartParkTimer; repeat (first | rfl | split | simp)
@[simp] theorem State.restartParkTimer_wnc (s : State) : (s.restartParkTimer).wnc = s.wnc := by
  unfold State.restartParkTimer; repeat (first | rfl | split | simp)
@[simp] theorem State.restartParkTimer_ltc (s : State) : (s.restartParkTimer).ltc = s.ltc := by
  unfold State.restartParkTimer; repeat (first | rfl | split | simp)
@[simp] theorem State.restartParkTimer_pli (s : State) : (s.restartParkTimer).pli = s.pli := by
  unfold State.restartParkTimer; repeat (first | rfl | split | simp)
@[simp] theorem State.restartParkTimer_pst (s : State) : (s.restartParkTimer).pst = s.pst := by
  unfold State.restartParkTimer; repeat (first | rfl | split | simp)
@[simp] theorem State.restartParkTimer_free (s : State) : (s.restartParkTimer).free = s.free := by
  unfold State.restartParkTimer; repeat (first | rfl | split | simp)
@[simp] theorem State.restartParkTimer_pending (s : State) : (s.restartParkTimer).pending = s.pending := by
  unfold State.restartParkTimer; repeat (first | rfl | split | simp)
@[simp] theorem State.restartParkTimer_w (s : State) : (s.restartParkTimer).w = s.w := by simp [State.w]

@[simp] theorem State.enterParked_rxl (s : State) : (s.enterParked).rxl = s.rxl := by
  unfold State.enterParked; repeat (first | rfl | split | simp)
@[simp] theorem State.enterParked_au (s : State) : (s.enterParked).au = s.au := by
  unfold State.enterParked; repeat (first | rfl | split | simp)
@[simp] theorem State.enterParked_bga (s : State) : (s.enterParked).bga = s.bga := by
  unfold State.enterParked; repeat (first | rfl | split | simp)
@[simp] theorem State.enterParked_stc (s : State) : (s.enterParked).stc = s.stc := by
  unfold State.enterParked; repeat (first | rfl | split | simp)
@[simp] theorem State.enterParked_drc (s : State) : (s.enterParked).drc = s.drc := by
  unfold State.enterParked; repeat (first | rfl | split | simp)
@[simp] theorem State.enterParked_wnc (s : State) : (s.enterParked).wnc = s.wnc := by
  unfold State.enterParked; repeat (first | rfl | split | simp)
@[simp] theorem State.enterParked_ltc (s : State) : (s.enterParked).ltc = s.ltc := by
  unfold State.enterParked; repeat (first | rfl | split | simp)
@[simp] theorem State.enterParked_pli (s : State) : (s.enterParked).pli = s.pli := by
  unfold State.enterParked; repeat (first | rfl | split | simp)
@[simp] theorem State.enterParked_free (s : State) : (s.enterParked).free = s.free := by
  unfold State.enterParked; repeat (first | rfl | split | simp)
@[simp] theorem State.enterParked_pending (s : State) : (s.enterParked).pending = s.pending := by
  unfold State.enterParked; repeat (first | rfl | split | simp)

@[simp] theorem State.wake_rxl (s : State) : (s.wake).rxl = s.rxl := by
  unfold State.wake; repeat (first | rfl | split | simp)
@[simp] theorem State.wake_au (s : State) : (s.wake).au = s.au := by
  unfold State.wake; repeat (first | rfl | split | simp)
@[simp] theorem State.wake_bga (s : State) : (s.wake).bga = s.bga := by
  unfold State.wake; repeat (first | rfl | split | simp)
@[simp] theorem State.wake_wnc (s : State) : (s.wake).wnc = s.wnc := by
  unfold State.wake; repeat (first | rfl | split | simp)
@[simp] theorem State.wake_ltc (s : State) : (s.wake).ltc = s.ltc := by
  unfold State.wake; repeat (first | rfl | split | simp)
@[simp] theorem State.wake_pli (s : State) : (s.wake).pli = s.pli := by
  unfold State.wake; repeat (first | rfl | split | simp)
@[simp] theorem State.wake_pst (s : State) : (s.wake).pst = s.pst := by
  unfold State.wake; repeat (first | rfl | split | simp)
@[simp] theorem State.wake_free (s : State) : (s.wake).free = s.free := by
  unfold State.wake; repeat (first | rfl | split | simp)
@[simp] theorem State.wake_pending (s : State) : (s.wake).pending = s.pending := by
  unfold State.wake; repeat (first | rfl | split | simp)
@[simp] theorem State.wake_w (s : State) : (s.wake).w = s.w := by simp [State.w]

@[simp] theorem State.giveDrive_rxl (s : State) (h : Holder) (p : Option PendingHolder) : (s.giveDrive h p).rxl = s.rxl := by
  unfold State.giveDrive; repeat (first | rfl | split | simp)
@[simp] theorem State.giveDrive_bsv (s : State) (h : Holder) (p : Option PendingHolder) : (s.giveDrive h p).bsv = s.bsv := by
  unfold State.giveDrive; repeat (first | rfl | split | simp)
@[simp] theorem State.giveDrive_bga (s : State) (h : Holder) (p : Option PendingHolder) : (s.giveDrive h p).bga = s.bga := by
  unfold State.giveDrive; repeat (first | rfl | split | simp)
@[simp] theorem State.giveDrive_stc (s : State) (h : Holder) (p : Option PendingHolder) : (s.giveDrive h p).stc = s.stc := by
  unfold State.giveDrive; repeat (first | rfl | split | simp)
@[simp] theorem State.giveDrive_wnc (s : State) (h : Holder) (p : Option PendingHolder) : (s.giveDrive h p).wnc = s.wnc := by
  unfold State.giveDrive; repeat (first | rfl | split | simp)
@[simp] theorem State.giveDrive_ltc (s : State) (h : Holder) (p : Option PendingHolder) : (s.giveDrive h p).ltc = s.ltc := by
  unfold State.giveDrive; repeat (first | rfl | split | simp)
@[simp] theorem State.giveDrive_pli (s : State) (h : Holder) (p : Option PendingHolder) : (s.giveDrive h p).pli = s.pli := by
  unfold State.giveDrive; repeat (first | rfl | split | simp)
@[simp] theorem State.giveDrive_pst (s : State) (h : Holder) (p : Option PendingHolder) : (s.giveDrive h p).pst = s.pst := by
  unfold State.giveDrive; repeat (first | rfl | split | simp)
@[simp] theorem State.giveDrive_pending (s : State) (h : Holder) (p : Option PendingHolder) : (s.giveDrive h p).pending = s.pending := by
  unfold State.giveDrive; repeat (first | rfl | split | simp)
@[simp] theorem State.giveDrive_w (s : State) (h : Holder) (p : Option PendingHolder) : (s.giveDrive h p).w = s.w := by simp [State.w]

@[simp] theorem State.giveSteer_rxl (s : State) (h : Holder) (p : Option PendingHolder) : (s.giveSteer h p).rxl = s.rxl := by
  unfold State.giveSteer; repeat (first | rfl | split | simp)
@[simp] theorem State.giveSteer_bsv (s : State) (h : Holder) (p : Option PendingHolder) : (s.giveSteer h p).bsv = s.bsv := by
  unfold State.giveSteer; repeat (first | rfl | split | simp)
@[simp] theorem State.giveSteer_bga (s : State) (h : Holder) (p : Option PendingHolder) : (s.giveSteer h p).bga = s.bga := by
  unfold State.giveSteer; repeat (first | rfl | split | simp)
@[simp] theorem State.giveSteer_stc (s : State) (h : Holder) (p : Option PendingHolder) : (s.giveSteer h p).stc = s.stc := by
  unfold State.giveSteer; repeat (first | rfl | split | simp)
@[simp] theorem State.giveSteer_drc (s : State) (h : Holder) (p : Option PendingHolder) : (s.giveSteer h p).drc = s.drc := by
  unfold State.giveSteer; repeat (first | rfl | split | simp)
@[simp] theorem State.giveSteer_wnc (s : State) (h : Holder) (p : Option PendingHolder) : (s.giveSteer h p).wnc = s.wnc := by
  unfold State.giveSteer; repeat (first | rfl | split | simp)
@[simp] theorem State.giveSteer_ltc (s : State) (h : Holder) (p : Option PendingHolder) : (s.giveSteer h p).ltc = s.ltc := by
  unfold State.giveSteer; repeat (first | rfl | split | simp)
@[simp] theorem State.giveSteer_pli (s : State) (h : Holder) (p : Option PendingHolder) : (s.giveSteer h p).pli = s.pli := by
  unfold State.giveSteer; repeat (first | rfl | split | simp)
@[simp] theorem State.giveSteer_pst (s : State) (h : Holder) (p : Option PendingHolder) : (s.giveSteer h p).pst = s.pst := by
  unfold State.giveSteer; repeat (first | rfl | split | simp)
@[simp] theorem State.giveSteer_pending (s : State) (h : Holder) (p : Option PendingHolder) : (s.giveSteer h p).pending = s.pending := by
  unfold State.giveSteer; repeat (first | rfl | split | simp)
@[simp] theorem State.giveSteer_w (s : State) (h : Holder) (p : Option PendingHolder) : (s.giveSteer h p).w = s.w := by simp [State.w]

@[simp] theorem State.giveGear_rxl (s : State) (h : Holder) (p : Option PendingHolder) : (s.giveGear h p).rxl = s.rxl := by
  unfold State.giveGear; repeat (first | rfl | split | simp)
@[simp] theorem State.giveGear_bsv (s : State) (h : Holder) (p : Option PendingHolder) : (s.giveGear h p).bsv = s.bsv := by
  unfold State.giveGear; repeat (first | rfl | split | simp)
@[simp] theorem State.giveGear_bga (s : State) (h : Holder) (p : Option PendingHolder) : (s.giveGear h p).bga = s.bga := by
  unfold State.giveGear; repeat (first | rfl | split | simp)
@[simp] theorem State.giveGear_stc (s : State) (h : Holder) (p : Option PendingHolder) : (s.giveGear h p).stc = s.stc := by
  unfold State.giveGear; repeat (first | rfl | split | simp)
@[simp] theorem State.giveGear_drc (s : State) (h : Holder) (p : Option PendingHolder) : (s.giveGear h p).drc = s.drc := by
  unfold State.giveGear; repeat (first | rfl | split | simp)
@[simp] theorem State.giveGear_wnc (s : State) (h : Holder) (p : Option PendingHolder) : (s.giveGear h p).wnc = s.wnc := by
  unfold State.giveGear; repeat (first | rfl | split | simp)
@[simp] theorem State.giveGear_ltc (s : State) (h : Holder) (p : Option PendingHolder) : (s.giveGear h p).ltc = s.ltc := by
  unfold State.giveGear; repeat (first | rfl | split | simp)
@[simp] theorem State.giveGear_pli (s : State) (h : Holder) (p : Option PendingHolder) : (s.giveGear h p).pli = s.pli := by
  unfold State.giveGear; repeat (first | rfl | split | simp)
@[simp] theorem State.giveGear_pst (s : State) (h : Holder) (p : Option PendingHolder) : (s.giveGear h p).pst = s.pst := by
  unfold State.giveGear; repeat (first | rfl | split | simp)
@[simp] theorem State.giveGear_pending (s : State) (h : Holder) (p : Option PendingHolder) : (s.giveGear h p).pending = s.pending := by
  unfold State.giveGear; repeat (first | rfl | split | simp)
@[simp] theorem State.giveGear_w (s : State) (h : Holder) (p : Option PendingHolder) : (s.giveGear h p).w = s.w := by simp [State.w]

@[simp] theorem State.giveWinch_rxl (s : State) (h : Holder) : (s.giveWinch h).rxl = s.rxl := by
  unfold State.giveWinch; repeat (first | rfl | split | simp)
@[simp] theorem State.giveWinch_bsv (s : State) (h : Holder) : (s.giveWinch h).bsv = s.bsv := by
  unfold State.giveWinch; repeat (first | rfl | split | simp)
@[simp] theorem State.giveWinch_bga (s : State) (h : Holder) : (s.giveWinch h).bga = s.bga := by
  unfold State.giveWinch; repeat (first | rfl | split | simp)
@[simp] theorem State.giveWinch_stc (s : State) (h : Holder) : (s.giveWinch h).stc = s.stc := by
  unfold State.giveWinch; repeat (first | rfl | split | simp)
@[simp] theorem State.giveWinch_drc (s : State) (h : Holder) : (s.giveWinch h).drc = s.drc := by
  unfold State.giveWinch; repeat (first | rfl | split | simp)
@[simp] theorem State.giveWinch_wnc (s : State) (h : Holder) : (s.giveWinch h).wnc = s.wnc := by
  unfold State.giveWinch; repeat (first | rfl | split | simp)
@[simp] theorem State.giveWinch_ltc (s : State) (h : Holder) : (s.giveWinch h).ltc = s.ltc := by
  unfold State.giveWinch; repeat (first | rfl | split | simp)
@[simp] theorem State.giveWinch_pli (s : State) (h : Holder) : (s.giveWinch h).pli = s.pli := by
  unfold State.giveWinch; repeat (first | rfl | split | simp)
@[simp] theorem State.giveWinch_pst (s : State) (h : Holder) : (s.giveWinch h).pst = s.pst := by
  unfold State.giveWinch; repeat (first | rfl | split | simp)
@[simp] theorem State.giveWinch_pending (s : State) (h : Holder) : (s.giveWinch h).pending = s.pending := by
  unfold State.giveWinch; repeat (first | rfl | split | simp)
@[simp] theorem State.giveWinch_w (s : State) (h : Holder) : (s.giveWinch h).w = s.w := by simp [State.w]

@[simp] theorem State.driveBoundary_rxl (s : State) : (s.driveBoundary).rxl = s.rxl := by
  unfold State.driveBoundary; repeat (first | rfl | split | simp)
@[simp] theorem State.driveBoundary_bsv (s : State) : (s.driveBoundary).bsv = s.bsv := by
  unfold State.driveBoundary; repeat (first | rfl | split | simp)
@[simp] theorem State.driveBoundary_bga (s : State) : (s.driveBoundary).bga = s.bga := by
  unfold State.driveBoundary; repeat (first | rfl | split | simp)
@[simp] theorem State.driveBoundary_stc (s : State) : (s.driveBoundary).stc = s.stc := by
  unfold State.driveBoundary; repeat (first | rfl | split | simp)
@[simp] theorem State.driveBoundary_wnc (s : State) : (s.driveBoundary).wnc = s.wnc := by
  unfold State.driveBoundary; repeat (first | rfl | split | simp)
@[simp] theorem State.driveBoundary_ltc (s : State) : (s.driveBoundary).ltc = s.ltc := by
  unfold State.driveBoundary; repeat (first | rfl | split | simp)
@[simp] theorem State.driveBoundary_pli (s : State) : (s.driveBoundary).pli = s.pli := by
  unfold State.driveBoundary; repeat (first | rfl | split | simp)
@[simp] theorem State.driveBoundary_pst (s : State) : (s.driveBoundary).pst = s.pst := by
  unfold State.driveBoundary; repeat (first | rfl | split | simp)
@[simp] theorem State.driveBoundary_pending (s : State) : (s.driveBoundary).pending = s.pending := by
  unfold State.driveBoundary; repeat (first | rfl | split | simp)
@[simp] theorem State.driveBoundary_w (s : State) : (s.driveBoundary).w = s.w := by simp [State.w]

@[simp] theorem State.steerBoundary_rxl (s : State) : (s.steerBoundary).rxl = s.rxl := by
  unfold State.steerBoundary; repeat (first | rfl | split | simp)
@[simp] theorem State.steerBoundary_bsv (s : State) : (s.steerBoundary).bsv = s.bsv := by
  unfold State.steerBoundary; repeat (first | rfl | split | simp)
@[simp] theorem State.steerBoundary_bga (s : State) : (s.steerBoundary).bga = s.bga := by
  unfold State.steerBoundary; repeat (first | rfl | split | simp)
@[simp] theorem State.steerBoundary_stc (s : State) : (s.steerBoundary).stc = s.stc := by
  unfold State.steerBoundary; repeat (first | rfl | split | simp)
@[simp] theorem State.steerBoundary_drc (s : State) : (s.steerBoundary).drc = s.drc := by
  unfold State.steerBoundary; repeat (first | rfl | split | simp)
@[simp] theorem State.steerBoundary_wnc (s : State) : (s.steerBoundary).wnc = s.wnc := by
  unfold State.steerBoundary; repeat (first | rfl | split | simp)
@[simp] theorem State.steerBoundary_ltc (s : State) : (s.steerBoundary).ltc = s.ltc := by
  unfold State.steerBoundary; repeat (first | rfl | split | simp)
@[simp] theorem State.steerBoundary_pli (s : State) : (s.steerBoundary).pli = s.pli := by
  unfold State.steerBoundary; repeat (first | rfl | split | simp)
@[simp] theorem State.steerBoundary_pst (s : State) : (s.steerBoundary).pst = s.pst := by
  unfold State.steerBoundary; repeat (first | rfl | split | simp)
@[simp] theorem State.steerBoundary_pending (s : State) : (s.steerBoundary).pending = s.pending := by
  unfold State.steerBoundary; repeat (first | rfl | split | simp)
@[simp] theorem State.steerBoundary_w (s : State) : (s.steerBoundary).w = s.w := by simp [State.w]

@[simp] theorem State.gearBoundary_rxl (s : State) : (s.gearBoundary).rxl = s.rxl := by
  unfold State.gearBoundary; repeat (first | rfl | split | simp)
@[simp] theorem State.gearBoundary_bsv (s : State) : (s.gearBoundary).bsv = s.bsv := by
  unfold State.gearBoundary; repeat (first | rfl | split | simp)
@[simp] theorem State.gearBoundary_bga (s : State) : (s.gearBoundary).bga = s.bga := by
  unfold State.gearBoundary; repeat (first | rfl | split | simp)
@[simp] theorem State.gearBoundary_stc (s : State) : (s.gearBoundary).stc = s.stc := by
  unfold State.gearBoundary; repeat (first | rfl | split | simp)
@[simp] theorem State.gearBoundary_drc (s : State) : (s.gearBoundary).drc = s.drc := by
  unfold State.gearBoundary; repeat (first | rfl | split | simp)
@[simp] theorem State.gearBoundary_wnc (s : State) : (s.gearBoundary).wnc = s.wnc := by
  unfold State.gearBoundary; repeat (first | rfl | split | simp)
@[simp] theorem State.gearBoundary_ltc (s : State) : (s.gearBoundary).ltc = s.ltc := by
  unfold State.gearBoundary; repeat (first | rfl | split | simp)
@[simp] theorem State.gearBoundary_pli (s : State) : (s.gearBoundary).pli = s.pli := by
  unfold State.gearBoundary; repeat (first | rfl | split | simp)
@[simp] theorem State.gearBoundary_pst (s : State) : (s.gearBoundary).pst = s.pst := by
  unfold State.gearBoundary; repeat (first | rfl | split | simp)
@[simp] theorem State.gearBoundary_pending (s : State) : (s.gearBoundary).pending = s.pending := by
  unfold State.gearBoundary; repeat (first | rfl | split | simp)
@[simp] theorem State.gearBoundary_w (s : State) : (s.gearBoundary).w = s.w := by simp [State.w]

@[simp] theorem State.winchBoundary_rxl (s : State) : (s.winchBoundary).rxl = s.rxl := by
  unfold State.winchBoundary; repeat (first | rfl | split | simp)
@[simp] theorem State.winchBoundary_bsv (s : State) : (s.winchBoundary).bsv = s.bsv := by
  unfold State.winchBoundary; repeat (first | rfl | split | simp)
@[simp] theorem State.winchBoundary_bga (s : State) : (s.winchBoundary).bga = s.bga := by
  unfold State.winchBoundary; repeat (first | rfl | split | simp)
@[simp] theorem State.winchBoundary_stc (s : State) : (s.winchBoundary).stc = s.stc := by
  unfold State.winchBoundary; repeat (first | rfl | split | simp)
@[simp] theorem State.winchBoundary_drc (s : State) : (s.winchBoundary).drc = s.drc := by
  unfold State.winchBoundary; repeat (first | rfl | split | simp)
@[simp] theorem State.winchBoundary_wnc (s : State) : (s.winchBoundary).wnc = s.wnc := by
  unfold State.winchBoundary; repeat (first | rfl | split | simp)
@[simp] theorem State.winchBoundary_ltc (s : State) : (s.winchBoundary).ltc = s.ltc := by
  unfold State.winchBoundary; repeat (first | rfl | split | simp)
@[simp] theorem State.winchBoundary_pli (s : State) : (s.winchBoundary).pli = s.pli := by
  unfold State.winchBoundary; repeat (first | rfl | split | simp)
@[simp] theorem State.winchBoundary_pst (s : State) : (s.winchBoundary).pst = s.pst := by
  unfold State.winchBoundary; repeat (first | rfl | split | simp)
@[simp] theorem State.winchBoundary_pending (s : State) : (s.winchBoundary).pending = s.pending := by
  unfold State.winchBoundary; repeat (first | rfl | split | simp)
@[simp] theorem State.winchBoundary_w (s : State) : (s.winchBoundary).w = s.w := by simp [State.w]

@[simp] theorem State.endOperation_rxl (s : State) (o : Option SenseKind) : (s.endOperation o).rxl = s.rxl := by
  unfold State.endOperation; repeat (first | rfl | split | simp)
@[simp] theorem State.endOperation_bsv (s : State) (o : Option SenseKind) : (s.endOperation o).bsv = s.bsv := by
  unfold State.endOperation; repeat (first | rfl | split | simp)
@[simp] theorem State.endOperation_bga (s : State) (o : Option SenseKind) : (s.endOperation o).bga = s.bga := by
  unfold State.endOperation; repeat (first | rfl | split | simp)
@[simp] theorem State.endOperation_drc (s : State) (o : Option SenseKind) : (s.endOperation o).drc = s.drc := by
  unfold State.endOperation; repeat (first | rfl | split | simp)
@[simp] theorem State.endOperation_ltc (s : State) (o : Option SenseKind) : (s.endOperation o).ltc = s.ltc := by
  unfold State.endOperation; repeat (first | rfl | split | simp)
@[simp] theorem State.endOperation_pst (s : State) (o : Option SenseKind) : (s.endOperation o).pst = s.pst := by
  unfold State.endOperation; repeat (first | rfl | split | simp)
@[simp] theorem State.endOperation_free (s : State) (o : Option SenseKind) : (s.endOperation o).free = s.free := by
  unfold State.endOperation; repeat (first | rfl | split | simp)
@[simp] theorem State.endOperation_pending (s : State) (o : Option SenseKind) : (s.endOperation o).pending = s.pending := by
  unfold State.endOperation; repeat (first | rfl | split | simp)
@[simp] theorem State.endOperation_w (s : State) (o : Option SenseKind) : (s.endOperation o).w = s.w := by simp [State.w]

@[simp] theorem State.radioTakesWinch_rxl (s : State) : (s.radioTakesWinch).rxl = s.rxl := by
  unfold State.radioTakesWinch; repeat (first | rfl | split | simp)
@[simp] theorem State.radioTakesWinch_bsv (s : State) : (s.radioTakesWinch).bsv = s.bsv := by
  unfold State.radioTakesWinch; repeat (first | rfl | split | simp)
@[simp] theorem State.radioTakesWinch_bga (s : State) : (s.radioTakesWinch).bga = s.bga := by
  unfold State.radioTakesWinch; repeat (first | rfl | split | simp)
@[simp] theorem State.radioTakesWinch_drc (s : State) : (s.radioTakesWinch).drc = s.drc := by
  unfold State.radioTakesWinch; repeat (first | rfl | split | simp)
@[simp] theorem State.radioTakesWinch_ltc (s : State) : (s.radioTakesWinch).ltc = s.ltc := by
  unfold State.radioTakesWinch; repeat (first | rfl | split | simp)
@[simp] theorem State.radioTakesWinch_pst (s : State) : (s.radioTakesWinch).pst = s.pst := by
  unfold State.radioTakesWinch; repeat (first | rfl | split | simp)
@[simp] theorem State.radioTakesWinch_free (s : State) : (s.radioTakesWinch).free = s.free := by
  unfold State.radioTakesWinch; repeat (first | rfl | split | simp)
@[simp] theorem State.radioTakesWinch_pending (s : State) : (s.radioTakesWinch).pending = s.pending := by
  unfold State.radioTakesWinch; repeat (first | rfl | split | simp)
@[simp] theorem State.radioTakesWinch_w (s : State) : (s.radioTakesWinch).w = s.w := by simp [State.w]

end Sys2Proof.Machine
end

