-- ==== Sys2Proof/Laws/Blocks.lean ====
section
/-! SUPPORT. Request blocks (R160 to R162): what the shared path from a block to its answer does, said once for each way a
block can be decided, and how each answer leaves the state. -/

namespace Sys2Proof.Machine

/-- The entries of the current batch. -/
theorem State.currentBatch_entries (s : State) : s.pli.currentBatch.entries = s.formed := by
  unfold PitLink.currentBatch State.formed
  cases s.pli.batch <;> rfl

theorem State.currentBatch_stopped (s : State) (h : s.Going) : s.pli.currentBatch.stopped = false := by
  unfold PitLink.currentBatch
  cases hb : s.pli.batch with
  | none => rfl
  | some bt => simpa using h bt hb

theorem State.Open.going {s : State} (h : s.Open) : s.Going := by
  intro bt hb
  unfold State.Open at h
  rw [hb] at h
  exact h.1

theorem State.Open.restricted {s : State} (h : s.Open) : s.pli.currentBatch.restricted = false := by
  unfold State.Open at h
  unfold PitLink.currentBatch
  cases hb : s.pli.batch with
  | none => rw [hb] at h; simp [h]
  | some bt => rw [hb] at h; simpa using h.2

theorem State.Open.stopped {s : State} (h : s.Open) : s.pli.currentBatch.stopped = false :=
  s.currentBatch_stopped h.going

/-- The fit check of R161 as the model makes it. -/
theorem State.Fits.not_lt {s : State} {r : Request} (h : s.Fits r.largestData) :
    ¬108 < entriesSize s.pli.currentBatch.entries + largestEntry (some r) := by
  rw [s.currentBatch_entries]
  unfold State.Fits at h
  have he : entriesSize s.formed = (s.formed.map fun e => 3 + e.data.length).sum := rfl
  have hl : largestEntry (some r) = 3 + max r.largestData 9 := rfl
  omega

/-- Lastness as the model judges it. -/
theorem State.isLastBlock_eq (s : State) (b : Block) :
    isLastBlock s.pli.currentBatch b = decide (b.last = true ∨ 3 ≤ s.formed.length) := by
  unfold isLastBlock
  rw [s.currentBatch_entries]
  cases b.last <;> simp

/-- An entry formed by the model is the entry of `State.answered`. -/
theorem State.answerBlock_eq (s : State) (b : Block) (e : ReplyEntry) (h : s.Going) :
    s.setPli (s.pli.answerBlock s.pli.currentBatch (isLastBlock s.pli.currentBatch b) e) = s.answered b e := by
  rw [s.isLastBlock_eq]
  unfold PitLink.answerBlock State.answered
  rw [s.currentBatch_entries, s.currentBatch_stopped h]
  by_cases hl : b.last = true ∨ 3 ≤ s.formed.length
  · simp [hl, State.setPli]
  · simp only [hl, State.setPli, decide_false, Bool.false_or, if_false, Bool.false_eq_true]
    unfold PitLink.currentBatch
    cases hb : s.pli.batch <;> simp

/-- The park idle timer at the execution of a block in ACTIVE outside IDENT (R39). -/
theorem State.restartParkTimer_eq (s : State) (hp : s.bsv.power = .active) (hs : s.bsv.stage ≠ .ident) :
    s.restartParkTimer = s.timerRestarted := by
  simp [State.restartParkTimer, State.timerRestarted, hp, hs, parkPeriod, State.setBsv]

/-- The park idle timer runs in ACTIVE only (R39). -/
theorem State.restartParkTimer_inactive (s : State) (hp : s.bsv.power ≠ .active) : s.restartParkTimer = s := by
  simp [State.restartParkTimer, hp]

/-- A block that is not exempt and reaches step 5 meets its own request's checks (R160). -/
theorem State.runRequest_reaches {s : State} {r : Request} (h : s.Reaches r) (he : r.exempt = false) (b : Block)
    (m : Bool → State → Answer) :
    s.runRequest r b m =
      finishBlock s.pli.currentBatch (isLastBlock s.pli.currentBatch b) r.code false
        (m (isLastBlock s.pli.currentBatch b) s) := by
  obtain ⟨⟨ho, hst, hp, ha, hd⟩, hf⟩ := h
  have hw : s.wake = s := by simp [State.wake, hp]
  unfold State.runRequest State.runBlock
  simp only [ho.stopped, ho.restricted, isExempt, he, Bool.false_eq_true, if_false, Bool.false_and]
  unfold runNonExempt
  simp only [hst, hp, if_false, reduceCtorEq, false_and]
  unfold runReports runForm
  rw [hw]
  simp only [ha, hd, hf.not_lt, if_false]
  split <;> rfl

/-- An exempt request reaches step 5 in every stage and power state (R160). -/
theorem State.runRequest_exempt {s : State} {r : Request} (hg : s.Going)
    (hr : s.pli.currentBatch.restricted = false ∨ r.runsWhileOwed = true) (hf : s.Fits r.largestData)
    (he : r.exempt = true) (b : Block) (m : Bool → State → Answer) :
    s.runRequest r b m =
      finishBlock s.pli.currentBatch (isLastBlock s.pli.currentBatch b) r.code true
        (m (isLastBlock s.pli.currentBatch b) s) := by
  have hr' : (s.pli.currentBatch.restricted && !mayRunWhileOwed (some r)) = false := by
    rcases hr with h | h
    · simp [h]
    · simp [mayRunWhileOwed, h]
  unfold State.runRequest State.runBlock
  simp only [s.currentBatch_stopped hg, hr', isExempt, he, if_false, if_true, Bool.false_eq_true]
  unfold runForm
  simp only [hf.not_lt, if_false]

/-- GOOD of a request that is not exempt, whose effect leaves the batch, the power state and the stage as they were. -/
theorem State.finish_good {s t : State} {r : Request} (b : Block) (hg : s.Going) (hb : t.pli = s.pli)
    (hp : t.bsv.power = .active) (hs : t.bsv.stage ≠ .ident) :
    finishBlock s.pli.currentBatch (isLastBlock s.pli.currentBatch b) r.code false (.good t []) = t.good b r := by
  have hgt : t.Going := by intro bt h; exact hg bt (hb ▸ h)
  have ha : ∀ e, (t.answered b e).bsv = t.bsv := by
    intro e; unfold State.answered; split <;> rfl
  show ((t.setPli (t.pli.answerBlock s.pli.currentBatch (isLastBlock s.pli.currentBatch b)
    ⟨r.code, .good, []⟩)).executed false) = _
  rw [← hb, t.answerBlock_eq b _ hgt]
  simp only [State.executed, if_false, Bool.false_eq_true]
  exact State.restartParkTimer_eq _ (by rw [ha]; exact hp) (by rw [ha]; exact hs)

/-- CHECK of a request that is not exempt. -/
theorem State.finish_check {s t : State} {r : Request} (b : Block) (k : SenseKind) (hg : s.Going) (hb : t.pli = s.pli)
    (hp : t.bsv.power = .active) (hs : t.bsv.stage ≠ .ident) :
    finishBlock s.pli.currentBatch (isLastBlock s.pli.currentBatch b) r.code false (.check t k) = t.checked b r k := by
  let u : State := { t with pli := { t.pli with sense := Sense.of k } }
  have hgu : u.Going := by intro bt h; exact hg bt (hb ▸ h)
  have hcb : u.pli.currentBatch = s.pli.currentBatch := by
    show PitLink.currentBatch { t.pli with sense := Sense.of k } = _
    rw [← hb]; rfl
  have ha : ∀ e, (u.answered b e).bsv = t.bsv := by
    intro e; unfold State.answered; split <;> rfl
  show ((t.checkBlock s.pli.currentBatch (isLastBlock s.pli.currentBatch b) r.code (Sense.of k) []).executed false) = _
  have hc : t.checkBlock s.pli.currentBatch (isLastBlock s.pli.currentBatch b) r.code (Sense.of k) [] =
      u.answered b ⟨r.code, .check, (Sense.of k).toBytes⟩ := by
    unfold State.checkBlock
    rw [← u.answerBlock_eq b _ hgu, hcb, List.append_nil]
    rfl
  rw [hc]
  simp only [State.executed, if_false, Bool.false_eq_true]
  exact State.restartParkTimer_eq _ (by rw [ha]; exact hp) (by rw [ha]; exact hs)

/-- A block that owes its reply (R162). -/
theorem State.finish_owes {s t : State} {r : Request} (b : Block) (hb : t.pli = s.pli) (hp : t.bsv.power = .active)
    (hs : t.bsv.stage ≠ .ident) :
    finishBlock s.pli.currentBatch (isLastBlock s.pli.currentBatch b) r.code false (.owes t) = t.owing r := by
  unfold finishBlock State.owing State.executed PitLink.owe
  simp only [if_false, Bool.false_eq_true]
  have hf : s.pli.currentBatch.entries = t.formed := by
    rw [s.currentBatch_entries]; unfold State.formed; rw [hb]
  rw [hf]
  exact State.restartParkTimer_eq _ hp hs

end Sys2Proof.Machine
end

