-- ==== Sys2Proof/Laws/Changes.lean ====
section
/-! SUPPORT. What the shared operations that change holders and end operations leave in the blocks they write; the frame
of each stands in Laws/Ops.lean. And what the shown records of drive and winch leave. -/

namespace Sys2Proof.Machine

/-! ### A change of holder (R2) -/

theorem State.giveDrive_au (s : State) (h : Holder) (p : Option PendingHolder) :
    (s.giveDrive h p).au = { s.au with
      drive := .taken h p true
      image := { s.au.image with drive := driveEntry h (radioCommand s.rxl.published.throttle s.free) } } := by
  unfold State.giveDrive; rw [State.drawnIf_au]; rfl

/-- A change of DRIVE holder disarms DRC in the cases of R88 and leaves it alone otherwise. -/
theorem State.giveDrive_drc (s : State) (h : Holder) (p : Option PendingHolder) :
    (s.giveDrive h p).drc = if disarms s.au.drive.holder h then s.drc.disarmed else s.drc := by
  unfold State.giveDrive; rw [State.drawnIf_drc]; rfl

theorem State.giveSteer_au (s : State) (h : Holder) (p : Option PendingHolder) :
    (s.giveSteer h p).au = { s.au with
      steer := .taken h p true
      image := { s.au.image with
        steer := steerEntry h s.au.image.steer (radioCommand s.rxl.published.steer s.free)
          (modeOf s.w s.au.image.steer.mode s.rxl.published.steerMode) } } := by
  unfold State.giveSteer; rw [State.drawnIf_au]; rfl

theorem State.giveGear_au (s : State) (h : Holder) (p : Option PendingHolder) :
    (s.giveGear h p).au = { s.au with
      gear := .taken h p false
      image := { s.au.image with gear := if h = .radio then radioGear s.rxl.published.gear s.free else none } } := by
  unfold State.giveGear; rw [State.drawnIf_au]; rfl

theorem State.giveWinch_au (s : State) (h : Holder) :
    (s.giveWinch h).au = { s.au with
      winch := .taken h none false
      winchTimer := false
      image := { s.au.image with
        winch := winchEntry h (radioCommand s.rxl.published.winch s.free) s.wnc.record.isSome } } := by
  unfold State.giveWinch; rw [State.drawnIf_au]; rfl

/-! ### The ending of an operation (R119) -/

/-- Without a record nothing ends. -/
theorem State.endOperation_none (s : State) (o : Option SenseKind) (h : s.wnc.record = none) : s.endOperation o = s := by
  unfold State.endOperation; rw [h]

theorem State.endOperation_wnc {s : State} {r : OpRecord} (o : Option SenseKind) (h : s.wnc.record = some r) :
    (s.endOperation o).wnc = (s.wnc.ended s.bsv.power).homed r.kind o := by
  unfold State.endOperation; rw [h]; rfl

/-- A HOME that ends GOOD leaves the position 0 and KNOWN, and any other ending leaves the position as it was (R121). -/
theorem Winch.homed_position (b : Winch) (k : OpKind) (o : Option SenseKind) :
    (b.homed k o).position = if k = .home ∧ o = none then some 0 else b.position := by
  unfold Winch.homed; split <;> rfl

@[simp] theorem Winch.homed_record (b : Winch) (k : OpKind) (o : Option SenseKind) : (b.homed k o).record = b.record := by
  unfold Winch.homed; split <;> rfl
@[simp] theorem Winch.homed_mode (b : Winch) (k : OpKind) (o : Option SenseKind) : (b.homed k o).mode = b.mode := by
  unfold Winch.homed; split <;> rfl
@[simp] theorem Winch.homed_bridge (b : Winch) (k : OpKind) (o : Option SenseKind) : (b.homed k o).bridge = b.bridge := by
  unfold Winch.homed; split <;> rfl
@[simp] theorem Winch.homed_hookHome (b : Winch) (k : OpKind) (o : Option SenseKind) :
    (b.homed k o).hookHome = b.hookHome := by
  unfold Winch.homed; split <;> rfl

theorem Winch.homed_of_outcome (b : Winch) (k : OpKind) (o : SenseKind) : b.homed k (some o) = b := by
  simp [Winch.homed]

theorem State.endOperation_pli {s : State} {r : OpRecord} (o : Option SenseKind) (h : s.wnc.record = some r) :
    (s.endOperation o).pli = s.pli.operationEnded r o := by
  unfold State.endOperation; rw [h]; rfl

theorem State.endOperation_au {s : State} {r : OpRecord} (o : Option SenseKind) (h : s.wnc.record = some r) :
    (s.endOperation o).au = s.au.recordRemoved r.kind s.throttleReady := by
  unfold State.endOperation; rw [h]; rfl

theorem State.endOperation_stc {s : State} {r : OpRecord} (o : Option SenseKind) (h : s.wnc.record = some r) :
    (s.endOperation o).stc = s.stc.recordRemoved r.kind := by
  unfold State.endOperation; rw [h]; rfl

/-- After an ending there is no record. -/
theorem State.endOperation_record (s : State) (o : Option SenseKind) : (s.endOperation o).wnc.record = none := by
  cases h : s.wnc.record with
  | none => rw [State.endOperation_none s o h]; exact h
  | some r => rw [State.endOperation_wnc o h, Winch.homed_record]; rfl

/-! ### Wake (R44) -/

theorem State.wake_bsv (s : State) : s.wake.bsv = if s.bsv.power = .parked then s.bsv.woken s.w else s.bsv := by
  unfold State.wake; split <;> rfl

theorem State.wake_stc (s : State) : s.wake.stc = if s.bsv.power = .parked then s.stc.woken else s.stc := by
  unfold State.wake; split <;> rfl

theorem State.wake_drc (s : State) : s.wake.drc = if s.bsv.power = .parked then s.drc.woken else s.drc := by
  unfold State.wake; split <;> rfl

/-! ### Reset -/

/-- The power-on reset of the state after reset leaves it as it is. -/
theorem State.powerOn_reset : State.reset.powerOn .powerOn = State.reset := rfl

/-! ### What REPORT STATUS shows of the drive, the transmission and the winch (R102, R131) -/

@[simp] theorem Drive.showDrive_armed (d : Drive) : d.showDrive.armed = d.armed := rfl
@[simp] theorem Drive.showDrive_armCount (d : Drive) : d.showDrive.armCount = d.armCount := rfl
@[simp] theorem Drive.showDrive_dir (d : Drive) : d.showDrive.dir = d.dir := rfl
@[simp] theorem Drive.showDrive_gateTimer (d : Drive) : d.showDrive.gateTimer = d.gateTimer := rfl
@[simp] theorem Drive.showDrive_requested (d : Drive) : d.showDrive.requested = d.requested := rfl
@[simp] theorem Drive.showDrive_present (d : Drive) : d.showDrive.present = d.present := rfl
@[simp] theorem Drive.showDrive_grant (d : Drive) : d.showDrive.grant = d.grant := rfl
@[simp] theorem Drive.showDrive_cap (d : Drive) : d.showDrive.cap = d.cap := rfl
@[simp] theorem Drive.showDrive_bridge (d : Drive) : d.showDrive.bridge = d.bridge := rfl
@[simp] theorem Drive.showDrive_brakeFlag (d : Drive) : d.showDrive.brakeFlag = d.brakeFlag := rfl
@[simp] theorem Drive.showDrive_reverseFlag (d : Drive) : d.showDrive.reverseFlag = d.reverseFlag := rfl
@[simp] theorem Drive.showDrive_neutralCount (d : Drive) : d.showDrive.neutralCount = d.neutralCount := rfl
@[simp] theorem Drive.showDrive_gear (d : Drive) : d.showDrive.gear = d.gear := rfl
@[simp] theorem Drive.showDrive_pendingGear (d : Drive) : d.showDrive.pendingGear = d.pendingGear := rfl
@[simp] theorem Drive.showDrive_travel (d : Drive) : d.showDrive.travel = d.travel := rfl
@[simp] theorem Drive.showDrive_shiftPulse (d : Drive) : d.showDrive.shiftPulse = d.shiftPulse := rfl
@[simp] theorem Drive.showDrive_pulseChanged (d : Drive) : d.showDrive.pulseChanged = d.pulseChanged := rfl
@[simp] theorem Drive.showDrive_unpulsed (d : Drive) : d.showDrive.unpulsed = d.unpulsed := rfl
@[simp] theorem Drive.showDrive_shownShift (d : Drive) : d.showDrive.shownShift = d.shownShift := rfl

@[simp] theorem Drive.showShift_armed (d : Drive) : d.showShift.armed = d.armed := rfl
@[simp] theorem Drive.showShift_armCount (d : Drive) : d.showShift.armCount = d.armCount := rfl
@[simp] theorem Drive.showShift_dir (d : Drive) : d.showShift.dir = d.dir := rfl
@[simp] theorem Drive.showShift_gateTimer (d : Drive) : d.showShift.gateTimer = d.gateTimer := rfl
@[simp] theorem Drive.showShift_requested (d : Drive) : d.showShift.requested = d.requested := rfl
@[simp] theorem Drive.showShift_present (d : Drive) : d.showShift.present = d.present := rfl
@[simp] theorem Drive.showShift_grant (d : Drive) : d.showShift.grant = d.grant := rfl
@[simp] theorem Drive.showShift_cap (d : Drive) : d.showShift.cap = d.cap := rfl
@[simp] theorem Drive.showShift_bridge (d : Drive) : d.showShift.bridge = d.bridge := rfl
@[simp] theorem Drive.showShift_brakeFlag (d : Drive) : d.showShift.brakeFlag = d.brakeFlag := rfl
@[simp] theorem Drive.showShift_reverseFlag (d : Drive) : d.showShift.reverseFlag = d.reverseFlag := rfl
@[simp] theorem Drive.showShift_neutralCount (d : Drive) : d.showShift.neutralCount = d.neutralCount := rfl
@[simp] theorem Drive.showShift_gear (d : Drive) : d.showShift.gear = d.gear := rfl
@[simp] theorem Drive.showShift_pendingGear (d : Drive) : d.showShift.pendingGear = d.pendingGear := rfl
@[simp] theorem Drive.showShift_travel (d : Drive) : d.showShift.travel = d.travel := rfl
@[simp] theorem Drive.showShift_shiftPulse (d : Drive) : d.showShift.shiftPulse = d.shiftPulse := rfl
@[simp] theorem Drive.showShift_pulseChanged (d : Drive) : d.showShift.pulseChanged = d.pulseChanged := rfl
@[simp] theorem Drive.showShift_unpulsed (d : Drive) : d.showShift.unpulsed = d.unpulsed := rfl
@[simp] theorem Drive.showShift_shownDrive (d : Drive) : d.showShift.shownDrive = d.shownDrive := rfl

@[simp] theorem Winch.showNow_mode (b : Winch) : b.showNow.mode = b.mode := rfl
@[simp] theorem Winch.showNow_position (b : Winch) : b.showNow.position = b.position := rfl
@[simp] theorem Winch.showNow_reserveWarned (b : Winch) : b.showNow.reserveWarned = b.reserveWarned := rfl
@[simp] theorem Winch.showNow_record (b : Winch) : b.showNow.record = b.record := rfl
@[simp] theorem Winch.showNow_requested (b : Winch) : b.showNow.requested = b.requested := rfl
@[simp] theorem Winch.showNow_present (b : Winch) : b.showNow.present = b.present := rfl
@[simp] theorem Winch.showNow_drivenDir (b : Winch) : b.showNow.drivenDir = b.drivenDir := rfl
@[simp] theorem Winch.showNow_requestedDir (b : Winch) : b.showNow.requestedDir = b.requestedDir := rfl
@[simp] theorem Winch.showNow_stopMark (b : Winch) : b.showNow.stopMark = b.stopMark := rfl
@[simp] theorem Winch.showNow_hookHome (b : Winch) : b.showNow.hookHome = b.hookHome := rfl
@[simp] theorem Winch.showNow_bridge (b : Winch) : b.showNow.bridge = b.bridge := rfl
@[simp] theorem Winch.showNow_grant (b : Winch) : b.showNow.grant = b.grant := rfl
@[simp] theorem Winch.showNow_cap (b : Winch) : b.showNow.cap = b.cap := rfl
@[simp] theorem Winch.showNow_stallTime (b : Winch) : b.showNow.stallTime = b.stallTime := rfl
@[simp] theorem Winch.showNow_backOff (b : Winch) : b.showNow.backOff = b.backOff := rfl
@[simp] theorem Winch.showNow_pulseSinceScan (b : Winch) : b.showNow.pulseSinceScan = b.pulseSinceScan := rfl
@[simp] theorem Winch.showNow_capacity (b : Winch) : b.showNow.capacity = b.capacity := rfl
@[simp] theorem Winch.showNow_edge (b : Winch) : b.showNow.edge = b.edge := rfl

@[simp] theorem State.showWinch_rxl (s : State) : s.showWinch.rxl = s.rxl := rfl
@[simp] theorem State.showWinch_au (s : State) : s.showWinch.au = s.au := rfl
@[simp] theorem State.showWinch_bsv (s : State) : s.showWinch.bsv = s.bsv := rfl
@[simp] theorem State.showWinch_bga (s : State) : s.showWinch.bga = s.bga := rfl
@[simp] theorem State.showWinch_stc (s : State) : s.showWinch.stc = s.stc := rfl
@[simp] theorem State.showWinch_drc (s : State) : s.showWinch.drc = s.drc := rfl
@[simp] theorem State.showWinch_ltc (s : State) : s.showWinch.ltc = s.ltc := rfl
@[simp] theorem State.showWinch_pli (s : State) : s.showWinch.pli = s.pli := rfl
@[simp] theorem State.showWinch_pst (s : State) : s.showWinch.pst = s.pst := rfl
@[simp] theorem State.showWinch_free (s : State) : s.showWinch.free = s.free := rfl
@[simp] theorem State.showWinch_pending (s : State) : s.showWinch.pending = s.pending := rfl
@[simp] theorem State.showWinch_wnc (s : State) : s.showWinch.wnc = s.wnc.showNow := rfl

end Sys2Proof.Machine
end

