-- ==== Sys2Proof/Laws/PerInstr.lean ====
section
/-! SUPPORT. Per-command facts about the syntax: a well-formed request block has at most 16 parameter bytes, and its CODE
and block name the same command again (R160, section 9.1). An event is no request block. -/

namespace Sys2Proof.Laws

/-- A well-formed command that is a request block is the command its CODE and its block name, with PLEN at most 16. -/
def WellFormedBlock.Statement (i : Instr) : Prop :=
  i.wellFormed = true → ∀ code b, Machine.commandBlock i = some (code, b) →
    Machine.blockCommand code b = i ∧ b.params.length ≤ 16

/-- A command that is no request block meets the statement. -/
theorem wellFormed_of_event {i : Instr} (h : Machine.commandBlock i = none) : WellFormedBlock.Statement i := by
  intro _ code b hb
  rw [h] at hb
  cases hb

/-- A catalogued request meets the statement. -/
theorem wellFormed_of_request {i : Instr} {c : Byte} {b : Block} (hc : Machine.commandBlock i = some (c, b))
    (hr : Machine.blockCommand c b = i) (hw : i.wellFormed = b.wellFormed) : WellFormedBlock.Statement i := by
  intro h code b' hb
  rw [hc] at hb
  cases hb
  exact ⟨hr, by rw [hw] at h; simpa [Block.wellFormed] using h⟩

theorem WellFormedBlock.powerOnReset : WellFormedBlock.Statement .powerOnReset :=
  wellFormed_of_event rfl
theorem WellFormedBlock.brownoutReset : WellFormedBlock.Statement .brownoutReset :=
  wellFormed_of_event rfl
theorem WellFormedBlock.scanCompletion (x : Readings) : WellFormedBlock.Statement (.scanCompletion x) :=
  wellFormed_of_event rfl
theorem WellFormedBlock.parkIdleTimerExpiry : WellFormedBlock.Statement .parkIdleTimerExpiry :=
  wellFormed_of_event rfl
theorem WellFormedBlock.servoRefreshExpiry : WellFormedBlock.Statement .servoRefreshExpiry :=
  wellFormed_of_event rfl
theorem WellFormedBlock.driveUpdateExpiry : WellFormedBlock.Statement .driveUpdateExpiry :=
  wellFormed_of_event rfl
theorem WellFormedBlock.gateTimerExpiry : WellFormedBlock.Statement .gateTimerExpiry :=
  wellFormed_of_event rfl
theorem WellFormedBlock.shiftServoRefresh : WellFormedBlock.Statement .shiftServoRefresh :=
  wellFormed_of_event rfl
theorem WellFormedBlock.shiftTravelTimerExpiry : WellFormedBlock.Statement .shiftTravelTimerExpiry :=
  wellFormed_of_event rfl
theorem WellFormedBlock.winchUpdateExpiry (x : Bool) : WellFormedBlock.Statement (.winchUpdateExpiry x) :=
  wellFormed_of_event rfl
theorem WellFormedBlock.backOffTimerExpiry : WellFormedBlock.Statement .backOffTimerExpiry :=
  wellFormed_of_event rfl
theorem WellFormedBlock.drumPulseArrival (x : Edge) : WellFormedBlock.Statement (.drumPulseArrival x) :=
  wellFormed_of_event rfl
theorem WellFormedBlock.hookHomeArrival : WellFormedBlock.Statement .hookHomeArrival :=
  wellFormed_of_event rfl
theorem WellFormedBlock.winchBoundaryTimerExpiry : WellFormedBlock.Statement .winchBoundaryTimerExpiry :=
  wellFormed_of_event rfl
theorem WellFormedBlock.pitHoldDeadlineExpiry (x : DeadlineRow) : WellFormedBlock.Statement (.pitHoldDeadlineExpiry x) :=
  wellFormed_of_event rfl
theorem WellFormedBlock.lightStepExpiry : WellFormedBlock.Statement .lightStepExpiry :=
  wellFormed_of_event rfl
theorem WellFormedBlock.channelFrame (x : List Byte) : WellFormedBlock.Statement (.channelFrame x) :=
  wellFormed_of_event rfl
theorem WellFormedBlock.rxlByteGapTimeout : WellFormedBlock.Statement .rxlByteGapTimeout :=
  wellFormed_of_event rfl
theorem WellFormedBlock.holdMarkExpiry : WellFormedBlock.Statement .holdMarkExpiry :=
  wellFormed_of_event rfl
theorem WellFormedBlock.failsafeMarkExpiry : WellFormedBlock.Statement .failsafeMarkExpiry :=
  wellFormed_of_event rfl
theorem WellFormedBlock.pitByteGapTimeout : WellFormedBlock.Statement .pitByteGapTimeout :=
  wellFormed_of_event rfl
theorem WellFormedBlock.replyTransmit : WellFormedBlock.Statement .replyTransmit :=
  wellFormed_of_event rfl
theorem WellFormedBlock.resetRequestEffect : WellFormedBlock.Statement .resetRequestEffect :=
  wellFormed_of_event rfl
theorem WellFormedBlock.commitProgrammingEnd (x : Bool) : WellFormedBlock.Statement (.commitProgrammingEnd x) :=
  wellFormed_of_event rfl
theorem WellFormedBlock.packSaveEnd (x : Bool) : WellFormedBlock.Statement (.packSaveEnd x) :=
  wellFormed_of_event rfl
theorem WellFormedBlock.reportStatus (b : Block) : WellFormedBlock.Statement (.reportStatus b) :=
  wellFormed_of_request rfl rfl rfl
theorem WellFormedBlock.requestSense (b : Block) : WellFormedBlock.Statement (.requestSense b) :=
  wellFormed_of_request rfl rfl rfl
theorem WellFormedBlock.identify (b : Block) : WellFormedBlock.Statement (.identify b) :=
  wellFormed_of_request rfl rfl rfl
theorem WellFormedBlock.claim (b : Block) : WellFormedBlock.Statement (.claim b) :=
  wellFormed_of_request rfl rfl rfl
theorem WellFormedBlock.release (b : Block) : WellFormedBlock.Statement (.release b) :=
  wellFormed_of_request rfl rfl rfl
theorem WellFormedBlock.setDrive (b : Block) : WellFormedBlock.Statement (.setDrive b) :=
  wellFormed_of_request rfl rfl rfl
theorem WellFormedBlock.setSteer (b : Block) : WellFormedBlock.Statement (.setSteer b) :=
  wellFormed_of_request rfl rfl rfl
theorem WellFormedBlock.setGear (b : Block) : WellFormedBlock.Statement (.setGear b) :=
  wellFormed_of_request rfl rfl rfl
theorem WellFormedBlock.setScene (b : Block) : WellFormedBlock.Statement (.setScene b) :=
  wellFormed_of_request rfl rfl rfl
theorem WellFormedBlock.winchPayOut (b : Block) : WellFormedBlock.Statement (.winchPayOut b) :=
  wellFormed_of_request rfl rfl rfl
theorem WellFormedBlock.winchHaulIn (b : Block) : WellFormedBlock.Statement (.winchHaulIn b) :=
  wellFormed_of_request rfl rfl rfl
theorem WellFormedBlock.winchHaulToTension (b : Block) : WellFormedBlock.Statement (.winchHaulToTension b) :=
  wellFormed_of_request rfl rfl rfl
theorem WellFormedBlock.winchHome (b : Block) : WellFormedBlock.Statement (.winchHome b) :=
  wellFormed_of_request rfl rfl rfl
theorem WellFormedBlock.winchAssistHaul (b : Block) : WellFormedBlock.Statement (.winchAssistHaul b) :=
  wellFormed_of_request rfl rfl rfl
theorem WellFormedBlock.winchFreespool (b : Block) : WellFormedBlock.Statement (.winchFreespool b) :=
  wellFormed_of_request rfl rfl rfl
theorem WellFormedBlock.winchStop (b : Block) : WellFormedBlock.Statement (.winchStop b) :=
  wellFormed_of_request rfl rfl rfl
theorem WellFormedBlock.abort (b : Block) : WellFormedBlock.Statement (.abort b) :=
  wellFormed_of_request rfl rfl rfl
theorem WellFormedBlock.readSetting (b : Block) : WellFormedBlock.Statement (.readSetting b) :=
  wellFormed_of_request rfl rfl rfl
theorem WellFormedBlock.writeSetting (b : Block) : WellFormedBlock.Statement (.writeSetting b) :=
  wellFormed_of_request rfl rfl rfl
theorem WellFormedBlock.selectProfile (b : Block) : WellFormedBlock.Statement (.selectProfile b) :=
  wellFormed_of_request rfl rfl rfl
theorem WellFormedBlock.commitProfile (b : Block) : WellFormedBlock.Statement (.commitProfile b) :=
  wellFormed_of_request rfl rfl rfl
theorem WellFormedBlock.loadDefaults (b : Block) : WellFormedBlock.Statement (.loadDefaults b) :=
  wellFormed_of_request rfl rfl rfl
theorem WellFormedBlock.park (b : Block) : WellFormedBlock.Statement (.park b) :=
  wellFormed_of_request rfl rfl rfl
theorem WellFormedBlock.reset (b : Block) : WellFormedBlock.Statement (.reset b) :=
  wellFormed_of_request rfl rfl rfl
theorem WellFormedBlock.receiverFrameDiscard (x : ReceiverDiscard) : WellFormedBlock.Statement (.receiverFrameDiscard x) :=
  wellFormed_of_event rfl
theorem WellFormedBlock.pitFrameDiscard (x : PitDiscard) : WellFormedBlock.Statement (.pitFrameDiscard x) :=
  wellFormed_of_event rfl
theorem WellFormedBlock.unknownCode (code : Byte) (b : Block) : WellFormedBlock.Statement (.unknownCode code b) := by
  intro h c b' hb
  cases hb
  simp only [Instr.wellFormed, Bool.and_eq_true, Option.isNone_iff_eq_none, Block.wellFormed, decide_eq_true_eq] at h
  exact ⟨by simp [Machine.blockCommand, h.2], h.1⟩

end Sys2Proof.Laws
end

