-- ==== Sys2Proof/Tests/Slice0.lean ====
section
/-! SUPPORT. Tests: ill-formed terms that WellFormed refuses, the spec's worked figures run for one step each, and for each
statement with hypotheses a witness that meets them. The source of an expected value is named in its comment. -/

namespace Sys2Proof.Tests

-- One theorem after another: elaborated at once, so many small ones would each hold a thread of their own.
set_option Elab.async false

open Sys2Proof Sys2Proof.Machine

/-! ### Small states -/

/-- The part after identification, in NORMAL, with its first pulses sent and nothing owed to the console. -/
def calm : State :=
  { State.reset with
    bsv := { State.reset.bsv with stage := .normal, cellCount := 3 }
    stc := { State.reset.stc with unpulsed := false }
    drc := { State.reset.drc with unpulsed := false }
    pli := { State.reset.pli with attention := [] } }

/-- The outcome is a next state with a property. -/
def gives (o : Host.Outcome State Fault Refusal) (p : State → Bool) : Bool :=
  match o with
  | .next t => p t
  | _ => false

/-- A block without FLAGS that is the last of its batch. -/
def blk (params : List Byte) : Block := ⟨0, params, true⟩

/-- A block with IMMEDIATE. -/
def blkNow (params : List Byte) : Block := ⟨1, params, true⟩

/-- The pit holds all four rows, with the radio ABSENT. -/
def pitHeld : State :=
  { calm with au := { calm.au with
      drive := ⟨.pit, none, true⟩, steer := ⟨.pit, none, true⟩, gear := ⟨.pit, none, false⟩, winch := ⟨.pit, none, false⟩ } }

/-- A record of a kind, just created. -/
def rec (k : OpKind) (target : Nat) : OpRecord := ⟨k, target, 0, 0, 0, 0, true, false, 0, 0, false, none⟩

/-- An operation in flight under the pit, answered at once. -/
def hauling (r : OpRecord) : State :=
  { pitHeld with
    wnc := { pitHeld.wnc with record := some r, mode := .operation }
    au := { pitHeld.au with image := { pitHeld.au.image with winch := ⟨.operation, 0⟩ } } }

/-- The same operation, its reply owed. -/
def owedHaul (r : OpRecord) (code : Byte) : State :=
  { hauling { r with immediate := false } with pli := { calm.pli with owed := some ⟨[], code⟩ } }

/-- The receiver link LIVE after a frame of counter 5, every function at neutral. -/
def live : State :=
  { calm with rxl := { calm.rxl with
      link := .live, channels := 6, published := ⟨some 0, some 0, some 1, some 1, some 0, some 1⟩, lastCounter := some 5,
      gap := some ⟨500, false⟩, slots := List.replicate 6 (some 1000) ++ List.replicate 6 none } }

/-- The radio holds all four rows. -/
def driven : State :=
  { live with au := { live.au with
      drive := ⟨.radio, none, false⟩, steer := ⟨.radio, none, false⟩, gear := ⟨.radio, none, false⟩
      winch := ⟨.radio, none, false⟩, image := { live.au.image with winch := ⟨.speed, 0⟩ } } }

/-- An armed drive with full cap, from a direction state and a throttle. -/
def armedAt (d : DirState) (t : Int) : State :=
  { calm with
    drc := { calm.drc with armed := true, dir := d, gateTimer := if d = .gate then some 300 else none }
    bga := { calm.bga with drive := { calm.bga.drive with grant := 400 } }
    au := { calm.au with image := { calm.au.image with drive := ⟨.command, t⟩ } } }

/-- A frame of six channels with a counter and the failsafe flag clear. -/
def frame (counter : Byte) (values : List Nat) : List Byte := receiverBytes counter values

/-- All four profile records and the engine as in the factory, with a setting changed. -/
def withSettings (w : Settings) (s : State) : State := { s with pst := { s.pst with working := w } }

/-! ### WellFormed refuses each ill-formed term -/

theorem test_long_block_ill_formed : (Instr.claim ⟨0, List.replicate 17 0, true⟩).wellFormed = false := by decide
theorem test_short_channel_frame_ill_formed : (Instr.channelFrame [9, 0, 1]).wellFormed = false := by decide
theorem test_even_len_frame_ill_formed : (Instr.channelFrame (10 :: List.replicate 11 0)).wellFormed = false := by decide
theorem test_receiver_discard_of_good_len_ill_formed :
    (Instr.receiverFrameDiscard (.badLength 9)).wellFormed = false := by decide
theorem test_pit_discard_of_good_len_ill_formed : (Instr.pitFrameDiscard (.badLength 2)).wellFormed = false := by decide
theorem test_pit_crc_discard_of_good_crc_ill_formed :
    (Instr.pitFrameDiscard (.crcMismatch [1, 2]
      ((crc16 [2, 1, 2]).truncate 8) ((crc16 [2, 1, 2] >>> 8).truncate 8))).wellFormed = false := by decide +kernel
theorem test_pit_crc_discard_of_short_body_ill_formed :
    (Instr.pitFrameDiscard (.crcMismatch [1] 0 0)).wellFormed = false := by decide +kernel
theorem test_pit_whole_blocks_discard_ill_formed :
    (Instr.pitFrameDiscard (.notWholeBlocks [1, 0, 0])).wellFormed = false := by decide
theorem test_catalogued_unknown_code_ill_formed : (Instr.unknownCode 0x10 (blk [])).wellFormed = false := by decide
theorem test_long_unknown_code_ill_formed :
    (Instr.unknownCode 0x7F ⟨0, List.replicate 17 0, true⟩).wellFormed = false := by decide
theorem test_well_formed_claim : (Instr.claim (blk [0])).wellFormed = true := by decide

/-! ### Checksums and frames. The check values of "123456789" under each polynomial are those of public CRC tables. -/

theorem test_crc8_check_value : crc8 [0x31, 0x32, 0x33, 0x34, 0x35, 0x36, 0x37, 0x38, 0x39] = 0xF4#8 := by decide +kernel
theorem test_crc16_check_value :
    crc16 [0x31, 0x32, 0x33, 0x34, 0x35, 0x36, 0x37, 0x38, 0x39] = 0x29B1#16 := by decide +kernel

/-- A 0x5C inside a frame is data, and noise before START is dropped (R158). -/
theorem test_pit_frame_read :
    readPit .hunting ([7, 0x36] ++ frameBody [0x20, 0, 2, 0x5C, 0x01]) = [.setDrive (blk [0x5C, 0x01])] := by
  decide +kernel

/-- A LEN that is even discards at once, and the next sync byte is found (R149). -/
theorem test_receiver_len_discard :
    readReceiver .hunting [0xB5, 10, 0xB5] = [.receiverFrameDiscard (.badLength 10)] := by decide

/-! ### Events, with the spec's worked figures -/

theorem test_power_on_leaves_reset : exec .powerOnReset State.reset = .next State.reset := rfl

theorem test_brownout_cause : gives (exec .brownoutReset calm) (fun t =>
    t.bsv.resetCause = .brownout && t.bsv.stage = .ident && t.pli.attention = [.resetOccurred]) = true := by decide +kernel

/-- Section 2.3.1, scan 430: both runs reach 250, and the stage goes directly to LIMIT. -/
theorem test_scan_climb : gives (exec (.scanCompletion ⟨3078, 3200, 3200, 0, 400, 0, 0⟩)
    { calm with bsv := { calm.bsv with warnRun := 249, limitRun := 249 } }) (fun t =>
    t.bsv.minComp = 3398 && t.bsv.stage = .limit && t.bsv.warnRun = 0 && t.bsv.limitRun = 0 && t.bga.stagePercent = 50) =
      true := by decide +kernel

/-- The part at its 16th scan of IDENT, with a pack record and a pack capacity. -/
def identifying (pack : StoredPack) (capacity : Nat) : State :=
  { State.reset with
    bsv := { State.reset.bsv with identScans := 15 }
    pst := { State.reset.pst with
      pack := pack
      working := { Settings.defaults with bsv := { BsvSettings.defaults with packCapacity := capacity } } } }

/-- Section 2.4.2, first case: the same pack, with the gate at 1760 mAh already crossed. -/
theorem test_scan_identifies_same_pack : gives (exec (.scanCompletion ⟨3790, 3801, 3776, 0, 6, 0, 0⟩)
    (identifying (.valid ⟨3, 3720, 1840, none, 0⟩) 2200)) (fun t =>
    t.bsv.cellCount = 3 && t.bsv.charge = 1840 * 36000 && t.bsv.identityAverage = 3720 && t.bsv.stage = .warn &&
      t.bsv.minComp = 3780) = true := by decide +kernel

theorem test_park_timer_parks : gives (exec .parkIdleTimerExpiry
    { calm with bsv := { calm.bsv with parkTimer := some 5 } }) (fun t =>
    t.bsv.power = .parked && t.bsv.railEn = false && t.pst.engine ≠ .idle) = true := by decide +kernel

/-- The settings and the state of section 4.11. -/
def turning (mode : SteerMode) (s front rear : Int) : State :=
  withSettings { Settings.defaults with stc := { StcSettings.defaults with rear := ⟨1100, 1520, 1980⟩ } }
    { calm with
      stc := { calm.stc with active := mode, front := front, rear := rear }
      au := { calm.au with image := { calm.au.image with steer := ⟨s, false, .counter⟩ } } }

/-- Section 4.11, refresh 3. -/
theorem test_refresh_mode_change : gives (exec .servoRefreshExpiry (turning .front 45 320 0)) (fun t =>
    t.stc.active = .counter && t.stc.front = 240 && t.stc.rear = -45 && t.stc.frontPulse = some 1620 &&
      t.stc.rearPulse = some 1502) = true := by decide +kernel

/-- Section 4.11, refresh 4. -/
theorem test_refresh_slew : gives (exec .servoRefreshExpiry (turning .counter (-300) 240 (-45))) (fun t =>
    t.stc.rearTarget = 300 && t.stc.front = 160 && t.stc.rear = 35 && t.stc.frontPulse = some 1580 &&
      t.stc.rearPulse = some 1536) = true := by decide +kernel

/-- Section 5.12, 350 ms: the reverse target of −400 is 154. -/
theorem test_drive_reverse_target : gives (exec .driveUpdateExpiry
    { armedAt .reverse (-400) with drc := { (armedAt .reverse (-400)).drc with requested := 120, present := 120 } })
    (fun t => t.drc.requested = 154 && t.drc.present = 154 && t.drc.reverseFlag && t.drc.bridge = .driveReverse) = true := by
  decide +kernel

/-- Section 5.12, 2 ms: BRAKE at 500. -/
theorem test_drive_brakes : gives (exec .driveUpdateExpiry (armedAt .forward (-500))) (fun t =>
    t.drc.dir = .brake && t.drc.bridge = .brake 500 && t.drc.brakeFlag && t.drc.present = 0) = true := by decide +kernel

theorem test_gate_expiry_keeps_bridge : gives (exec .gateTimerExpiry
    { armedAt .gate (-400) with drc := { (armedAt .gate (-400)).drc with bridge := .brake 400 } }) (fun t =>
    t.drc.dir = .neutral && t.drc.bridge = .brake 400) = true := by decide +kernel

/-- R98, R99: HIGH from LOW at rest, with its default pulse of 1100. -/
theorem test_shift_to_high : gives (exec .shiftServoRefresh
    { calm with au := { calm.au with image := { calm.au.image with gear := some .high } } }) (fun t =>
    t.drc.gear = .high && t.drc.travel && t.drc.shiftPulse = some 1100) = true := by decide +kernel

theorem test_travel_ends : gives (exec .shiftTravelTimerExpiry
    { calm with drc := { calm.drc with travel := true } }) (fun t => t.drc.travel = false) = true := by decide +kernel

/-- Section 6.15, 1300 ms: the 60th stalled update starts a back-off. -/
theorem test_winch_jam_retry : gives (exec (.winchUpdateExpiry false)
    { hauling { rec .haulIn 600 with moved := 210 } with
      wnc := { (hauling { rec .haulIn 600 with moved := 210 }).wnc with
        requested := 600, present := 600, requestedDir := .inward, stallTime := 295 }
      bga := { calm.bga with winch := { calm.bga.winch with grant := 90 } }
      bsv := { calm.bsv with winchCurrent := 135 } }) (fun t =>
    t.wnc.cap = 600 && t.wnc.backOff && t.wnc.stallTime = 0 && (t.wnc.record.map OpRecord.retries) = some 1) = true := by
  decide +kernel

/-- Section 6.15, 1400 to 1418 ms: recovery is awaited, and the first pulse IN counts it. -/
theorem test_back_off_over : gives (exec .backOffTimerExpiry
    { hauling (rec .haulIn 600) with wnc := { (hauling (rec .haulIn 600)).wnc with backOff := true } }) (fun t =>
    t.wnc.backOff = false && (t.wnc.record.map OpRecord.recoveryAwaited) = some true) = true := by decide +kernel
theorem test_pulse_recovers : gives (exec (.drumPulseArrival .rising)
    { hauling { rec .haulIn 600 with moved := 204, recoveryAwaited := true } with
      wnc := { (hauling { rec .haulIn 600 with moved := 204, recoveryAwaited := true }).wnc with
        position := some 1296, bridge := .windIn } }) (fun t =>
    t.wnc.position = some 1295 && (t.wnc.record.map fun r => (r.moved, r.recovered)) = some (205, 1)) = true := by
  decide +kernel

/-- Section 6.14, event 3: the reserve is entered at 3600 and noted once. -/
theorem test_pulse_enters_reserve : gives (exec (.drumPulseArrival .rising)
    { hauling { rec .payOut 800 with moved := 699 } with
      wnc := { (hauling { rec .payOut 800 with moved := 699 }).wnc with position := some 3599, bridge := .windOut } })
    (fun t => t.wnc.position = some 3600 && t.wnc.reserveWarned &&
      (t.wnc.record.map fun r => (r.moved, r.reserveNoted)) = some (700, true)) = true := by decide +kernel

theorem test_hook_home_ends_haul : gives (exec .hookHomeArrival (hauling { rec .haulIn 600 with moved := 599 })) (fun t =>
    t.wnc.record = none && t.wnc.position = some 0 &&
      t.pli.deferred = some ⟨0x31, ⟨.hookHome, true, false, false, 1⟩, 599, 0, false⟩) = true := by decide +kernel

/-- R121: a HOME whose hook is already home ends GOOD with the position 0 and KNOWN. -/
theorem test_home_at_hook : gives (exec (.winchUpdateExpiry true)
    { hauling (rec .home 600) with wnc := { (hauling (rec .home 600)).wnc with hookHome := true } }) (fun t =>
    t.wnc.record = none && t.wnc.position = some 0 && t.pli.deferred = none) = true := by decide +kernel

/-- Section 6.14, event 6 by the timer in place of the pulse: the row becomes RADIO. -/
theorem test_winch_boundary : gives (exec .winchBoundaryTimerExpiry
    { live with
      rxl := { live.rxl with published := { live.rxl.published with winch := some (-350) } }
      au := { live.au with winch := ⟨.pit, some .radio, false⟩, winchTimer := true } }) (fun t =>
    t.au.winch = ⟨.radio, none, false⟩ && t.au.image.winch = ⟨.speed, -350⟩ && !t.au.winchTimer) = true := by decide +kernel

theorem test_deadline_gives_none : gives (exec (.pitHoldDeadlineExpiry .drive) pitHeld) (fun t =>
    t.au.drive = ⟨.noParty, none, false⟩ && t.au.image.drive = ⟨.command, 0⟩) = true := by decide +kernel

/-- The limited pack of sections 3.9.1 and 7.12: LIMIT, scene 2, a grant of 5. -/
def limited7 (playback : Option Playback) : State :=
  { calm with
    bsv := { calm.bsv with stage := .limit }
    bga := { calm.bga with lights := { calm.bga.lights with grant := 5 } }
    ltc := { calm.ltc with scene := 2, outs := calm.ltc.outs.set 2 ⟨.warn, playback, 0, 0, .released⟩ } }

/-- Section 7.12, a lit step: L2 at 255, L0 at 66, the demand 18. -/
theorem test_lights_lit_step : gives (exec .lightStepExpiry (limited7 none)) (fun t =>
    t.ltc.outs.at2.driven = 255 && t.ltc.outs.at0.driven = 66 && t.ltc.signalSum = 60 && t.ltc.ambientSum = 1700 &&
      t.ltc.demand = 18) = true := by decide +kernel

/-- Section 7.12, a dark step: the fifth lit step is over. -/
theorem test_lights_dark_step : gives (exec .lightStepExpiry (limited7 (some ⟨1, 5⟩))) (fun t =>
    t.ltc.outs.at2.driven = 0 && t.ltc.outs.at6.driven = 75 && t.ltc.signalSum = 0 && t.ltc.demand = 17) = true := by
  decide +kernel

/-- Section 3.9.1: the table of the limited pack. -/
theorem test_budget_limited_pack : gives (exec (.scanCompletion ⟨3325, 3400, 3400, 0, 120, 16, 0⟩)
    { calm with
      bsv := { calm.bsv with stage := .limit }
      bga := { calm.bga with
        steer := { calm.bga.steer with demand := 26 }, drive := { calm.bga.drive with demand := 245 }
        winch := { calm.bga.winch with demand := 60 }, lights := { calm.bga.lights with demand := 18 } } }) (fun t =>
    t.bga.available = 112 && t.bga.remaining = 81 && t.bga.steer.grant = 26 && t.bga.drive.grant = 81 &&
      t.bga.winch.grant = 0 && t.bga.winch.state = .starved && t.bga.lights.grant = 5) = true := by decide +kernel

/-- Section 3.9.2: the same load with an assisted haul on a fresh pack. -/
theorem test_budget_assisted : gives (exec (.scanCompletion ⟨3950, 3950, 3950, 0, 0, 16, 0⟩)
    { hauling (rec .assistHaul 100) with
      bga := { calm.bga with
        steer := { calm.bga.steer with demand := 26 }, drive := { calm.bga.drive with demand := 245 }
        winch := { calm.bga.winch with demand := 60 }, lights := { calm.bga.lights with demand := 18 } } }) (fun t =>
    t.bga.drive.grant = 209 && t.bga.winch.grant = 60 && t.bga.lights.grant = 5 && t.bga.winch.rank = 2) = true := by
  decide +kernel

/-- Section 8.5.1: THROTTLE 1620 with trim +20 and dead band 20 is 591, GEAR 1334 is position 2. -/
theorem test_frame_publishes : gives (exec (.channelFrame (frame 6 [1000, 1620, 640, 1334, 1000, 1000]))
    (withSettings { Settings.defaults with rxl := { RxlSettings.defaults with throttle := ⟨2, false, 20, 20⟩ } } driven))
    (fun t => t.au.image.drive.throttle = 591 && t.au.image.gear = some .dig && t.au.image.winch.speed = -346) = true := by
  decide +kernel

/-- Section 8.4.1, t = 28: a repeat is not published. -/
theorem test_repeat_frame : gives (exec (.channelFrame (frame 5 [1000, 2000, 1000, 1000, 1000, 1000])) driven) (fun t =>
    t.au = driven.au && t.rxl.published = driven.rxl.published) = true := by decide +kernel

theorem test_gap_timeout_hunts : exec .rxlByteGapTimeout live = .next live := rfl
theorem test_receiver_discard_hunts : exec (.receiverFrameDiscard .missingStopBit) live = .next live := rfl
theorem test_pit_gap_timeout_hunts : exec .pitByteGapTimeout live = .next live := rfl
theorem test_pit_discard_hunts : exec (.pitFrameDiscard .byteWhileTransmitting) live = .next live := rfl

/-- Section 8.4.1, t = 142 and t = 542. -/
theorem test_hold_mark : gives (exec .holdMarkExpiry driven) (fun t =>
    t.rxl.link = .hold && t.au = driven.au) = true := by decide +kernel
theorem test_failsafe_mark : gives (exec .failsafeMarkExpiry
    { driven with rxl := { driven.rxl with link := .hold, gap := some ⟨500, true⟩ } }) (fun t =>
    t.rxl.link = .lost && t.au.drive.holder = .auto .failsafe && t.au.image.drive = ⟨.fullBrake, 0⟩ &&
      t.au.image.steer.hold) = true := by decide +kernel

/-- R10: the record of a later PAY_OUT is not that of the AUTO(ASSIST) row. -/
theorem test_lost_frees_assist : gives (exec .failsafeMarkExpiry
    { hauling (rec .payOut 5) with
      rxl := { driven.rxl with link := .hold, gap := some ⟨500, true⟩ }
      au := { (hauling (rec .payOut 5)).au with drive := ⟨.auto .assist, some .radio, false⟩ } }) (fun t =>
    t.au.drive = ⟨.auto .assist, some .noParty, false⟩) = true := by decide +kernel

/-- An owed reply goes before an older one (R158). -/
theorem test_owed_reply_first : gives (exec .replyTransmit { calm with pli := { calm.pli with
      ready := [⟨[⟨0x10, .good, []⟩], false⟩, ⟨[⟨0x43, .good, []⟩], true⟩] } }) (fun t =>
    t.pli.ready = [⟨[⟨0x10, .good, []⟩], false⟩] && t.pli.lastSent.take 5 = [0x5C, 3, 0x43, 0, 0]) = true := by
  decide +kernel

theorem test_reset_waits_for_reply : exec .resetRequestEffect calm = .next calm := rfl
theorem test_reset_request : gives (exec .resetRequestEffect
    { calm with pli := { calm.pli with resetAwaited := true } }) (fun t =>
    t.bsv.resetCause = .request && t.bsv.stage = .normal && t.pli.attention = [.resetOccurred]) = true := by decide +kernel

theorem test_commit_end : gives (exec (.commitProgrammingEnd true)
    { calm with pst := { calm.pst with engine := .commit 1 .defaults, marks := ⟨false, true, false, false⟩ } }) (fun t =>
    t.pst.engine = .idle && t.pst.marks.at1 = false && t.pst.slots.at1 = .valid .defaults) = true := by decide +kernel

/-- Section 9.9, event 4: a failed save meets a full slot. -/
theorem test_pack_save_failure : gives (exec (.packSaveEnd false)
    { calm with
      pst := { calm.pst with engine := .pack ⟨3, 3700, 0, none, 0⟩ }
      pli := { calm.pli with deferred := some ⟨0x31, ⟨.budgetWithdrawn, true, false, false, 120⟩, 780, 0, false⟩ } })
    (fun t => t.pli.deferred = some ⟨0x31, ⟨.budgetWithdrawn, true, false, false, 120⟩, 780, 0, true⟩) = true := by
  decide +kernel

/-! ### Request blocks -/

/-- Section 9.9, event 6: a SET SCENE is turned into the deferred report. -/
theorem test_deferred_report : gives (exec (.setScene (blk [2]))
    { calm with pli := { calm.pli with
        deferred := some ⟨0x31, ⟨.budgetWithdrawn, true, false, false, 120⟩, 780, 0, true⟩ } }) (fun t =>
    t.pli.ready = [⟨[⟨0x23, .check, [5, 3, 7, 120, 0, 0x31, 0x0C, 0x03, 0]⟩], false⟩] && t.pli.deferred = none &&
      t.ltc.scene = 0) = true := by decide +kernel

theorem test_report_status_section : gives (exec (.reportStatus (blk [3])) State.reset) (fun t =>
    (t.pli.ready.map fun r => r.entries.map fun e => (e.status, e.data.length)) = [[(.good, 29)]]) = true := by
  decide +kernel
/-- R102 and R131: what an expiry and an arrival have changed since the latest update is not shown. -/
theorem test_report_status_as_of_update (level : Bool) :
    State.report { calm with drc := { calm.drc with dir := .gate, travel := true } } 5 = calm.report 5 ∧
      State.report { calm with wnc := { calm.wnc with position := some 0, hookHome := level } } 6 = calm.report 6 :=
  ⟨rfl, rfl⟩
theorem test_request_sense_takes_attention : gives (exec (.requestSense (blk [])) State.reset) (fun t =>
    t.pli.ready = [⟨[⟨0x02, .good, [7, 1, 0, 0, 0]⟩], false⟩] && t.pli.attention = []) = true := by decide +kernel
theorem test_claim_drive : gives (exec (.claim (blk [0])) calm) (fun t =>
    t.au.drive = ⟨.pit, none, true⟩ && t.pli.ready = [⟨[⟨0x10, .good, []⟩], false⟩]) = true := by decide +kernel
theorem test_claim_refused_in_live : gives (exec (.claim (blk [0])) driven) (fun t =>
    t.au = driven.au && t.pli.sense.kind = .radioActive) = true := by decide +kernel
theorem test_release_to_none : gives (exec (.release (blk [0])) pitHeld) (fun t =>
    t.au.drive = ⟨.noParty, none, false⟩) = true := by decide +kernel
theorem test_set_drive_signed : gives (exec (.setDrive (blk [0x18, 0xFC])) pitHeld) (fun t =>
    t.au.image.drive = ⟨.command, -1000⟩) = true := by decide +kernel
theorem test_set_drive_out_of_range : gives (exec (.setDrive (blk [0xE9, 0x03])) pitHeld) (fun t =>
    t.au = pitHeld.au && t.pli.sense.kind = .badParameter) = true := by decide +kernel
theorem test_set_steer_mode : gives (exec (.setSteer (blk [0x10, 0x00, 3])) pitHeld) (fun t =>
    t.au.image.steer = ⟨16, false, .crab⟩) = true := by decide +kernel
theorem test_set_gear_dig : gives (exec (.setGear (blk [2])) pitHeld) (fun t => t.au.image.gear = some .dig) = true := by
  decide +kernel
theorem test_set_scene : gives (exec (.setScene (blk [3])) calm) (fun t => t.ltc.scene = 3) = true := by decide +kernel
theorem test_pay_out_unknown : gives (exec (.winchPayOut (blk [0x20, 0x03])) pitHeld) (fun t =>
    t.wnc.record = none && t.pli.sense.kind = .positionUnknown) = true := by decide +kernel
theorem test_haul_in_owes : gives (exec (.winchHaulIn (blk [0x84, 0x03])) pitHeld) (fun t =>
    (t.wnc.record.map OpRecord.target) = some 900 && t.pli.owed = some ⟨[], 0x31⟩ && t.pli.ready = []) = true := by
  decide +kernel
theorem test_haul_to_tension_takes : gives (exec (.winchHaulToTension (blkNow [100, 0, 150, 0, 20])) pitHeld) (fun t =>
    (t.wnc.record.map fun r => (r.target, r.tension, r.settle)) = some (100, 150, 20)) = true := by decide +kernel
theorem test_home_takes_capacity : gives (exec (.winchHome (blkNow [])) pitHeld) (fun t =>
    (t.wnc.record.map OpRecord.target) = some 4000) = true := by decide +kernel
theorem test_assist_restrains : gives (exec (.winchAssistHaul (blkNow [1, 0]))
    { driven with au := { driven.au with winch := ⟨.pit, none, false⟩ } }) (fun t =>
    t.au.drive.pending = some .assist && t.stc.restraint && t.au.image.winch.kind = .operation) = true := by decide +kernel
theorem test_freespool_entry : gives (exec (.winchFreespool (blk [])) pitHeld) (fun t =>
    t.au.image.winch.kind = .freespool) = true := by decide +kernel
theorem test_stop_marks : gives (exec (.winchStop (blk [])) calm) (fun t => t.wnc.stopMark) = true := by decide +kernel
theorem test_abort_completes_owed : gives (exec (.abort (blk []))
    (owedHaul { rec .haulIn 900 with moved := 780 } 0x31)) (fun t =>
    t.wnc.record = none && t.pli.owed = none && t.pli.ready = [
      ⟨[⟨0x31, .check, [4, 2, 1, 120, 0, 0x0C, 0x03, 0]⟩], true⟩, ⟨[⟨0x37, .good, []⟩], false⟩]) = true := by decide +kernel
/-- The failsafe time is setting 0x0110, 500 ms by default (R152, R171). -/
theorem test_read_failsafe_time : gives (exec (.readSetting (blk [0x10, 0x01])) calm) (fun t =>
    t.pli.ready = [⟨[⟨0x40, .good, [0x10, 0x01, 0xF4, 0x01]⟩], false⟩]) = true := by decide +kernel
theorem test_write_failsafe_time : gives (exec (.writeSetting (blk [0x10, 0x01, 0xE8, 0x03])) calm) (fun t =>
    t.pst.working.rxl.failsafeTime = 1000) = true := by decide +kernel
theorem test_write_out_of_range : gives (exec (.writeSetting (blk [0x10, 0x01, 0xE9, 0x03])) calm) (fun t =>
    t.pst.working = calm.pst.working && t.pli.sense.kind = .badParameter) = true := by decide +kernel
theorem test_select_profile : gives (exec (.selectProfile (blk [2])) calm) (fun t => t.pst.active = 2) = true := by
  decide +kernel
theorem test_commit_owes : gives (exec (.commitProfile (blk [])) calm) (fun t =>
    t.pst.engine = .commit 0 .defaults && t.pli.owed = some ⟨[], 0x43⟩) = true := by decide +kernel
theorem test_load_defaults : gives (exec (.loadDefaults (blk []))
    (withSettings { Settings.defaults with rxl := { RxlSettings.defaults with failsafeTime := 200 } } calm)) (fun t =>
    t.pst.working = .defaults) = true := by decide +kernel
theorem test_park : gives (exec (.park (blk [])) calm) (fun t => t.bsv.power = .parked) = true := by decide +kernel
theorem test_reset_not_yet : gives (exec (.reset (blk [])) calm) (fun t =>
    t.pli.ready = [⟨[⟨0x51, .good, []⟩], false⟩] && t.bsv = { calm.bsv with parkTimer := some 5 }) = true := by
  decide +kernel
theorem test_unknown_code : gives (exec (.unknownCode 0x7F (blk [])) calm) (fun t =>
    t.pli.ready = [⟨[⟨0x7F, .check, [2, 1, 0, 0, 0]⟩], false⟩]) = true := by decide +kernel

/-! ### Witnesses. Each meets all the hypotheses of the statement it is named after, and one of them each clause. -/

theorem reaches_of (s : State) (r : Request) (h1 : s.pli.batch = none) (h2 : s.pli.owed = none)
    (h3 : s.bsv.stage = .normal) (h4 : s.bsv.power = .active) (h5 : s.pli.attention = []) (h6 : s.pli.deferred = none) :
    s.Reaches r := by
  refine ⟨⟨?_, ?_, h4, h5, h6⟩, ?_⟩
  · simp [State.Open, h1, h2]
  · simp [h3]
  · cases r <;> simp [State.Fits, State.formed, h1, Request.largestData]

theorem going_of (s : State) (h : s.pli.batch = none) : s.Going := by
  intro bt hb
  simp [h] at hb

theorem fits_of (s : State) (n : Nat) (h : s.pli.batch = none) (hn : n ≤ 96) : s.Fits n := by
  simp [State.Fits, State.formed, h]
  omega

theorem free_of (s : State) (h : s.pli.batch = none) (ho : s.pli.owed = none) : ¬s.Restricted := by
  simp [State.Restricted, h, ho]

theorem calm_reaches (r : Request) : calm.Reaches r := reaches_of _ _ rfl rfl rfl rfl rfl rfl

theorem pitHeld_reaches (r : Request) : pitHeld.Reaches r := reaches_of _ _ rfl rfl rfl rfl rfl rfl

/-- A state with a command in its queue, for the statements about a step. -/
def queued (s : State) : State := { s with pending := [.driveUpdateExpiry] }

theorem witness_StepRunsFrontCommand :
    (queued calm).pending = .driveUpdateExpiry :: [] ∧ calm.pending = [] := by decide

theorem witness_AuthorityShapeKept : (queued pitHeld).au.Shaped ∧ ∃ t, step (queued pitHeld) = .next t :=
  ⟨by unfold Authority.Shaped; decide, _, rfl⟩

theorem witness_LinkAndHoldersKept :
    (queued driven).au.Shaped ∧ (queued driven).HeardPit ∧ (queued driven).RadioHeard ∧
      ∃ t, step (queued driven) = .next t :=
  ⟨by unfold Authority.Shaped; decide, by unfold State.HeardPit; decide, by unfold State.RadioHeard; decide, _, rfl⟩

theorem witness_RecordHeldKept : (queued (hauling (rec .haulIn 5))).au.Shaped ∧
    (queued (hauling (rec .haulIn 5))).RecordHeld ∧ ∃ t, step (queued (hauling (rec .haulIn 5))) = .next t :=
  ⟨by unfold Authority.Shaped; decide, by unfold State.RecordHeld; decide, _, rfl⟩

theorem witness_PowerStateKept : (queued calm).bsv.Powered ∧ ∃ t, step (queued calm) = .next t :=
  ⟨by unfold Battery.Powered; decide, _, rfl⟩

theorem calm_legal : calm.pst.Legal := by
  refine ⟨by decide +kernel, ?_, ?_, ?_, ?_, ?_⟩
  · intro v h; cases h; decide +kernel
  · intro v h; cases h; decide +kernel
  · intro v h; cases h; decide +kernel
  · intro v h; cases h; decide +kernel
  · intro k v h; cases h

theorem witness_SettingsLegalKept : (queued calm).pst.Legal ∧ ∃ t, step (queued calm) = .next t := ⟨calm_legal, _, rfl⟩

theorem witness_ReceiverLinkKept : (queued calm).rxl.Linked ∧ (queued calm).CommandsInRange ∧ (queued calm).pst.Legal ∧
    ∃ t, step (queued calm) = .next t := by
  refine ⟨⟨rfl, ?_, ?_, ?_, ?_, ?_, ?_⟩, ⟨?_, ?_, ?_, ?_, ?_, ?_⟩, calm_legal, _, rfl⟩
  · intro v h; simp [queued, calm, State.reset, Receiver.reset] at h
  · decide
  · intro n h; cases h
  · decide
  · decide
  · decide
  · intro v h; cases h
  · intro v h; cases h
  · intro v h; cases h
  · unfold inRange; decide
  · unfold inRange; decide
  · unfold inRange; decide

theorem witness_QueuesKept : (queued calm).pli.AttentionOnce ∧ (queued calm).pst.SaveWaits ∧
    ∃ t, step (queued calm) = .next t :=
  ⟨by unfold PitLink.AttentionOnce; decide, by unfold Store.SaveWaits; decide, _, rfl⟩

theorem witness_OwedReplyHasWorkKept : (queued (owedHaul (rec .haulIn 5) 0x31)).OwedHasWork ∧
    ∃ t, step (queued (owedHaul (rec .haulIn 5) 0x31)) = .next t := by
  refine ⟨⟨?_, ?_⟩, _, rfl⟩
  · intro o h; cases h; exact .inr ⟨_, rfl, rfl, rfl⟩
  · intro bt h; cases h

theorem witness_MotionKept : (queued (armedAt .forward 0)).drc.gateTimer = none ∧ (queued calm).drc.Dutied ∧
    (queued calm).wnc.Positioned ∧ ∃ t, step (queued calm) = .next t :=
  ⟨rfl, by unfold Drive.Dutied; decide, (by intro p h; cases h), _, rfl⟩

/-- One block, and four. -/
theorem witness_PitBatchReadsBack :
    (∀ l ∈ [[Instr.claim (blk [0])],
        [.claim ⟨0, [0], false⟩, .abort ⟨0, [], false⟩, .unknownCode 0x7F ⟨9, [], false⟩, .park (blk [])]],
      l ≠ [] ∧ l.length ≤ 4 ∧ (∀ i ∈ l, i.wellFormed = true) ∧
      (l.map fun i => (commandBlock i).map fun p => p.2.last) =
        List.replicate (l.length - 1) (some false) ++ [some true]) ∧
    ∀ x ∈ [(0x5D : Byte)], x ≠ 0x5C := by decide

/-- Four channels, and twelve. -/
theorem witness_ReceiverFrameReadsBack :
    ∀ n ∈ [4, 12], 4 ≤ (List.replicate n 65535).length ∧ (List.replicate n 65535).length ≤ 12 ∧
      (∀ v ∈ List.replicate n 65535, v < 65536) ∧ ∀ x ∈ [(0xB4 : Byte)], x ≠ 0xB5 := by decide

/-- A PARKED part, with and without wake on pit. -/
def parkedPart (wakePit : Bool) : State :=
  withSettings { Settings.defaults with bsv := { BsvSettings.defaults with wakePit := wakePit } }
    { calm with bsv := { calm.bsv with power := .parked, railEn := false } }

theorem witness_BlocksHeldBackOrWake :
    commandBlock (.park (blk [])) = some (0x50, blk []) ∧ (0x50 : Byte) ∉ [0x01, 0x02, 0x03] ∧
      State.reset.Open ∧ State.reset.bsv.stage = .ident ∧
      (parkedPart false).Open ∧ (parkedPart false).bsv.stage ≠ .ident ∧ (parkedPart false).bsv.power = .parked ∧
      (parkedPart false).pst.working.bsv.wakePit = false ∧
      (parkedPart true).Open ∧ (parkedPart true).bsv.stage ≠ .ident ∧ (parkedPart true).bsv.power = .parked ∧
      (parkedPart true).pst.working.bsv.wakePit = true := by
  refine ⟨rfl, by decide, rfl, rfl, rfl, by decide, rfl, rfl, rfl, by decide, rfl, rfl⟩

theorem witness_ReportsGoFirst :
    commandBlock (.park (blk [])) = some (0x50, blk []) ∧ (0x50 : Byte) ∉ [0x01, 0x02, 0x03, 0x37] ∧
      ∃ (s : State) (d : Deferred), s.Open ∧ s.bsv.stage ≠ .ident ∧ s.bsv.power = .active ∧ s.pli.attention = [] ∧ s.pli.deferred = some d ∧
        State.Open { s with pli := { s.pli with attention := [.packChanged] } } :=
  ⟨rfl, by decide,
    { calm with pli := { calm.pli with deferred := some ⟨0, ⟨.storeWriteFailed, false, false, false, 0⟩, 0, 0, false⟩ } },
    _, rfl, by decide, rfl, rfl, rfl, rfl⟩

theorem witness_BatchStopsAndRestricts :
    commandBlock (.park (blk [])) = some (0x50, blk []) ∧ (0x50 : Byte) ∉ [0x01, 0x02, 0x37] ∧
      (owedHaul (rec .haulIn 5) 0x31).Going ∧ (owedHaul (rec .haulIn 5) 0x31).Restricted ∧
      ∃ (s : State) (bt : Batch), State.Going calm ∧ s.pli.batch = some bt ∧ bt.stopped = true := by
  refine ⟨rfl, by decide, going_of _ rfl, ?_,
    { calm with pli := { calm.pli with batch := some ⟨[⟨0x10, .check, []⟩], true, false⟩ } }, _, going_of _ rfl, rfl, rfl⟩
  show (owedHaul (rec .haulIn 5) 0x31).pli.owed ≠ none
  decide

/-- A batch whose three entries leave 9 bytes: no largest entry fits. -/
def fullBatch : State :=
  { calm with pli := { calm.pli with batch := some ⟨[⟨0x01, .good, List.replicate 96 0⟩], false, false⟩ } }

/-- A bad value, a wrong place and an entry that may not fit; exempt and not. -/
theorem witness_IllegalBlocksChecked :
    calm.Ready ∧ Request.claim.exempt = false ∧ ¬GoodParams .claim [4] ∧
      ¬calm.WellPlaced .commitProfile ⟨0, [], false⟩ ∧ ¬fullBatch.Fits 0 ∧ fullBatch.Ready ∧
      calm.Going ∧ Request.reportStatus.exempt = true ∧ ¬calm.Restricted ∧ ¬GoodParams .reportStatus [9] := by
  refine ⟨(calm_reaches .claim).1, rfl, by simp [GoodParams], ?_, ?_, ⟨⟨rfl, rfl⟩, by decide, rfl, rfl, rfl⟩, going_of _ rfl, rfl,
    free_of _ rfl rfl, by simp [GoodParams]⟩
  · intro h
    have := h.1 (.inl rfl)
    simp [State.IsLast, State.formed, calm, State.reset, PitLink.reset] at this
  · simp [State.Fits, State.formed, fullBatch]

/-- The first section and the last. -/
theorem witness_ReportStatusAnswers :
    calm.Going ∧ calm.Fits 96 ∧ calm.rxl.slots.length = 12 ∧ (0 : Byte).toNat ≤ 8 ∧ (8 : Byte).toNat ≤ 8 :=
  ⟨going_of _ rfl, fits_of _ _ rfl (by decide), rfl, by decide, by decide⟩

theorem witness_SenseAndIdentityAnswered :
    calm.Going ∧ calm.Fits 5 ∧ ¬calm.Restricted ∧ calm.Fits 12 ∧
      calm.pst.slots = ⟨.valid .defaults, .valid .defaults, .valid .defaults, .valid .defaults⟩ :=
  ⟨going_of _ rfl, fits_of _ _ rfl (by decide), free_of _ rfl rfl, fits_of _ _ rfl (by decide), rfl⟩

/-- A LIVE link with the four rows held as given and the WINCH stick at a speed. -/
def claimed4 (drive winch : AuthRow) (speed : Int) : State :=
  { driven with au := { driven.au with
      drive := drive, winch := winch, image := { driven.au.image with winch := ⟨.speed, speed⟩ } } }

/-- Each case of R11: a pending RADIO; the pit; AUTO(ASSIST) as holder and as pending holder; a DRIVE row under a LIVE link;
the WINCH stick away from neutral; a row that nobody holds; the WINCH stick at neutral. -/
theorem witness_ClaimFollowsTable :
    (∀ (d w : AuthRow) (v : Int), (claimed4 d w v).Reaches .claim ∧ (claimed4 d w v).RecordHeld ∧
        (claimed4 d w v).RadioHeard ∧ (claimed4 d w v).rxl.link = .live ∧ (claimed4 d w v).au.row .drive = d ∧
        (claimed4 d w v).au.row .winch = w ∧ (claimed4 d w v).au.image.winch.speed = v) ∧
      (∀ (c : AuthRow × AuthRow × Int × Byte × SenseKind), c ∈
          [(⟨.auto .failsafe, some .radio, false⟩, ⟨.radio, none, false⟩, 0, 0, .radioActive),
            (⟨.auto .assist, none, false⟩, ⟨.radio, none, false⟩, 0, 0, .autoHeld),
            (⟨.noParty, some .assist, false⟩, ⟨.radio, none, false⟩, 0, 0, .autoHeld),
            (⟨.radio, none, false⟩, ⟨.radio, none, false⟩, 0, 0, .radioActive),
            (⟨.radio, none, false⟩, ⟨.radio, none, false⟩, 7, 3, .radioActive),
            (⟨.radio, none, false⟩, ⟨.pit, none, false⟩, 0, 3, .clear),
            (⟨.radio, none, false⟩, ⟨.noParty, none, false⟩, 0, 3, .clear),
            (⟨.radio, none, false⟩, ⟨.radio, none, false⟩, 0, 3, .clear)] →
        gives (exec (.claim (blk [c.2.2.2.1])) (claimed4 c.1 c.2.1 c.2.2.1)) (fun t =>
          t.pli.sense.kind = c.2.2.2.2) = true) ∧
      pitHeld.Reaches .claim ∧ pitHeld.RecordHeld ∧ pitHeld.RadioHeard ∧ pitHeld.au.drive.holder = .pit ∧
      calm.Reaches .claim ∧ calm.RecordHeld ∧ calm.RadioHeard ∧ (blk [0]).params = [BitVec.ofNat 8 Row.drive.place] ∧
      (blk [3]).params = [BitVec.ofNat 8 Row.winch.place] :=
  ⟨fun _ _ _ => ⟨reaches_of _ _ rfl rfl rfl rfl rfl rfl,
      ⟨fun h => absurd rfl h, ⟨(fun h => nomatch h), fun h => absurd rfl h⟩⟩, fun h => absurd rfl h.1, rfl, rfl, rfl, rfl⟩,
    by decide +kernel, pitHeld_reaches _, by unfold State.RecordHeld; decide, by unfold State.RadioHeard; decide, rfl,
    calm_reaches _, by unfold State.RecordHeld; decide, by unfold State.RadioHeard; decide, rfl, rfl⟩

/-- The pit holds WINCH and STEER under a LIVE link, the bindings live. -/
def pitInLive : State :=
  { live with au := { live.au with winch := ⟨.pit, none, false⟩, steer := ⟨.pit, some .radio, true⟩ } }

/-- A row that goes to NONE, one that the pit does not hold, and rows that go to RADIO. -/
theorem witness_ReleaseLeavesPit :
    pitHeld.Reaches .release ∧ (pitHeld.au.row .winch).holder = .pit ∧ calm.Reaches .release ∧
      (calm.au.row .drive).holder ≠ .pit ∧ (blk [3]).params = [BitVec.ofNat 8 Row.winch.place] ∧
      pitInLive.Reaches .release ∧ pitInLive.rxl.link = .live ∧ pitInLive.wnc.record = none ∧
      ∀ row ∈ [Row.winch, .steer], (pitInLive.au.row row).holder = .pit ∧ pitInLive.rxl.published.live row = true :=
  ⟨pitHeld_reaches _, rfl, calm_reaches _, by decide, rfl, reaches_of _ _ rfl rfl rfl rfl rfl rfl, rfl, rfl, by decide⟩

theorem witness_PitCommandsNeedTheRow :
    Request.heldRow .setDrive = some .drive ∧ calm.Reaches .setDrive ∧ GoodParams .setDrive (blk [0, 0]).params ∧
      calm.WellPlaced .setDrive (blk [0, 0]) ∧ (calm.au.row .drive).holder ≠ .pit := by
  refine ⟨rfl, calm_reaches _, ⟨0, 0, rfl, by simp [inRange, signedOf]⟩, ?_, by decide⟩
  exact ⟨fun h => by simp at h, fun h => by simp [operationRequests] at h⟩

/-- The throttle at both ends of its range, the last gear and the last scene. -/
theorem witness_DriveGearSceneSet :
    pitHeld.Reaches .setDrive ∧ pitHeld.au.drive.holder = .pit ∧ inRange (signedOf 0xE8 0x03) ∧
      inRange (signedOf 0x18 0xFC) ∧ pitHeld.Reaches .setGear ∧ pitHeld.au.gear.holder = .pit ∧ (2 : Byte).toNat ≤ 2 ∧
      calm.Reaches .setScene ∧ (blk [3]).params = [BitVec.ofNat 8 (3 : Fin 4).val] :=
  ⟨pitHeld_reaches _, rfl, by simp [inRange, signedOf], by simp [inRange, signedOf], pitHeld_reaches _, rfl,
    by decide, calm_reaches _, rfl⟩

theorem witness_SteerSetUnderRestraint :
    pitHeld.Reaches .setSteer ∧ pitHeld.au.steer.holder = .pit ∧ inRange (signedOf 0x18 0xFC) ∧
      State.Reaches { pitHeld with stc := { pitHeld.stc with restraint := true } } .setSteer ∧
      SteerMode.crab ≠ pitHeld.au.image.steer.mode ∧ SteerMode.crab ≠ pitHeld.stc.active :=
  ⟨pitHeld_reaches _, rfl, by simp [inRange, signedOf], reaches_of _ _ rfl rfl rfl rfl rfl rfl, by decide, by decide⟩

theorem placed_last (s : State) (r : Request) (p : List Byte) : s.WellPlaced r (blk p) :=
  ⟨fun _ => .inl rfl, fun _ => .inr (.inl rfl)⟩

/-- One state for each case of R117. -/
theorem witness_OperationRefused :
    Request.winchPayOut ∈ operationRequests ∧ GoodParams .winchPayOut (blk [1, 0]).params ∧
      pitHeld.WellPlaced .winchPayOut (blk [1, 0]) ∧ pitHeld.Reaches .winchPayOut ∧ pitHeld.OperationFree ∧
      pitHeld.wnc.position = none ∧ (hauling (rec .payOut 5)).Reaches .winchPayOut ∧
      (hauling (rec .payOut 5)).wnc.record ≠ none ∧
      State.Reaches { pitHeld with au := { pitHeld.au with winch := ⟨.pit, some .radio, false⟩ } } .winchPayOut ∧
      State.Reaches { pitHeld with wnc := { pitHeld.wnc with mode := .jammed } } .winchPayOut ∧
      ∀ st ∈ [Stage.cut, .fault], State.Ready { pitHeld with bsv := { pitHeld.bsv with stage := st } } := by
  refine ⟨by decide, ⟨1, 0, rfl, by decide, by decide⟩, placed_last _ _ _, pitHeld_reaches _,
    ⟨rfl, rfl, by decide, by decide, by decide, by decide⟩, rfl, reaches_of _ _ rfl rfl rfl rfl rfl rfl, by decide,
    reaches_of _ _ rfl rfl rfl rfl rfl rfl, reaches_of _ _ rfl rfl rfl rfl rfl rfl, ?_⟩
  intro st hst
  refine ⟨rfl, ?_, rfl, rfl, rfl⟩
  simp at hst
  rcases hst with rfl | rfl <;> decide

/-- The counts at both ends of their range, with a KNOWN position. -/
theorem witness_OperationTaken :
    State.Reaches { pitHeld with wnc := { pitHeld.wnc with position := some 0 } } .winchPayOut ∧
      pitHeld.Reaches .winchHaulIn ∧ pitHeld.Reaches .winchHaulToTension ∧ pitHeld.Reaches .winchHome ∧
      pitHeld.MayOperate (blk []) ∧ pitHeld.OperationFree ∧ wordOf 1 0 = 1 ∧ wordOf 0x20 0x4E = 20000 ∧
      GoodParams .winchHaulToTension [1, 0, 10, 0, 1] ∧ GoodParams .winchHaulToTension [0x20, 0x4E, 0x90, 0x01, 100] :=
  ⟨reaches_of _ _ rfl rfl rfl rfl rfl rfl, pitHeld_reaches _, pitHeld_reaches _, pitHeld_reaches _, .inr (.inl rfl),
    ⟨rfl, rfl, by decide, by decide, by decide, by decide⟩, by decide, by decide, ⟨_, _, _, _, _, rfl, by decide, by decide, by decide, by decide⟩,
    ⟨_, _, _, _, _, rfl, by decide, by decide, by decide, by decide⟩⟩

/-- The WINCH row under the pit, and DRIVE under a holder. -/
def assistFrom (h : Holder) (pending : Option PendingHolder) (throttle : Int) : State :=
  { live with au := { live.au with
      winch := ⟨.pit, none, false⟩, drive := ⟨h, pending, false⟩
      image := { live.au.image with drive := ⟨.command, throttle⟩ } } }

theorem witness_AssistHaulDecided (h : Holder) (p : Option PendingHolder) (t : Int) :
    (assistFrom h p t).Reaches .winchAssistHaul ∧ (assistFrom h p t).MayOperate (blk [1, 0]) ∧
      (assistFrom h p t).OperationFree ∧ (assistFrom h p t).au.drive = ⟨h, p, false⟩ ∧
      (assistFrom h p t).au.image.drive.throttle = t ∧ 1 ≤ wordOf 1 0 ∧ wordOf 1 0 ≤ 20000 :=
  ⟨reaches_of _ _ rfl rfl rfl rfl rfl rfl, .inr (.inl rfl),
    ⟨rfl, rfl, by simp [assistFrom], by simp [assistFrom, live, calm, State.reset, Winch.reset],
      by simp [assistFrom, live, calm], by simp [assistFrom, live, calm]⟩, rfl, rfl, by decide, by decide⟩

/-- A commit programs and owes its reply, and both an attention entry and a deferred result wait for the console. -/
def committing : State :=
  { calm with
    pst := { calm.pst with engine := .commit 0 .defaults }
    pli := { calm.pli with
      owed := some ⟨[], 0x43⟩, attention := [.packChanged]
      deferred := some ⟨0, ⟨.storeWriteFailed, false, false, false, 0⟩, 0, 0, false⟩ } }

theorem witness_FreespoolAndStopDecided :
    pitHeld.Reaches .winchFreespool ∧ pitHeld.au.winch.holder = .pit ∧ (hauling (rec .haulIn 5)).Reaches .winchFreespool ∧
      (hauling (rec .haulIn 5)).Reaches .winchStop ∧ (hauling (rec .haulIn 5)).RecordHeld ∧
      (hauling (rec .haulIn 5)).wnc.record ≠ none ∧ calm.Reaches .winchStop ∧ calm.wnc.record = none ∧
      committing.Going ∧ committing.bsv.stage ≠ .ident ∧ committing.bsv.power = .active ∧ committing.Fits 0 ∧
      committing.wnc.record = none :=
  ⟨pitHeld_reaches _, rfl, reaches_of _ _ rfl rfl rfl rfl rfl rfl, reaches_of _ _ rfl rfl rfl rfl rfl rfl,
    by unfold State.RecordHeld; decide, by decide, calm_reaches _, rfl, going_of _ rfl, by decide, rfl,
    fits_of _ _ rfl (by decide), rfl⟩

/-- ABORT with the reply owed, and WINCH STOP with the operation answered at once. -/
theorem witness_AbortEndsOperation :
    (owedHaul (rec .haulIn 5) 0x31).Going ∧ (owedHaul (rec .haulIn 5) 0x31).bsv.stage ≠ .ident ∧
      (owedHaul (rec .haulIn 5) 0x31).bsv.power = .active ∧ (owedHaul (rec .haulIn 5) 0x31).Fits 0 ∧
      (owedHaul (rec .haulIn 5) 0x31).RecordHeld ∧
      (owedHaul (rec .haulIn 5) 0x31).wnc.record = some { rec .haulIn 5 with immediate := false } ∧
      (hauling (rec .haulIn 5)).Reaches .winchStop ∧ (hauling (rec .haulIn 5)).RecordHeld ∧
      (hauling (rec .assistHaul 5)).Reaches .winchStop ∧ (hauling (rec .assistHaul 5)).RecordHeld ∧
      (hauling (rec .haulIn 5)).wnc.record = some (rec .haulIn 5) :=
  ⟨going_of _ rfl, by decide, rfl, fits_of _ _ rfl (by decide), by unfold State.RecordHeld; decide, rfl,
    reaches_of _ _ rfl rfl rfl rfl rfl rfl, by unfold State.RecordHeld; decide,
    reaches_of _ _ rfl rfl rfl rfl rfl rfl, by unfold State.RecordHeld; decide, rfl⟩

/-- The first setting and the last scalar that a value fits. -/
theorem witness_SettingReadsBack :
    calm.Reaches .readSetting ∧ SettingId.scalar .failsafeTime ∈ SettingId.list ∧
      (SettingId.scalar .failsafeTime).number = wordOf 0x10 0x01 ∧ Settings.defaults.legal = true ∧
      (writeValue .defaults (.scalar .failsafeTime) [0xC8, 0]).isSome = true ∧
      (writeValue .defaults (.scalar .failsafeTime) [0xE8, 3]).isSome = true :=
  ⟨calm_reaches _, by decide, by decide, by decide +kernel, by decide, by decide⟩

/-- A taken value, a value out of range, and one that breaks an order (a warn threshold below 3450 mV). -/
theorem witness_WriteSettingDecided :
    calm.Reaches .writeSetting ∧ calm.pst.working.legal = true ∧ SettingId.scalar .failsafeTime ∈ SettingId.list ∧
      (SettingId.scalar .failsafeTime).number = wordOf 0x10 0x01 ∧ (∀ k, SettingId.scalar .failsafeTime ≠ .pattern k) ∧
      (writeValue calm.pst.working (.scalar .failsafeTime) [0xC8, 0]).isSome = true ∧
      writeValue calm.pst.working (.scalar .failsafeTime) [0xC7, 0] = none ∧
      (hauling (rec .haulIn 5)).Reaches .writeSetting ∧
      (writeValue calm.pst.working (.scalar .spoolCapacity) [0x84, 0x03]).isSome = true ∧
      ((writeValue calm.pst.working (.scalar .lineReserve) [0xD1, 0x07]).map Settings.legal) = some false := by
  refine ⟨calm_reaches _, by decide +kernel, by decide, by decide, by simp, by decide, by decide,
    reaches_of _ _ rfl rfl rfl rfl rfl rfl, by decide, by decide +kernel⟩

/-- The staging list of section 10.5.1 after its first part. -/
def staged : State := { calm with pst := { calm.pst with staging := some ⟨6, 10, List.replicate 6 ⟨0, 1⟩⟩ } }

/-- The whole list in one part of six, the last part of sixteen, a part that does not follow on, the second part of section
10.5.1 sent with n = 9 (it empties the list), and a part with f = 1 of a wrong length. -/
theorem witness_PatternWrittenInParts :
    calm.Reaches .writeSetting ∧ (∃ lo hi, (SettingId.pattern 6).number = wordOf lo hi) ∧
      (1 ≤ 6 ∧ 6 ≤ 16 ∧ (List.replicate 6 (⟨255, 50⟩ : PatternStep)).length = min 6 (6 - 1 + 1)) ∧
      (13 ≤ 16 ∧ (List.replicate 4 (⟨0, 1⟩ : PatternStep)).length = min 6 (16 - 13 + 1)) ∧
      State.Reaches { calm with pst := { calm.pst with staging := some ⟨6, 16, List.replicate 12 ⟨0, 1⟩⟩ } }
        .writeSetting ∧
      (∀ l, calm.pst.staging = some ⟨6, 16, l⟩ → l.length ≠ 6) ∧ staged.Reaches .writeSetting ∧
      (SettingId.pattern 6).number = wordOf 0x26 0x07 ∧
      (¬∃ n more l, (9 :: List.replicate 8 1 : List Byte) = n :: more ∧ staged.pst.staging = some ⟨6, n.toNat, l⟩ ∧
        l.length = (7 : Byte).toNat - 1) ∧
      gives (exec (.writeSetting (blk ([0x26, 0x07, 7, 9] ++ List.replicate 8 1))) staged) (fun t =>
        t.pst.staging = none && t.pli.sense.kind = .badParameter) = true ∧
      gives (exec (.writeSetting (blk ([0x26, 0x07, 1, 9] ++ List.replicate 8 1))) staged) (fun t =>
        t.pst = staged.pst && t.pli.sense.kind = .badParameter) = true := by
  refine ⟨calm_reaches _, ?_, by decide, by decide, reaches_of _ _ rfl rfl rfl rfl rfl rfl, ?_,
    reaches_of _ _ rfl rfl rfl rfl rfl rfl, by decide, ?_, by decide +kernel, by decide +kernel⟩
  · exact ⟨BitVec.ofNat 8 ((SettingId.pattern 6).number % 256), BitVec.ofNat 8 ((SettingId.pattern 6).number / 256),
      by decide⟩
  · intro l h; cases h
  · rintro ⟨n, more, l, h, hs, -⟩
    cases h
    simp [staged] at hs

theorem witness_WorkingCopyReplaced :
    calm.Reaches .selectProfile ∧ GoodParams .selectProfile (blk [3]).params ∧
      calm.WellPlaced .selectProfile (blk [3]) ∧ (blk [3]).params = [BitVec.ofNat 8 (3 : Fin 4).val] ∧
      calm.pst.engine = .idle ∧ calm.drc.dir = .neutral ∧ calm.wnc.mode = .hold ∧ calm.wnc.record = none ∧
      calm.pst.marks.get 3 = false ∧ calm.pst.slots.get 3 = .valid .defaults ∧ calm.Reaches .loadDefaults ∧
      State.Reaches { calm with pst := { calm.pst with engine := .commit 0 .defaults } } .selectProfile ∧
      (armedAt .forward 0).Reaches .selectProfile ∧ (armedAt .forward 0).drc.dir ≠ .neutral ∧
      (hauling (rec .haulIn 5)).Reaches .loadDefaults :=
  ⟨calm_reaches _, ⟨3, rfl, by decide⟩, placed_last _ _ _, rfl, rfl, rfl, rfl, rfl, rfl, rfl, calm_reaches _,
    reaches_of _ _ rfl rfl rfl rfl rfl rfl, reaches_of _ _ rfl rfl rfl rfl rfl rfl, by decide,
    reaches_of _ _ rfl rfl rfl rfl rfl rfl⟩

/-- A commit whose reply is owed, one whose console is gone, and one that a FAULT shutdown waits for, with a save pending. -/
theorem witness_CommitRunsToItsReply :
    calm.Reaches .commitProfile ∧ calm.IsLast (blk []) ∧ calm.pst.engine = .idle ∧
      (∀ pending : Bool, ∀ owed ∈ [none, some (⟨[], 0x43⟩ : Owed)],
        ∃ s : State, s.pst.engine = .commit 0 .defaults ∧ s.pst.packPending = pending ∧ s.pli.owed = owed ∧
          s.bsv.power = .shutdown ∧ s.bsv.stage = .fault ∧ ∀ o, s.pli.owed = some o → o.code = 0x43) := by
  refine ⟨calm_reaches _, .inl rfl, rfl, ?_⟩
  intro pending owed h
  refine ⟨{ calm with
      bsv := { calm.bsv with power := .shutdown, stage := .fault }
      pst := { calm.pst with engine := .commit 0 .defaults, packPending := pending }
      pli := { calm.pli with owed := owed } }, rfl, rfl, rfl, rfl, rfl, ?_⟩
  simp at h
  rcases h with rfl | rfl <;> simp

/-- A save with nothing pending and one with a second save behind it. -/
theorem witness_PackSaveEnds :
    ∀ pending : Bool, ∃ (s : State) (p : PackRecord), s.pst.engine = .pack p ∧ s.pst.packPending = pending :=
  fun pending =>
    ⟨{ calm with pst := { calm.pst with engine := .pack ⟨3, 3700, 0, none, 0⟩, packPending := pending } }, _, rfl, rfl⟩

theorem witness_ParkAndResetDecided :
    calm.Reaches .park ∧ calm.drc.dir = .neutral ∧ calm.wnc.mode = .hold ∧ calm.wnc.record = none ∧ calm.Reaches .reset ∧
      calm.IsLast (blk []) ∧ (armedAt .forward 0).Reaches .reset ∧ (armedAt .forward 0).WellPlaced .reset (blk []) ∧
      (armedAt .forward 0).drc.dir ≠ .neutral :=
  ⟨calm_reaches _, rfl, rfl, rfl, calm_reaches _, .inl rfl, reaches_of _ _ rfl rfl rfl rfl rfl rfl, placed_last _ _ _,
    by decide⟩

theorem witness_ParkIdleTimerExpires :
    Battery.Powered { calm.bsv with parkTimer := some 5 } ∧ (some 5 : Option Nat) ≠ none ∧
      State.bsv { hauling (rec .haulIn 5) with bsv := { calm.bsv with parkTimer := some 5 } } =
        { calm.bsv with parkTimer := some 5 } :=
  ⟨by unfold Battery.Powered; decide, by decide, rfl⟩

theorem witness_PowerOnSetsEveryBlock :
    Instr.powerOnReset = .powerOnReset ∧ ResetCause.powerOn = .powerOn ∧ Instr.brownoutReset = .brownoutReset ∧
      ResetCause.brownout = .brownout := ⟨rfl, rfl, rfl, rfl⟩

/-- An unmarked slot, and a marked one. -/
theorem witness_ResetRequestTakesEffect :
    calm.pst.marks.get calm.pst.active = false ∧ calm.pst.slots.get calm.pst.active = .valid .defaults ∧
      calm.pli.resetAwaited = false ∧
      State.pli { calm with pli := { calm.pli with resetAwaited := true } } = { calm.pli with resetAwaited := true } ∧
      Store.marks { calm.pst with marks := ⟨true, false, false, false⟩ } = ⟨true, false, false, false⟩ :=
  ⟨rfl, rfl, rfl, rfl, rfl⟩

/-- A stage, and the first and the 15th scan of IDENT. -/
theorem witness_ScanRecordsReadings :
    calm.bsv.power ≠ .shutdown ∧ calm.bsv.stage ≠ .ident ∧ State.reset.bsv.stage = .ident ∧
      State.reset.bsv.power = .active ∧ State.reset.bsv.identScans < 15 ∧
      Battery.identScans { State.reset.bsv with identScans := 14 } < 15 := by decide

/-- The runs at the scan that completes each. -/
theorem witness_ScanMovesStage :
    calm.bsv.power ≠ .shutdown ∧ (∀ st ∈ [Stage.normal, .warn, .limit], st ∈ [Stage.normal, .warn, .limit]) ∧
      calm.bsv.storageRun < 2499 ∧
      Battery.storageRun { calm.bsv with storageRun := 2498, cutRun := 124, limitRun := 249, recoveryRun := 1249 } < 2499 := by
  decide

/-- The same pack with its gate crossed and not, in NORMAL and below warn, a new pack, and no pack. -/
theorem witness_IdentificationEnds :
    (∀ p n, (identifying p n).bsv.stage = .ident ∧ (identifying p n).bsv.power = .active ∧
        (identifying p n).bsv.identScans = 15) ∧
      gives (exec (.scanCompletion ⟨3790, 3801, 3776, 0, 6, 0, 0⟩) (identifying (.valid ⟨3, 3720, 1840, none, 0⟩) 2200))
        (fun t => t.bsv.stage = .warn && t.bsv.gateWarned && t.bsv.gateCrossed && t.bsv.identityCells = 3) = true ∧
      gives (exec (.scanCompletion ⟨3790, 3801, 3776, 0, 6, 0, 0⟩) (identifying (.valid ⟨3, 3720, 1840, none, 0⟩) 0))
        (fun t => t.bsv.stage = .normal && !t.bsv.gateWarned && !t.bsv.gateCrossed) = true ∧
      gives (exec (.scanCompletion ⟨3490, 3801, 3776, 0, 0, 0, 0⟩) (identifying (.valid ⟨3, 3720, 1840, none, 0⟩) 2200))
        (fun t => t.bsv.stage = .warn && !t.bsv.gateWarned && t.bsv.gateCrossed) = true ∧
      gives (exec (.scanCompletion ⟨3390, 3801, 3776, 0, 0, 0, 0⟩) (identifying .absent 0))
        (fun t => t.bsv.stage = .limit && t.bsv.identityCells = 3) = true ∧
      gives (exec (.scanCompletion ⟨0, 0, 0, 0, 0, 0, 0⟩) (identifying .absent 0)) (fun t =>
        t.bsv.stage = .fault && t.bsv.identityCells = 0) = true :=
  ⟨fun _ _ => ⟨rfl, rfl, rfl⟩, by decide +kernel, by decide +kernel, by decide +kernel, by decide +kernel,
    by decide +kernel⟩

theorem witness_StorageRunShutsDown :
    ∀ st ∈ [Stage.normal, .warn, .limit, .cut, .fault],
      calm.bsv.power ≠ .shutdown ∧ st ≠ .ident ∧ Battery.storageRun { calm.bsv with storageRun := 2499 } = 2499 := by decide

theorem witness_GrantsServedByRank : calm.bsv.power ≠ .shutdown := by decide

/-- A refresh between pulses, the first after a reset, the first after a wake (it commands the held 320 and 0, R80), and one
that is the boundary of a pending RADIO. -/
theorem witness_SteeringRefreshes : (turning .front 45 320 0).au.steer.pending = none ∧
    (turning .front 45 320 0).pst.working.legal = true ∧ (turning .front 45 320 0).stc.unpulsed = false ∧
    State.reset.au.steer.pending = none ∧ State.reset.stc.unpulsed = true ∧
    Authority.steer { live.au with steer := ⟨.pit, some .radio, true⟩ } = ⟨.pit, some .radio, true⟩ ∧
    live.rxl.published.steer ≠ none ∧
    gives (exec .servoRefreshExpiry
      { turning .front 45 320 0 with stc := { (turning .front 45 320 0).stc with unpulsed := true } }) (fun t =>
      t.stc.front = 320 && t.stc.rear = 0 && !t.stc.unpulsed) = true :=
  ⟨rfl, by decide +kernel, rfl, rfl, rfl, rfl, by decide, by decide +kernel⟩

/-- Each direction state with each sign of throttle, and each pending holder. -/
theorem witness_DriveGovernedByTable :
    (∀ d t, (armedAt d t).au.drive.pending = none ∧ (armedAt d t).bsv.power = .active ∧
      (armedAt d t).bsv.stage ∉ [Stage.ident, .cut, .fault] ∧ (armedAt d t).au.image.drive.kind = .command ∧
      (armedAt d t).drc.armed = true ∧ (armedAt d t).drc.dir = d ∧ (armedAt d t).au.image.drive.throttle = t) ∧
    live.drc.dir ≠ .gate ∧ live.rxl.published.throttle ≠ none ∧ (assistFrom (.auto .assist) (some .radio) 0).drc.dir ≠ .gate ∧
    (assistFrom (.auto .assist) (some .radio) 0).au.drive = ⟨.auto .assist, some .radio, false⟩ ∧
    (assistFrom (.auto .assist) (some .radio) 0).rxl.published.throttle ≠ none ∧
    Holder.pit ∈ [Holder.pit, .auto .failsafe, .noParty] :=
  ⟨fun _ _ => ⟨rfl, rfl, by simp [armedAt, calm], rfl, rfl, rfl, rfl⟩, by decide, by decide, by decide, rfl, by decide,
    by decide⟩

theorem witness_DriveDutiesRamp (d : DirState) (t : Int) :
    (armedAt d t).au.drive.pending = none ∧ (armedAt d t).bsv.power = .active ∧
      (armedAt d t).bsv.stage ∉ [Stage.ident, .cut, .fault] ∧ (armedAt d t).drc.armed = true :=
  ⟨rfl, rfl, by simp [armedAt, calm], rfl⟩

theorem witness_TimersExpire :
    calm.drc.gateTimer = none ∧ (armedAt .gate 0).drc.gateTimer ≠ none ∧ calm.wnc.backOff = false ∧
      Winch.backOff { calm.wnc with backOff := true } = true ∧ calm.wnc.record = none ∧
      (hauling (rec .haulIn 5)).wnc.record = some (rec .haulIn 5) ∧ calm.au.winchTimer = false ∧
      Authority.winchTimer { live.au with winch := ⟨.pit, some .radio, false⟩, winchTimer := true } = true ∧
      live.rxl.published.winch ≠ none ∧ calm.au.drive.deadline = false ∧ pitHeld.au.drive.deadline = true ∧
      calm.au.steer.deadline = false ∧ pitHeld.au.steer.deadline = true ∧ calm.rxl.gap = none ∧
      driven.rxl.gap = some ⟨500, false⟩ ∧ driven.rxl.link = .live := by decide

/-- The duty at the threshold, a neutral count of 100 for DIG and one of 99. -/
theorem witness_ShiftServoRefreshes :
    calm.au.gear.pending = none ∧ calm.bsv.railEn = true ∧ calm.drc.travel = false ∧ calm.drc.unpulsed = false ∧
      State.reset.au.gear.pending = none ∧ State.reset.bsv.railEn = true ∧ State.reset.drc.unpulsed = true ∧
      Drive.present { calm.drc with present := 100 } ≤ calm.pst.working.drc.shiftThreshold ∧
      Drive.neutralCount { calm.drc with neutralCount := 100 } = 100 ∧
      Drive.neutralCount { calm.drc with neutralCount := 99 } ≠ 100 ∧ calm.drc.gear ≠ .dig ∧
      (parkedPart true).bsv.railEn = false ∧ live.rxl.published.gear ≠ none := by decide

/-- Each clause of the winch update: a driven drum, the shut down part, a starved operation. -/
theorem witness_WinchDrivenSafely :
    gives (exec (.winchUpdateExpiry false)
        { hauling (rec .haulIn 5) with bga := { calm.bga with winch := { calm.bga.winch with grant := 30 } } })
        (fun t => t.wnc.present = 50 && t.wnc.bridge = .windIn) = true ∧
      gives (exec (.winchUpdateExpiry false)
        { hauling (rec .haulIn 5) with bga := { calm.bga with winch := { calm.bga.winch with grant := 29 } } })
        (fun t => t.wnc.present = 0 && t.wnc.bridge = .brake && t.bga.winch.demand = 8) = true ∧
      gives (exec (.winchUpdateExpiry false) (hauling { rec .haulIn 5 with starvedFor := some 2000 }))
        (fun t => t.wnc.record = none && (t.pli.deferred.map fun d => d.sense.kind) = some .budgetWithdrawn) = true ∧
      (hauling (rec .home 5)).wnc.record = some (rec .home 5) ∧ (hauling (rec .home 5)).bsv.stage = .normal ∧
      (hauling (rec .home 5)).bsv.power ≠ .shutdown ∧ (rec .home 5).immediate = true := by
  decide +kernel

/-- A stick to each side and at neutral; JAMMED left and kept. -/
def stick (mode : WinchMode) (v : Int) : State :=
  { driven with
    wnc := { driven.wnc with mode := mode }, au := { driven.au with image := { driven.au.image with winch := ⟨.speed, v⟩ } } }

theorem witness_WinchFollowsStick (m : WinchMode) (v : Int) :
    (stick m v).wnc.record = none ∧ (stick m v).bsv.power = .active ∧
      (stick m v).bsv.stage ∈ [Stage.normal, .warn, .limit] ∧ (stick m v).au.image.winch = ⟨.speed, v⟩ ∧
      (stick m v).au.winch.holder = .radio ∧ (stick m v).wnc.stopMark = false ∧ (stick m v).wnc.mode = m :=
  ⟨rfl, rfl, by simp [stick, driven, live, calm], rfl, rfl, rfl, rfl⟩

/-- Each kind of operation, just below 2000 ms of starvation, with 2 and with 3 retries used. -/
theorem witness_OperationIsDriven (k : OpKind) (n : Nat) :
    ∃ (r : OpRecord) (s : State), r.kind = k ∧ r.retries = n ∧ s.wnc.record = some r ∧ s.bsv.power = .active ∧
      s.bsv.stage ∈ [Stage.normal, .warn, .limit] ∧ (s.wnc.mode ≠ .jammed ∨ s.wnc.stopMark = true) ∧
      (r.kind = .payOut → 0 < s.pst.working.wnc.spoolCapacity ∧
        s.wnc.position ≠ some s.pst.working.wnc.spoolCapacity) ∧ ∀ x, r.starvedFor = some x → x < 2000 :=
  ⟨{ rec k 5 with retries := n, starvedFor := some 1999 }, hauling { rec k 5 with retries := n, starvedFor := some 1999 },
    rfl, rfl, rfl, rfl, by simp [hauling, pitHeld, calm], .inl (by simp [hauling]),
    fun _ => ⟨Nat.zero_lt_of_lt (by decide : 0 < 4000), by simp [hauling, pitHeld, calm, State.reset, Winch.reset]⟩, by simp⟩

theorem witness_PulsesAndHookMoveTheLine :
    CountEdge.rising ≠ .both ∧ (Edge.falling = .rising ↔ CountEdge.rising = .falling) ∧
      ¬(Edge.rising = .rising ↔ CountEdge.rising = .falling) ∧ calm.wnc.record = none ∧ calm.au.winch.pending = none ∧
      live.rxl.published.winch ≠ none ∧ (hauling (rec .haulIn 5)).wnc.record = some (rec .haulIn 5) ∧
      (hauling (rec .payOut 5)).wnc.record = some (rec .payOut 5) := by decide

/-- A pulse in the direction and one against it, below the count, at the count and at the capacity, from each edge that
the count edge selects, and with the hook home or not. -/
theorem witness_PulsesCountTheOperation (k : OpKind) (n : Nat) (noted hook : Bool) (e : Edge) (edge : CountEdge)
    (h : edge = .both ∨ ¬(e = .rising ↔ edge = .falling)) :
    ∃ (s : State) (q : OpRecord), s.wnc.record = some { rec k 5 with moved := n, reserveNoted := noted } ∧
      s.wnc.edge = edge ∧ (s.wnc.edge = .both ∨ ¬(e = .rising ↔ s.wnc.edge = .falling)) ∧
      s.wnc.hookHome = hook ∧ s.au.winch.pending = none ∧
      (noted = true ↔ noted = true ∨ k = .payOut ∧ ∃ p, s.wnc.positionAfter = some p ∧
        s.wnc.capacity - p ≤ s.pst.working.wnc.lineReserve ∧ (s.wnc.reserveWarned = false ∨ p = 0)) ∧
      q = (if s.wnc.pulseToward = (if k = .payOut then .out else .inward) then
        { rec k 5 with moved := n + 1, reserveNoted := noted } else { rec k 5 with moved := n - 1, reserveNoted := noted }) :=
  ⟨{ hauling { rec k 5 with moved := n, reserveNoted := noted } with
      wnc := { (hauling { rec k 5 with moved := n, reserveNoted := noted }).wnc with edge := edge, hookHome := hook } },
    _, rfl, rfl, h, rfl, rfl, by simp [Winch.positionAfter, hauling, pitHeld, calm, State.reset, Winch.reset], rfl⟩

/-- A pattern overlay that goes on, one that begins, a scene level, the brake and reverse overlays, and a dark part. -/
theorem witness_LightOverlaysShown :
    gives (exec .lightStepExpiry (limited7 (some ⟨1, 5⟩))) (fun t =>
      t.ltc.outs.at2.overlay = .warn && t.ltc.outs.at0.overlay = .scene && t.bsv.power = .active) = true ∧
    gives (exec .lightStepExpiry { calm with
        drc := { calm.drc with brakeFlag := true, reverseFlag := true }
        pst := { calm.pst with working := { calm.pst.working with ltc := { calm.pst.working.ltc with
          outputs := calm.pst.working.ltc.outputs.set 7 { calm.pst.working.ltc.outputs.at7 with role := .reverse } } } } })
      (fun t => t.ltc.outs.at3.overlay = .brake && t.ltc.outs.at7.overlay = .reverse) = true ∧
    (limited7 (some ⟨1, 5⟩)).ltc.outs.at2.overlay = .warn ∧ (parkedPart true).bsv.power = .parked ∧
      Battery.power { calm.bsv with power := .shutdown } = .shutdown := by decide +kernel

/-- FAULT and another stage; the charges that the two sums are formed from, and a driven and a dark output. -/
theorem witness_LightGrantDivided :
    Battery.stage { calm.bsv with stage := .fault } = .fault ∧ calm.bsv.stage ≠ .fault ∧
    (∃ chargeOf : Fin 8 → Nat, ∀ k, chargeOf k =
      (calm.pst.working.ltc.outputs.get k).nominal * (calm.ltc.outs.get k).selected / 255) ∧
    gives (exec .lightStepExpiry (limited7 none)) (fun t =>
      0 < t.ltc.outs.at2.driven && t.ltc.outs.toList.any (fun o => o.driven = 0)) = true :=
  ⟨by decide, by decide, ⟨_, fun _ => rfl⟩, by decide +kernel⟩

/-- A frame of each class of R150. -/
theorem witness_FrameMovesLink :
    (receiverFrameOf (frame 6 [1, 2, 3, 4])).map (fun f => (decide (f.crc = crc8 f.checked), f.failsafe, f.counter)) =
        some (true, false, 6) ∧
      (receiverFrameOf (frame 0x86 [1, 2, 3, 4])).map (fun f => (decide (f.crc = crc8 f.checked), f.failsafe)) =
        some (true, true) ∧
      (receiverFrameOf [9, 0, 1, 0, 2, 0, 3, 0, 4, 0, 0]).map (fun f => decide (f.crc = crc8 f.checked)) = some false ∧
      live.rxl.lastCounter = some 5 := by decide +kernel

/-- An assisted haul whose WINCH stick leaves neutral in the frame, with DRIVE under AUTO(ASSIST) and under RADIO with a
pending AUTO(ASSIST): the frame that takes the winch over. -/
def assistedPart (h : Holder) (pending : Option PendingHolder) : State :=
  { driven with
    wnc := { driven.wnc with record := some (rec .assistHaul 5), mode := .operation }
    au := { driven.au with drive := ⟨h, pending, false⟩, winch := ⟨.pit, none, false⟩ } }

/-- The failsafe took every row, and two new frames of the run have come in time. -/
def recoveringPart : State :=
  { driven with
    rxl := { driven.rxl with link := .recovering, run := 2 }
    au := { driven.au with
      drive := ⟨.auto .failsafe, none, false⟩, steer := ⟨.auto .failsafe, none, false⟩
      gear := ⟨.auto .failsafe, none, false⟩, winch := ⟨.auto .failsafe, none, false⟩ } }

theorem witness_PublishedFrameReachesRows :
    ∃ f, receiverFrameOf (frame 6 [1000, 2000, 0, 2000, 1000, 0]) = some f ∧ f.crc = crc8 f.checked ∧
      f.failsafe = false ∧ driven.rxl.lastCounter ≠ some f.counter ∧ driven.rxl.link = .live ∧
      driven.au.drive.holder = .radio ∧ live.au.drive.holder = .noParty ∧ live.rxl.link = .live ∧
      (∀ h p, (assistedPart h p).rxl.lastCounter ≠ some f.counter ∧ (assistedPart h p).rxl.link = .live ∧
        (assistedPart h p).au.drive = ⟨h, p, false⟩ ∧ (assistedPart h p).assistTakenOver (some 346) = true ∧
        (assistedPart h p).assistTakenOver (some 0) = false) :=
  ⟨_, rfl, by decide +kernel, by decide, by decide, rfl, rfl, rfl, rfl, fun _ _ =>
    ⟨by show driven.rxl.lastCounter ≠ _; decide, rfl, rfl, rfl, rfl⟩⟩

/-- The radio's rows in HOLD, the GEAR binding moved to a channel that no frame of six reaches. -/
def gearUnreached : State :=
  withSettings { Settings.defaults with rxl := { RxlSettings.defaults with gear := .switch 12 } }
    { driven with rxl := { driven.rxl with link := .hold } }

/-- From ABSENT with the pit's rows, from HOLD with the radio's, from a RECOVERING run that this frame completes, and with an
assisted haul in flight; a RADIO row whose binding is no longer live, and a PARKED part that the frame wakes. -/
theorem witness_EntryToLiveGivesRows :
    (∃ f, receiverFrameOf (frame 6 [1, 2, 3, 4]) = some f ∧ f.crc = crc8 f.checked ∧ f.failsafe = false ∧
        pitHeld.rxl.lastCounter ≠ some f.counter ∧ driven.rxl.lastCounter ≠ some f.counter) ∧
      pitHeld.rxl.link = .absent ∧ pitHeld.au.drive.holder = .pit ∧
      Receiver.link { driven.rxl with link := .hold } = .hold ∧ driven.au.drive.holder = .radio ∧
      (recoveringPart).rxl.link = .recovering ∧ 2 ≤ recoveringPart.rxl.run ∧
      (∀ g, recoveringPart.rxl.gap = some g → g.holdPassed = false) ∧
      recoveringPart.au.drive.holder = .auto .failsafe ∧ recoveringPart.rxl.lastCounter = driven.rxl.lastCounter ∧
      (∀ h p, (assistedPart h p).au.drive = ⟨h, p, false⟩ ∧ (assistedPart h p).assistCutShort = true) ∧
      gives (exec (.channelFrame (frame 6 [1000, 2000, 1000, 1000, 1000, 0])) gearUnreached) (fun t =>
        t.rxl.published.gear = none && t.au.gear = ⟨.noParty, none, false⟩ && t.au.drive.holder = .radio &&
          t.ltc.heldPos = some 0) = true ∧
      gives (exec (.channelFrame (frame 6 [1000, 2000, 1000, 1000, 1000, 0]))
        { gearUnreached with bsv := { calm.bsv with power := .parked, railEn := false } }) (fun t =>
        t.bsv.power = .active && t.bsv.railEn) = true :=
  ⟨⟨_, rfl, by decide +kernel, by decide, by decide, by decide⟩, rfl, rfl, rfl, rfl, rfl, by decide,
    (by intro g h; cases h; rfl), rfl, rfl, fun _ _ => ⟨rfl, rfl⟩, by decide +kernel, by decide +kernel⟩

/-- Nothing ready; an owed reply behind another; two that are not owed. -/
theorem witness_ReplyTransmitted :
    calm.pli.ready = [] ∧ calm.pli.assembler = .hunting ∧
      (∀ l1 ∈ [[(⟨[⟨0x10, .good, []⟩], false⟩ : Reply)]], ∀ x ∈ l1, x.owed = false) ∧
      ∀ x ∈ [(⟨[⟨0x51, .good, []⟩], false⟩ : Reply), ⟨[⟨0x10, .good, []⟩], false⟩], x.owed = false := by decide

end Sys2Proof.Tests
end

section
/-! The rows of the authority table at the entries to LIVE and LOST and at a published frame: what each row's operation
leaves alone, said once for each operation. -/

namespace Sys2Proof.Machine

/-! ### What an operation on one row leaves alone -/

/-- The parts of the state that an operation on the DRIVE row alone leaves as they were. -/
structure State.DriveOnly (s t : State) : Prop where
  rxl : t.rxl = s.rxl
  bsv : t.bsv = s.bsv
  bga : t.bga = s.bga
  stc : t.stc = s.stc
  wnc : t.wnc = s.wnc
  ltc : t.ltc = s.ltc
  pli : t.pli = s.pli
  pst : t.pst = s.pst
  pending : t.pending = s.pending
  steer : t.au.steer = s.au.steer
  gear : t.au.gear = s.au.gear
  winch : t.au.winch = s.au.winch
  winchTimer : t.au.winchTimer = s.au.winchTimer
  imageSteer : t.au.image.steer = s.au.image.steer
  imageGear : t.au.image.gear = s.au.image.gear
  imageWinch : t.au.image.winch = s.au.image.winch

/-- The parts of the state that an operation on the STEER row alone leaves as they were. -/
structure State.SteerOnly (s t : State) : Prop where
  rxl : t.rxl = s.rxl
  bsv : t.bsv = s.bsv
  bga : t.bga = s.bga
  stc : t.stc = s.stc
  drc : t.drc = s.drc
  wnc : t.wnc = s.wnc
  ltc : t.ltc = s.ltc
  pli : t.pli = s.pli
  pst : t.pst = s.pst
  pending : t.pending = s.pending
  drive : t.au.drive = s.au.drive
  gear : t.au.gear = s.au.gear
  winch : t.au.winch = s.au.winch
  winchTimer : t.au.winchTimer = s.au.winchTimer
  imageDrive : t.au.image.drive = s.au.image.drive
  imageGear : t.au.image.gear = s.au.image.gear
  imageWinch : t.au.image.winch = s.au.image.winch

/-- The parts of the state that an operation on the GEAR row alone leaves as they were. -/
structure State.GearOnly (s t : State) : Prop where
  rxl : t.rxl = s.rxl
  bsv : t.bsv = s.bsv
  bga : t.bga = s.bga
  stc : t.stc = s.stc
  drc : t.drc = s.drc
  wnc : t.wnc = s.wnc
  ltc : t.ltc = s.ltc
  pli : t.pli = s.pli
  pst : t.pst = s.pst
  pending : t.pending = s.pending
  drive : t.au.drive = s.au.drive
  steer : t.au.steer = s.au.steer
  winch : t.au.winch = s.au.winch
  winchTimer : t.au.winchTimer = s.au.winchTimer
  imageDrive : t.au.image.drive = s.au.image.drive
  imageSteer : t.au.image.steer = s.au.image.steer
  imageWinch : t.au.image.winch = s.au.image.winch

theorem State.DriveOnly.refl (s : State) : s.DriveOnly s := by constructor <;> rfl
theorem State.SteerOnly.refl (s : State) : s.SteerOnly s := by constructor <;> rfl
theorem State.GearOnly.refl (s : State) : s.GearOnly s := by constructor <;> rfl

theorem State.giveDrive_only (s : State) (h : Holder) (p : Option PendingHolder) : s.DriveOnly (s.giveDrive h p) := by
  constructor <;> simp [State.giveDrive_au]

theorem State.giveSteer_only (s : State) (h : Holder) (p : Option PendingHolder) : s.SteerOnly (s.giveSteer h p) := by
  constructor <;> simp [State.giveSteer_au]

theorem State.giveGear_only (s : State) (h : Holder) (p : Option PendingHolder) : s.GearOnly (s.giveGear h p) := by
  constructor <;> simp [State.giveGear_au]

/-- A new DRIVE row, with or without a new entry. -/
theorem State.setDriveRow_only (s : State) (r : AuthRow) (e : DriveEntry) :
    s.DriveOnly (s.setAu { s.au with drive := r, image := { s.au.image with drive := e } }) := by
  constructor <;> rfl

theorem State.setSteerRow_only (s : State) (r : AuthRow) (e : SteerEntry) :
    s.SteerOnly (s.setAu { s.au with steer := r, image := { s.au.image with steer := e } }) := by
  constructor <;> rfl

theorem State.setGearRow_only (s : State) (r : AuthRow) (e : Option Gear) :
    s.GearOnly (s.setAu { s.au with gear := r, image := { s.au.image with gear := e } }) := by
  constructor <;> rfl

theorem State.driveLive_only (s : State) : s.DriveOnly s.driveLive := by
  unfold State.driveLive
  split
  · split
    · exact s.giveDrive_only ..
    · exact .refl s
  · exact s.setDriveRow_only ..
  · exact s.setDriveRow_only ..
  · exact .refl s

theorem State.steerLive_only (s : State) : s.SteerOnly s.steerLive := by
  unfold State.steerLive
  split
  · split
    · exact s.giveSteer_only ..
    · exact .refl s
  · exact s.setSteerRow_only ..
  · exact s.setSteerRow_only ..
  · exact .refl s

theorem State.gearLive_only (s : State) : s.GearOnly s.gearLive := by
  unfold State.gearLive
  split
  · split
    · exact s.giveGear_only ..
    · exact .refl s
  · exact s.setGearRow_only ..
  · exact s.setGearRow_only ..
  · exact .refl s

theorem State.driveLost_only (s : State) : s.DriveOnly s.driveLost := by
  unfold State.driveLost
  split
  · exact s.giveDrive_only ..
  · split
    · exact s.setDriveRow_only ..
    · exact s.setDriveRow_only ..
  · exact s.setDriveRow_only ..

theorem State.steerLost_only (s : State) : s.SteerOnly s.steerLost := by
  unfold State.steerLost
  split
  · exact s.giveSteer_only ..
  · exact s.setSteerRow_only ..

theorem State.gearLost_only (s : State) : s.GearOnly s.gearLost := by
  unfold State.gearLost
  split
  · exact s.giveGear_only ..
  · exact s.setGearRow_only ..

theorem State.drivePublished_only (s : State) : s.DriveOnly s.drivePublished := by
  unfold State.drivePublished
  split
  · exact s.giveDrive_only ..
  · exact s.setDriveRow_only ..
  · split
    · exact s.giveDrive_only ..
    · exact .refl s
  · split
    · exact s.setDriveRow_only ..
    · exact .refl s
  · exact .refl s

theorem State.steerPublished_only (s : State) : s.SteerOnly s.steerPublished := by
  unfold State.steerPublished
  split
  · exact s.giveSteer_only ..
  · exact s.setSteerRow_only ..
  · split
    · exact s.giveSteer_only ..
    · exact .refl s
  · exact .refl s

theorem State.gearPublished_only (s : State) : s.GearOnly s.gearPublished := by
  unfold State.gearPublished
  split
  · exact s.giveGear_only ..
  · exact s.setGearRow_only ..
  · split
    · exact s.giveGear_only ..
    · exact .refl s
  · exact .refl s

end Sys2Proof.Machine
end

section
/-! What one step can do to the authority table, the receiver link and the operation record, said once: every step is a
chain of the moves below. An invariant about these three is then a statement about one move. -/

namespace Sys2Proof.Machine

/-- A change that touches neither the authority table nor the receiver link and neither creates nor removes an operation
record. -/
structure State.Quiet (s t : State) : Prop where
  rxl : t.rxl = s.rxl
  au : t.au = s.au
  record : t.wnc.record = none ↔ s.wnc.record = none

/-- The events that reach the authority table, the receiver link or the existence of the operation record. -/
inductive State.Move : State → State → Prop where
  | quiet {s t : State} (h : s.Quiet t) : Move s t
  | reset {s t : State} (hr : t.rxl = .reset) (ha : t.au = .reset) (hw : t.wnc.record = none) : Move s t
  | hunts (s : State) : Move s s.rxlHunt
  | holdMark (s : State) : Move s (s.setRxl s.rxl.holdMark)
  | failsafeMark (s : State) : Move s ((s.setRxl s.rxl.failsafeMark).reportLink s.rxl.link)
  | frame (s : State) (bytes : List Byte) (f : ReceiverFrame) (h : receiverFrameOf bytes = some f) :
    Move s (s.takeFrame f)
  | driveBoundary (s : State) : Move s s.driveBoundary
  | steerBoundary (s : State) : Move s s.steerBoundary
  | gearBoundary (s : State) : Move s s.gearBoundary
  | winchBoundary (s : State) : Move s s.winchBoundary
  | winchTimer (s : State) (h : s.au.winchTimer = true) :
    Move s (s.setAu { s.au with winchTimer := false }).winchBoundary
  | driveDeadline (s : State) : Move s (s.giveDrive .noParty s.au.drive.pending)
  | steerDeadline (s : State) : Move s (s.giveSteer .noParty s.au.steer.pending)
  | reaffirmed (s : State) (r : Row) (h : (s.au.row r).holder = .pit) : Move s (s.setAu (s.au.restartDeadline r))
  | claimed (s : State) (r : Row) (h : claimCase s.au s.rxl.link r = .taken) : Move s (s.give r .pit)
  | released (s : State) (r : Row) (hp : (s.au.row r).holder = .pit) (hr : r = .winch → s.wnc.record = none) :
    Move s (s.give r (s.releasedTo r))
  | driveSet (s : State) (v : Int) (hp : s.au.drive.holder = .pit) (hv : inRange v) : Move s (s.setAu (s.au.driveSet v))
  | steerSet (s : State) (v : Int) (m : Option SteerMode) (hp : s.au.steer.holder = .pit) (hv : inRange v) :
    Move s (s.setAu (s.au.steerSet v m))
  | gearSet (s : State) (g : Gear) : Move s (s.setAu { s.au with image := { s.au.image with gear := some g } })
  | operationStarts (s : State) (r : OpRecord) (h : operationRefusal s = none) : Move s (s.createRecord r)
  | assistStarts (s : State) (r : OpRecord) (h : operationRefusal s = none) (ha : assistRefusal s.au = none) :
    Move s (s.startAssist r)
  | operationEnds (s : State) (o : Option SenseKind) : Move s (s.endOperation o)
  | freespool (s : State) (h : s.wnc.record = none) :
    Move s (s.setAu { s.au with image := { s.au.image with winch := ⟨.freespool, 0⟩ } })
  | freespoolEnds (s : State) (h : s.wnc.record = none) : Move s (s.setAu s.au.endFreespool)

/-- A chain of moves. -/
abbrev State.Moves : State → State → Prop := Relation.ReflTransGen State.Move

theorem State.Quiet.refl (s : State) : s.Quiet s := ⟨rfl, rfl, Iff.rfl⟩

theorem State.Quiet.trans {s t u : State} (h : s.Quiet t) (k : t.Quiet u) : s.Quiet u :=
  ⟨k.rxl.trans h.rxl, k.au.trans h.au, k.record.trans h.record⟩

theorem State.Move.moves {s t : State} (h : s.Move t) : s.Moves t := Relation.ReflTransGen.single h

theorem State.Quiet.moves {s t : State} (h : s.Quiet t) : s.Moves t := (State.Move.quiet h).moves

/-- A property that every move keeps is kept by a chain of moves. -/
theorem State.Moves.keeps {P : State → Prop} (hP : ∀ s t, s.Move t → P s → P t) {s t : State} (h : s.Moves t) (hs : P s) :
    P t := by
  induction h with
  | refl => exact hs
  | tail _ hm ih => exact hP _ _ hm ih

/-! ### Operations that are quiet -/

/-- A change that leaves link, table and winch as they were is quiet. -/
theorem State.Quiet.of_eq {s t : State} (hr : t.rxl = s.rxl) (ha : t.au = s.au) (hw : t.wnc = s.wnc) : s.Quiet t :=
  ⟨hr, ha, by rw [hw]⟩

/-- A replaced winch that holds a record exactly when the old one did. -/
theorem State.setWnc_quiet (s : State) {b : Winch} (h : b.record = none ↔ s.wnc.record = none) : s.Quiet (s.setWnc b) :=
  ⟨rfl, rfl, h⟩

theorem State.wake_quiet (s : State) : s.Quiet s.wake := .of_eq (by simp) (by simp) (by simp)

theorem State.restartParkTimer_quiet (s : State) : s.Quiet s.restartParkTimer := .of_eq (by simp) (by simp) (by simp)

theorem State.enterParked_quiet (s : State) : s.Quiet s.enterParked := .of_eq (by simp) (by simp) (by simp)

theorem State.setPli_quiet (s : State) (p : PitLink) : s.Quiet (s.setPli p) := .of_eq rfl rfl rfl

theorem State.executed_quiet (s : State) (e : Bool) : s.Quiet (s.executed e) := by
  unfold State.executed
  split
  · exact .refl s
  · exact s.restartParkTimer_quiet

/-! ### A scan is quiet (R21) -/

theorem State.measure_quiet (s : State) (r : Readings) : s.Quiet (s.measure r) := by
  unfold State.measure
  exact .of_eq (by simp) (by simp) (by simp)

theorem State.identify_quiet (s : State) : s.Quiet s.identify := by
  unfold State.identify
  repeat' split
  all_goals exact .of_eq (by simp) (by simp) (by simp)

theorem State.supervise_quiet (s : State) : s.Quiet s.supervise := by
  unfold State.supervise
  dsimp only
  split
  · exact .of_eq (by simp) (by simp) (by simp)
  · exact .of_eq rfl rfl rfl

theorem State.stageStep_quiet (s : State) : s.Quiet s.stageStep := by
  unfold State.stageStep
  split
  · split
    · exact s.identify_quiet
    · exact .of_eq rfl rfl rfl
  · exact s.supervise_quiet

theorem State.enterShutdown_quiet (s : State) : s.Quiet s.enterShutdown := by
  unfold State.enterShutdown State.releasePower
  dsimp only
  split <;> exact .of_eq (by simp) (by simp) (by simp)

theorem State.storageStep_quiet (s : State) (wasIdent : Bool) : s.Quiet (s.storageStep wasIdent) := by
  unfold State.storageStep
  split
  · exact .refl s
  · dsimp only
    split
    · refine State.Quiet.trans ?_ (State.enterShutdown_quiet _)
      exact .of_eq rfl rfl rfl
    · exact .of_eq rfl rfl rfl

theorem State.idleStep_quiet (s : State) : s.Quiet s.idleStep := by
  unfold State.idleStep
  dsimp only
  split
  · exact s.restartParkTimer_quiet.trans (State.setWnc_quiet _ Iff.rfl)
  · exact State.setWnc_quiet _ Iff.rfl

theorem State.budgetPass_quiet (s : State) : s.Quiet s.budgetPass := by
  unfold State.budgetPass
  split <;> exact .of_eq rfl rfl rfl

theorem State.scan_quiet (s : State) (r : Readings) : s.Quiet (s.scan r) := by
  unfold State.scan
  split
  · exact .refl s
  · exact ((((s.measure_quiet r).trans (State.stageStep_quiet _)).trans (State.storageStep_quiet _ _)).trans
      (State.idleStep_quiet _)).trans (State.budgetPass_quiet _)

/-! ### The store (R172, R173) -/

theorem State.setWorking_quiet (s : State) (w : Settings) : s.Quiet (s.setWorking w) := .of_eq rfl rfl rfl

theorem State.replaceWorking_quiet (s : State) (w : Settings) : s.Quiet (s.replaceWorking w) := .of_eq rfl rfl rfl

theorem State.engineIdle_quiet (s : State) (last : Bool) : s.Quiet (s.engineIdle last) := by
  unfold State.engineIdle State.releasePower
  dsimp only
  repeat' split
  all_goals exact .of_eq (by simp) (by simp) (by simp)

theorem State.selectProfile_quiet (s : State) (k : Fin 4) : s.Quiet (s.selectProfile k) := by
  unfold State.selectProfile
  refine (s.replaceWorking_quiet (s.pst.load k s.free)).trans ?_
  exact .of_eq (by simp) (by simp) (by simp)

theorem State.writePattern_quiet (s : State) (k : Fin 8) (l : List PatternStep) : s.Quiet (s.writePattern k l) :=
  .of_eq rfl rfl rfl

/-! ### Request blocks (R160 to R162) -/

/-- The state that an answer carries. -/
def Answer.state : Answer → State
  | .good s _ => s
  | .owes s => s
  | .check s _ => s
  | .busy s _ => s

/-- Forming an answer's entry is quiet. -/
theorem finishBlock_quiet (bt : Batch) (l : Bool) (c : Byte) (e : Bool) (a : Answer) :
    a.state.Quiet (finishBlock bt l c e a) := by
  cases a with
  | good s d => exact (s.setPli_quiet _).trans (State.executed_quiet _ _)
  | owes s => exact (s.setPli_quiet _).trans (State.executed_quiet _ _)
  | check s k => exact (s.setPli_quiet _).trans (State.executed_quiet _ _)
  | busy s k => exact s.setPli_quiet _

/-- A meaning that makes moves at its execution makes them through the form check as well. -/
theorem runForm_moves (bt : Batch) (l : Bool) (req : Option Request) (c : Byte) (e : Bool) (m : Bool → State → Answer)
    (s : State) (h : ∀ l t, State.Moves t (m l t).state) : s.Moves (runForm bt l req c e m s) := by
  unfold runForm
  split
  · exact (finishBlock_quiet bt l c e (.check s .badParameter)).moves
  · exact (h l s).trans (finishBlock_quiet bt l c e _).moves

theorem runReports_moves (bt : Batch) (l : Bool) (req : Option Request) (c : Byte) (m : Bool → State → Answer)
    (s : State) (h : ∀ l t, State.Moves t (m l t).state) : s.Moves (runReports bt l req c m s) := by
  unfold runReports
  split
  · exact ((s.setPli_quiet _).trans ((State.setPli_quiet _ _).trans (State.restartParkTimer_quiet _))).moves
  · exact ((s.setPli_quiet _).trans ((State.setPli_quiet _ _).trans (State.restartParkTimer_quiet _))).moves
  · exact runForm_moves bt l req c false m s h

theorem runNonExempt_moves (bt : Batch) (l : Bool) (req : Option Request) (c : Byte) (m : Bool → State → Answer)
    (s : State) (h : ∀ l t, State.Moves t (m l t).state) : s.Moves (runNonExempt bt l req c m s) := by
  unfold runNonExempt
  split
  · exact (s.setPli_quiet _).moves
  split
  · exact (s.setPli_quiet _).moves
  split
  · exact (s.setPli_quiet _).moves
  split
  · exact s.wake_quiet.moves.trans (runForm_moves bt l req c false m _ h)
  · exact s.wake_quiet.moves.trans (runReports_moves bt l req c m _ h)

/-- One block makes the moves of its meaning and otherwise changes nothing of the table, the link and the record. -/
theorem State.runBlock_moves (s : State) (req : Option Request) (c : Byte) (b : Block) (m : Bool → State → Answer)
    (h : ∀ l t, State.Moves t (m l t).state) : s.Moves (s.runBlock req c b m) := by
  unfold State.runBlock
  dsimp only
  split
  · exact (s.setPli_quiet _).moves
  split
  · exact (s.setPli_quiet _).moves
  split
  · exact runForm_moves _ _ _ _ _ _ _ h
  · exact runNonExempt_moves _ _ _ _ _ _ h

theorem State.runRequest_moves (s : State) (r : Request) (b : Block) (m : Bool → State → Answer)
    (h : ∀ l t, State.Moves t (m l t).state) : s.Moves (s.runRequest r b m) := s.runBlock_moves (some r) r.code b m h

/-- A refused parameter changes nothing. -/
theorem withParam_moves {α : Type} {s : State} {p : Option α} {k : α → Answer}
    (h : ∀ a, p = some a → s.Moves (k a).state) : s.Moves (withParam s p k).state := by
  cases p with
  | none => exact .refl
  | some a => exact h a rfl

theorem whenLast_moves {s : State} {l : Bool} {k : Answer} (h : s.Moves k.state) : s.Moves (whenLast s l k).state := by
  unfold whenLast
  split
  · exact h
  · exact .refl

theorem whenStoreFree_moves {s : State} {k : Answer} (h : s.Moves k.state) : s.Moves (whenStoreFree s k).state := by
  unfold whenStoreFree
  split
  · exact h
  · exact .refl

/-! ### The meanings of the requests -/

/-- A claim is reaffirmed only for a row that PIT holds. -/
theorem claimCase_reaffirmed {a : Authority} {l : LinkState} {r : Row} (h : claimCase a l r = .reaffirmed) :
    (a.row r).holder = .pit := by
  unfold claimCase at h
  dsimp only at h
  by_cases hp : (a.row r).holder = .pit
  · exact hp
  · repeat' split at h
    all_goals contradiction

theorem claimAnswer_moves (b : Block) (l : Bool) (s : State) : s.Moves (claimAnswer b l s).state := by
  refine withParam_moves fun r _ => ?_
  split
  next k _ => exact .refl
  next h => exact (State.Move.reaffirmed s r (claimCase_reaffirmed h)).moves
  next h => exact (State.Move.claimed s r h).moves

theorem releaseAnswer_moves (b : Block) (l : Bool) (s : State) : s.Moves (releaseAnswer b l s).state := by
  refine withParam_moves fun r _ => ?_
  split
  next _ => exact .refl
  next hp =>
    split
    next _ => exact .refl
    next hr =>
      refine (State.Move.released s r (not_not.mp hp) fun h => ?_).moves
      simpa [h] using hr

/-- A parsed command lies within −1000 to 1000 (R167). -/
theorem commandParam_inRange {l : List Byte} {v : Int} (h : commandParam l = some v) : inRange v := by
  unfold commandParam at h
  split at h
  · split at h
    next hv => cases h; exact hv
    next => cases h
  · cases h

theorem steerParam_inRange {l : List Byte} {p : Int × Option SteerMode} (h : steerParam l = some p) : inRange p.1 := by
  unfold steerParam at h
  split at h
  · obtain ⟨v, hv, rfl⟩ := Option.map_eq_some_iff.mp h
    exact commandParam_inRange hv
  · split at h
    next v mode hv _ => cases h; exact commandParam_inRange hv
    next => cases h
  · cases h

theorem setDriveAnswer_moves (b : Block) (l : Bool) (s : State) : s.Moves (setDriveAnswer b l s).state := by
  refine withParam_moves fun v hv => ?_
  split
  next _ => exact .refl
  next hp => exact (State.Move.driveSet s v (not_not.mp hp) (commandParam_inRange hv)).moves

theorem setSteerAnswer_moves (b : Block) (l : Bool) (s : State) : s.Moves (setSteerAnswer b l s).state := by
  refine withParam_moves fun p hv => ?_
  split
  next _ => exact .refl
  next hp =>
    split
    · exact .refl
    · exact (State.Move.steerSet s p.1 p.2 (not_not.mp hp) (steerParam_inRange hv)).moves

theorem setGearAnswer_moves (b : Block) (l : Bool) (s : State) : s.Moves (setGearAnswer b l s).state := by
  refine withParam_moves fun g _ => ?_
  split
  · exact .refl
  · exact (State.Move.gearSet s g).moves

/-- A taken operation leaves the state that its record was created in. -/
theorem operationTaken_state (s : State) (i : Bool) : (operationTaken s i).state = s := by
  cases i <;> rfl

theorem startOperation_moves (s : State) (r : OpRecord) (x : Option SenseKind) :
    s.Moves (startOperation s r x).state := by
  unfold startOperation
  split
  · exact .refl
  · exact .refl
  next _ h => rw [operationTaken_state]; exact (State.Move.operationStarts s r h).moves

theorem payOutAnswer_moves (b : Block) (l : Bool) (s : State) : s.Moves (payOutAnswer b l s).state :=
  withParam_moves fun _ _ => whenLast_moves (startOperation_moves s _ _)

theorem haulInAnswer_moves (b : Block) (l : Bool) (s : State) : s.Moves (haulInAnswer b l s).state :=
  withParam_moves fun _ _ => whenLast_moves (startOperation_moves s _ _)

theorem haulToTensionAnswer_moves (b : Block) (l : Bool) (s : State) : s.Moves (haulToTensionAnswer b l s).state :=
  withParam_moves fun _ _ => whenLast_moves (startOperation_moves s _ _)

theorem homeAnswer_moves (b : Block) (l : Bool) (s : State) : s.Moves (homeAnswer b l s).state :=
  withParam_moves fun _ _ => whenLast_moves (startOperation_moves s _ _)

theorem assistHaulAnswer_moves (b : Block) (l : Bool) (s : State) : s.Moves (assistHaulAnswer b l s).state := by
  refine withParam_moves fun n _ => whenLast_moves ?_
  split
  · exact .refl
  · exact .refl
  next h ha => rw [operationTaken_state]; exact (State.Move.assistStarts s _ h ha).moves

theorem freespoolAnswer_moves (b : Block) (l : Bool) (s : State) : s.Moves (freespoolAnswer b l s).state := by
  refine withParam_moves fun _ _ => ?_
  split
  · exact .refl
  split
  · exact .refl
  next hr =>
    split
    · exact .refl
    · exact (State.Move.freespool s (by simpa using hr)).moves

theorem State.winchStop_moves (s : State) : s.Moves s.winchStop := by
  have ends := (State.Move.operationEnds s (some .byRequest)).moves.trans
    (State.Move.freespoolEnds _ (s.endOperation_record _)).moves
  exact Relation.ReflTransGen.trans ends (State.Quiet.moves ⟨rfl, rfl, Iff.rfl⟩)

theorem winchStopAnswer_moves (b : Block) (l : Bool) (s : State) : s.Moves (winchStopAnswer b l s).state :=
  withParam_moves fun _ _ => s.winchStop_moves

theorem abortAnswer_moves (b : Block) (l : Bool) (s : State) : s.Moves (abortAnswer b l s).state :=
  withParam_moves fun _ _ => (State.Move.operationEnds s (some .byRequest)).moves

theorem setSceneAnswer_moves (b : Block) (l : Bool) (s : State) : s.Moves (setSceneAnswer b l s).state :=
  withParam_moves fun _ _ => State.Quiet.moves (.of_eq rfl rfl rfl)

theorem parkAnswer_moves (b : Block) (l : Bool) (s : State) : s.Moves (parkAnswer b l s).state := by
  refine withParam_moves fun _ _ => ?_
  split
  · exact s.enterParked_quiet.moves
  · exact .refl

theorem resetAnswer_moves (b : Block) (l : Bool) (s : State) : s.Moves (resetAnswer b l s).state := by
  refine withParam_moves fun _ _ => whenLast_moves ?_
  split <;> exact .refl

theorem readSettingAnswer_moves (b : Block) (l : Bool) (s : State) : s.Moves (readSettingAnswer b l s).state :=
  withParam_moves fun _ _ => .refl

theorem writePart_moves (s : State) (k : Fin 8) (v : List Byte) : s.Moves (writePart s k v).state := by
  unfold writePart
  split
  · exact State.Quiet.moves (.of_eq rfl rfl rfl)
  split
  · exact .refl
  · dsimp only
    split
    · exact State.Quiet.moves (.of_eq rfl rfl rfl)
    split
    · exact (s.writePattern_quiet _ _).moves
    · exact State.Quiet.moves (.of_eq rfl rfl rfl)

theorem writeWhole_moves (s : State) (i : SettingId) (v : List Byte) : s.Moves (writeWhole s i v).state := by
  unfold writeWhole
  split
  · exact .refl
  split
  · exact .refl
  split
  · exact (s.setWorking_quiet _).moves
  · exact .refl

theorem writeSettingAnswer_moves (b : Block) (l : Bool) (s : State) : s.Moves (writeSettingAnswer b l s).state := by
  refine withParam_moves fun p _ => ?_
  split
  · exact writePart_moves s _ _
  · exact writeWhole_moves s _ _

theorem selectAnswer_moves (b : Block) (l : Bool) (s : State) : s.Moves (selectAnswer b l s).state := by
  refine withParam_moves fun k _ => whenStoreFree_moves ?_
  split
  · exact (s.selectProfile_quiet k).moves
  · exact .refl

theorem commitAnswer_moves (b : Block) (l : Bool) (s : State) : s.Moves (commitAnswer b l s).state :=
  withParam_moves fun _ _ => whenLast_moves (whenStoreFree_moves (State.Quiet.moves (.of_eq rfl rfl rfl)))

theorem loadDefaultsAnswer_moves (b : Block) (l : Bool) (s : State) : s.Moves (loadDefaultsAnswer b l s).state :=
  withParam_moves fun _ _ => whenStoreFree_moves (s.replaceWorking_quiet _).moves

theorem reportStatusAnswer_moves (b : Block) (l : Bool) (s : State) : s.Moves (reportStatusAnswer b l s).state := by
  refine withParam_moves fun k _ => ?_
  show s.Moves (s.reportDraws k)
  unfold State.reportDraws
  split
  · exact State.Quiet.moves (.of_eq (by simp) (by simp) (by simp))
  · exact .refl

theorem requestSenseAnswer_moves (b : Block) (l : Bool) (s : State) : s.Moves (requestSenseAnswer b l s).state :=
  withParam_moves fun _ _ => (s.setPli_quiet _).moves

theorem identifyAnswer_moves (b : Block) (l : Bool) (s : State) : s.Moves (identifyAnswer b l s).state :=
  withParam_moves fun _ _ => .refl

/-! ### The winch's update, pulse and switch -/

theorem State.takeEnding_moves (s : State) (e : Ending) : s.Moves (s.takeEnding e) := by
  cases e with
  | none => exact .refl
  | some o => exact (State.Move.operationEnds s o).moves

theorem Winch.readHook_record (b : Winch) (level : Bool) : (b.readHook level).record = b.record := by
  unfold Winch.readHook
  split <;> rfl

theorem State.winchRead_quiet (s : State) (level : Bool) : s.Quiet (s.winchRead level) := by
  refine s.setWnc_quiet ?_
  show ((s.wnc.applySettings _ _).readHook level).record = none ↔ _
  rw [Winch.readHook_record]
  rfl

theorem State.winchDrive_quiet (s : State) : s.Quiet s.winchDrive := s.setWnc_quiet Iff.rfl

theorem Winch.measureTension_record (b : Winch) (current : Nat) :
    (b.measureTension current).record = none ↔ b.record = none := by
  unfold Winch.measureTension
  split <;> simp_all

theorem Winch.measureStarvation_record (b : Winch) (floor : Nat) :
    (b.measureStarvation floor).record = none ↔ b.record = none := by
  unfold Winch.measureStarvation
  split <;> simp_all

theorem State.judgeTension_moves (s : State) : s.Moves s.judgeTension := by
  unfold State.judgeTension
  split
  · split
    · exact (State.Move.operationEnds s none).moves
    · exact .refl
  · exact .refl

theorem State.jam_moves (s : State) : s.Moves s.jam := by
  unfold State.jam
  split
  next r hr =>
    split
    · exact (s.setWnc_quiet (by simp [Winch.jamRetry, hr])).moves
    · exact (s.setWnc_quiet (b := { s.wnc with mode := .jammed }) Iff.rfl).moves.trans (State.Move.operationEnds _ _).moves
  · exact (s.setWnc_quiet (b := s.wnc.jamDriven) Iff.rfl).moves

theorem State.judgeJam_moves (s : State) : s.Moves s.judgeJam := by
  unfold State.judgeJam
  split
  · exact s.jam_moves
  · exact .refl

theorem State.winchMeasure_moves (s : State) : s.Moves s.winchMeasure := by
  have tension := (s.setWnc_quiet (s.wnc.measureTension_record s.bsv.winchCurrent)).moves.trans (State.judgeTension_moves _)
  refine (tension.trans ?_).trans (State.setWnc_quiet _ (Winch.measureStarvation_record _ _)).moves
  refine Relation.ReflTransGen.trans ?_ (State.judgeJam_moves _)
  exact (State.setWnc_quiet _ (b := Winch.measureStall _ _ _) Iff.rfl).moves

theorem State.showWinch_quiet (s : State) : s.Quiet s.showWinch := s.setWnc_quiet Iff.rfl

theorem Winch.countPulse_record (b : Winch) (reserve : Nat) : (b.countPulse reserve).record = none ↔ b.record = none := by
  unfold Winch.countPulse
  dsimp only
  split <;> simp_all

theorem State.drumPulse_moves (s : State) : s.Moves s.drumPulse := by
  refine (s.setWnc_quiet (s.wnc.countPulse_record s.w.wnc.lineReserve)).moves.trans ?_
  exact ((State.takeEnding_moves _ _).trans (State.showWinch_quiet _).moves).trans (State.Move.winchBoundary _).moves

/-! ### Every command -/

theorem execWinchUpdateExpiry_moves (level : Bool) {s t : State} (h : execWinchUpdateExpiry level s = .next t) :
    s.Moves t := by
  cases h
  have ending : s.Moves (s.winchRead level).winchEnd :=
    (s.winchRead_quiet level).moves.trans (State.takeEnding_moves _ _)
  have measure := (ending.trans (State.winchDrive_quiet _).moves).trans (State.winchMeasure_moves _)
  have post : ∀ u : State, u.Quiet u.winchPost := fun u => .of_eq rfl rfl rfl
  exact (measure.trans (post _).moves).trans (State.showWinch_quiet _).moves

theorem execHookHomeArrival_moves {s t : State} (h : execHookHomeArrival s = .next t) : s.Moves t := by
  have arrive := (s.setWnc_quiet (b := s.wnc.hookArrived) Iff.rfl).moves
  unfold execHookHomeArrival at h
  dsimp only at h
  split at h
  · cases h
    exact arrive
  · cases h
    exact arrive.trans (State.takeEnding_moves _ _)

theorem State.requestReset_moves (s : State) : s.Moves s.requestReset := by
  refine (State.Move.reset ?_ ?_ ?_).moves
  · unfold State.requestReset; simp
  · unfold State.requestReset; simp
  · unfold State.requestReset; simp; rfl

theorem execCommitProgrammingEnd_moves (v : Bool) {s t : State} (h : execCommitProgrammingEnd v s = .next t) :
    s.Moves t := by
  unfold execCommitProgrammingEnd at h
  split at h
  · cases h
    refine State.Quiet.moves (State.Quiet.trans ?_ (State.engineIdle_quiet _ _))
    exact .of_eq (by simp) (by simp) (by simp)
  · cases h
    exact .refl

theorem execPackSaveEnd_moves (v : Bool) {s t : State} (h : execPackSaveEnd v s = .next t) : s.Moves t := by
  unfold execPackSaveEnd at h
  split at h
  · cases h
    refine State.Quiet.moves (State.Quiet.trans ?_ (State.engineIdle_quiet _ _))
    exact .of_eq rfl rfl rfl
  · cases h
    exact .refl

theorem execPitHoldDeadlineExpiry_moves (row : DeadlineRow) {s t : State}
    (h : execPitHoldDeadlineExpiry row s = .next t) : s.Moves t := by
  unfold execPitHoldDeadlineExpiry at h
  cases row with
  | drive =>
    dsimp only at h
    split at h
    · cases h; exact (State.Move.driveDeadline s).moves
    · cases h; exact .refl
  | steer =>
    dsimp only at h
    split at h
    · cases h; exact (State.Move.steerDeadline s).moves
    · cases h; exact .refl

/-- Every command is a chain of moves. -/
theorem exec_moves (c : Instr) {s t : State} (h : exec c s = .next t) : s.Moves t := by
  cases c with
  | powerOnReset => cases h; exact (State.Move.reset rfl rfl rfl).moves
  | brownoutReset => cases h; exact (State.Move.reset rfl rfl rfl).moves
  | scanCompletion r => cases h; exact (s.scan_quiet r).moves
  | parkIdleTimerExpiry =>
    simp only [exec, execParkIdleTimerExpiry] at h
    split at h
    · cases h; exact .refl
    split at h
    · cases h; exact s.restartParkTimer_quiet.moves
    · cases h; exact s.enterParked_quiet.moves
  | servoRefreshExpiry =>
    cases h
    exact (State.Move.steerBoundary s).moves.trans (State.Quiet.moves (.of_eq rfl rfl rfl))
  | driveUpdateExpiry =>
    simp only [exec, execDriveUpdateExpiry] at h
    split at h
    · cases h; exact State.Quiet.moves (.of_eq rfl rfl rfl)
    · cases h; exact (State.Move.driveBoundary s).moves.trans (State.Quiet.moves (.of_eq rfl rfl rfl))
  | gateTimerExpiry =>
    simp only [exec, execGateTimerExpiry] at h
    split at h
    · cases h; exact .refl
    · cases h; exact State.Quiet.moves (.of_eq rfl rfl rfl)
  | shiftServoRefresh =>
    simp only [exec, execShiftServoRefresh] at h
    split at h
    · cases h; exact State.Quiet.moves (.of_eq rfl rfl rfl)
    · cases h; exact (State.Move.gearBoundary s).moves.trans (State.Quiet.moves (.of_eq rfl rfl rfl))
  | shiftTravelTimerExpiry => cases h; exact State.Quiet.moves (.of_eq rfl rfl rfl)
  | winchUpdateExpiry level => exact execWinchUpdateExpiry_moves level h
  | backOffTimerExpiry =>
    simp only [exec, execBackOffTimerExpiry] at h
    split at h
    · cases h; exact (s.setWnc_quiet (by simp [Winch.backOffOver])).moves
    · cases h; exact .refl
  | drumPulseArrival e =>
    simp only [exec, execDrumPulseArrival] at h
    split at h
    · cases h; exact s.drumPulse_moves
    · cases h; exact .refl
  | hookHomeArrival => exact execHookHomeArrival_moves h
  | winchBoundaryTimerExpiry =>
    simp only [exec, execWinchBoundaryTimerExpiry] at h
    split at h
    next ht => cases h; exact (State.Move.winchTimer s ht).moves
    · cases h; exact .refl
  | pitHoldDeadlineExpiry row => exact execPitHoldDeadlineExpiry_moves row h
  | lightStepExpiry => cases h; exact State.Quiet.moves (.of_eq rfl rfl rfl)
  | channelFrame bytes =>
    simp only [exec, execChannelFrame] at h
    split at h
    next f hf => cases h; exact (State.Move.frame s bytes f hf).moves
    · cases h; exact (State.Move.hunts s).moves
  | rxlByteGapTimeout => cases h; exact (State.Move.hunts s).moves
  | holdMarkExpiry => cases h; exact (State.Move.holdMark s).moves
  | failsafeMarkExpiry => cases h; exact (State.Move.failsafeMark s).moves
  | pitByteGapTimeout => cases h; exact (s.setPli_quiet _).moves
  | replyTransmit => cases h; exact (s.setPli_quiet _).moves
  | resetRequestEffect =>
    simp only [exec, execResetRequestEffect] at h
    split at h
    · cases h; exact s.requestReset_moves
    · cases h; exact .refl
  | commitProgrammingEnd v => exact execCommitProgrammingEnd_moves v h
  | packSaveEnd v => exact execPackSaveEnd_moves v h
  | reportStatus b => cases h; exact s.runRequest_moves _ b _ (reportStatusAnswer_moves b)
  | requestSense b => cases h; exact s.runRequest_moves _ b _ (requestSenseAnswer_moves b)
  | identify b => cases h; exact s.runRequest_moves _ b _ (identifyAnswer_moves b)
  | claim b => cases h; exact s.runRequest_moves _ b _ (claimAnswer_moves b)
  | release b => cases h; exact s.runRequest_moves _ b _ (releaseAnswer_moves b)
  | setDrive b => cases h; exact s.runRequest_moves _ b _ (setDriveAnswer_moves b)
  | setSteer b => cases h; exact s.runRequest_moves _ b _ (setSteerAnswer_moves b)
  | setGear b => cases h; exact s.runRequest_moves _ b _ (setGearAnswer_moves b)
  | setScene b => cases h; exact s.runRequest_moves _ b _ (setSceneAnswer_moves b)
  | winchPayOut b => cases h; exact s.runRequest_moves _ b _ (payOutAnswer_moves b)
  | winchHaulIn b => cases h; exact s.runRequest_moves _ b _ (haulInAnswer_moves b)
  | winchHaulToTension b => cases h; exact s.runRequest_moves _ b _ (haulToTensionAnswer_moves b)
  | winchHome b => cases h; exact s.runRequest_moves _ b _ (homeAnswer_moves b)
  | winchAssistHaul b => cases h; exact s.runRequest_moves _ b _ (assistHaulAnswer_moves b)
  | winchFreespool b => cases h; exact s.runRequest_moves _ b _ (freespoolAnswer_moves b)
  | winchStop b => cases h; exact s.runRequest_moves _ b _ (winchStopAnswer_moves b)
  | abort b => cases h; exact s.runRequest_moves _ b _ (abortAnswer_moves b)
  | readSetting b => cases h; exact s.runRequest_moves _ b _ (readSettingAnswer_moves b)
  | writeSetting b => cases h; exact s.runRequest_moves _ b _ (writeSettingAnswer_moves b)
  | selectProfile b => cases h; exact s.runRequest_moves _ b _ (selectAnswer_moves b)
  | commitProfile b => cases h; exact s.runRequest_moves _ b _ (commitAnswer_moves b)
  | loadDefaults b => cases h; exact s.runRequest_moves _ b _ (loadDefaultsAnswer_moves b)
  | park b => cases h; exact s.runRequest_moves _ b _ (parkAnswer_moves b)
  | reset b => cases h; exact s.runRequest_moves _ b _ (resetAnswer_moves b)
  | receiverFrameDiscard why => cases h; exact (State.Move.hunts s).moves
  | pitFrameDiscard why => cases h; exact (s.setPli_quiet _).moves
  | unknownCode code b => cases h; exact s.runBlock_moves none code b _ fun _ _ => .refl

/-- Every step is a chain of moves. -/
theorem step_moves {s t : State} (h : step s = .next t) : s.Moves t := by
  unfold step at h
  split at h
  · cases h
    exact .refl
  next c rest _ => exact (State.Quiet.moves (.of_eq rfl rfl rfl) : s.Moves (s.setPending rest)).trans (exec_moves c h)

/-- A property of a state that every move keeps is kept by every step. -/
theorem step_keeps {P : State → Prop} (hP : ∀ s t, s.Move t → P s → P t) {s t : State} (h : step s = .next t) (hs : P s) :
    P t := (step_moves h).keeps hP hs

end Sys2Proof.Machine
end

section
/-! The ending of an operation and the taking of the winch by the radio as AU's rows see them, and where a complete frame
takes the link. -/

namespace Sys2Proof.Machine

/-! ### An ending as the rows of AU see it -/

/-- The parts of the state that the removal of a record leaves as they were, whatever the record was. -/
structure State.EndingOnly (s t : State) : Prop where
  rxl : t.rxl = s.rxl
  bsv : t.bsv = s.bsv
  bga : t.bga = s.bga
  drc : t.drc = s.drc
  ltc : t.ltc = s.ltc
  pst : t.pst = s.pst
  pending : t.pending = s.pending
  drive : t.au.drive = s.au.drive ∨ t.au.drive = s.au.drive.assistOver s.throttleReady
  steer : t.au.steer = s.au.steer
  gear : t.au.gear = s.au.gear
  imageDrive : t.au.image.drive = s.au.image.drive
  imageSteer : t.au.image.steer = s.au.image.steer
  imageGear : t.au.image.gear = s.au.image.gear

@[simp] theorem Authority.operationOver_drive (a : Authority) : a.operationOver.drive = a.drive := by
  unfold Authority.operationOver; split <;> rfl
@[simp] theorem Authority.operationOver_steer (a : Authority) : a.operationOver.steer = a.steer := by
  unfold Authority.operationOver; split <;> rfl
@[simp] theorem Authority.operationOver_gear (a : Authority) : a.operationOver.gear = a.gear := by
  unfold Authority.operationOver; split <;> rfl
@[simp] theorem Authority.operationOver_winch (a : Authority) : a.operationOver.winch = a.winch := by
  unfold Authority.operationOver; split <;> rfl
@[simp] theorem Authority.operationOver_winchTimer (a : Authority) : a.operationOver.winchTimer = a.winchTimer := by
  unfold Authority.operationOver; split <;> rfl
theorem Authority.operationOver_image (a : Authority) :
    a.operationOver.image =
      { a.image with winch := if a.winch.holder = .pit then ⟨.hold, 0⟩ else a.image.winch } := by
  unfold Authority.operationOver; split <;> rfl

/-- The DRIVE row at the removal of a record of a kind (R18). -/
theorem Authority.recordRemoved_drive (a : Authority) (k : OpKind) (ready : Bool) :
    (a.recordRemoved k ready).drive = if k = .assistHaul then a.drive.assistOver ready else a.drive := by
  unfold Authority.recordRemoved; split <;> simp
@[simp] theorem Authority.recordRemoved_steer (a : Authority) (k : OpKind) (ready : Bool) :
    (a.recordRemoved k ready).steer = a.steer := by
  unfold Authority.recordRemoved; split <;> simp
@[simp] theorem Authority.recordRemoved_gear (a : Authority) (k : OpKind) (ready : Bool) :
    (a.recordRemoved k ready).gear = a.gear := by
  unfold Authority.recordRemoved; split <;> simp
@[simp] theorem Authority.recordRemoved_winch (a : Authority) (k : OpKind) (ready : Bool) :
    (a.recordRemoved k ready).winch = a.winch := by
  unfold Authority.recordRemoved; split <;> simp
@[simp] theorem Authority.recordRemoved_winchTimer (a : Authority) (k : OpKind) (ready : Bool) :
    (a.recordRemoved k ready).winchTimer = a.winchTimer := by
  unfold Authority.recordRemoved; split <;> simp
theorem Authority.recordRemoved_image (a : Authority) (k : OpKind) (ready : Bool) :
    (a.recordRemoved k ready).image =
      { a.image with winch := if a.winch.holder = .pit then ⟨.hold, 0⟩ else a.image.winch } := by
  unfold Authority.recordRemoved; split <;> simp [a.operationOver_image]

theorem State.endOperation_only (s : State) (o : Option SenseKind) : s.EndingOnly (s.endOperation o) := by
  cases h : s.wnc.record with
  | none => rw [s.endOperation_none o h]; constructor <;> simp
  | some r =>
    have ha := State.endOperation_au o h
    constructor <;> simp [ha, Authority.recordRemoved_image, Authority.recordRemoved_drive]
    by_cases hk : r.kind = .assistHaul <;> simp [hk]

@[simp] theorem State.endOperation_winch (s : State) (o : Option SenseKind) : (s.endOperation o).au.winch = s.au.winch := by
  cases h : s.wnc.record with
  | none => rw [s.endOperation_none o h]
  | some r => simp [State.endOperation_au o h]
@[simp] theorem State.endOperation_winchTimer (s : State) (o : Option SenseKind) :
    (s.endOperation o).au.winchTimer = s.au.winchTimer := by
  cases h : s.wnc.record with
  | none => rw [s.endOperation_none o h]
  | some r => simp [State.endOperation_au o h]

/-- The WINCH entry at an ending: with a record under a PIT row it becomes HOLD, else it stays (R4). -/
theorem State.endOperation_imageWinch (s : State) (o : Option SenseKind) :
    (s.endOperation o).au.image.winch =
      if s.wnc.record ≠ none ∧ s.au.winch.holder = .pit then ⟨.hold, 0⟩ else s.au.image.winch := by
  cases h : s.wnc.record with
  | none => rw [s.endOperation_none o h]; simp
  | some r => simp [State.endOperation_au o h, Authority.recordRemoved_image]

/-! ### The radio takes the winch (R6, R127) -/

theorem State.radioTakesWinch_winch (s : State) :
    s.radioTakesWinch.au.winch = { s.au.winch with pending := some .radio } := by
  simp [State.radioTakesWinch]

theorem State.radioTakesWinch_winchTimer (s : State) :
    s.radioTakesWinch.au.winchTimer = (s.au.winchTimer || s.au.winch.pending.isNone) := by
  simp [State.radioTakesWinch]

theorem State.radioTakesWinch_imageWinch (s : State) :
    s.radioTakesWinch.au.image.winch =
      if s.wnc.record ≠ none ∧ s.au.winch.holder = .pit then ⟨.hold, 0⟩ else s.au.image.winch :=
  State.endOperation_imageWinch _ _

theorem State.radioTakesWinch_record (s : State) : s.radioTakesWinch.wnc.record = none :=
  State.endOperation_record _ _

theorem State.radioTakesWinch_only (s : State) : s.EndingOnly s.radioTakesWinch := by
  have h := State.endOperation_only (s.setAu { s.au with
    winch := { s.au.winch with pending := some .radio }
    winchTimer := s.au.winchTimer || s.au.winch.pending.isNone }) (some .radioTakeover)
  exact ⟨h.rxl, h.bsv, h.bga, h.drc, h.ltc, h.pst, h.pending, h.drive, h.steer, h.gear, h.imageDrive, h.imageSteer,
    h.imageGear⟩

/-- A change of WINCH holder leaves the other rows and all but AU as they were. -/
theorem State.giveWinch_only (s : State) (h : Holder) : s.EndingOnly (s.giveWinch h) := by
  constructor <;> simp [State.giveWinch_au]

theorem State.EndingOnly.refl (s : State) : s.EndingOnly s := by constructor <;> simp

theorem State.winchLive_only (s : State) : s.EndingOnly s.winchLive := by
  unfold State.winchLive
  split
  · split
    · exact s.giveWinch_only _
    · exact .refl s
  · exact s.radioTakesWinch_only
  · exact s.radioTakesWinch_only
  · exact .refl s

theorem State.winchPublished_only (s : State) (before : Option Int) : s.EndingOnly (s.winchPublished before) := by
  unfold State.winchPublished
  split
  · exact s.giveWinch_only _
  · constructor <;> simp
  · split
    · exact s.giveWinch_only _
    · exact .refl s
  · split
    · exact s.radioTakesWinch_only
    · exact .refl s
  · exact .refl s

theorem State.winchLost_only (s : State) : s.EndingOnly s.winchLost := by
  unfold State.winchLost
  split
  · exact s.giveWinch_only _
  split
  · constructor <;> simp
  · exact .refl s

/-- The entry to LOST leaves the other rows as they were when it comes to WINCH. -/
theorem State.winchLost_drive (s : State) : s.winchLost.au.drive = s.au.drive := by
  unfold State.winchLost
  split
  · rw [State.giveWinch_au]
  split <;> rfl

/-! ### Where a frame takes the link (R153) -/

theorem State.enterLive_rxl (s : State) : s.enterLive.rxl = s.rxl := by
  unfold State.enterLive
  rw [(State.winchLive_only _).rxl, (State.gearLive_only _).rxl, (State.steerLive_only _).rxl, (State.driveLive_only _).rxl]

theorem State.enterLost_rxl (s : State) : s.enterLost.rxl = s.rxl := by
  unfold State.enterLost
  rw [(State.winchLost_only _).rxl, (State.gearLost_only _).rxl, (State.steerLost_only _).rxl, (State.driveLost_only _).rxl]

theorem State.reportLink_rxl (s : State) (before : LinkState) : (s.reportLink before).rxl = s.rxl := by
  unfold State.reportLink
  split
  · rfl
  split
  · exact s.enterLive_rxl
  · exact s.enterLost_rxl
  · rfl

/-- A frame that changes the link state takes it to LIVE, to LOST, or from LOST to RECOVERING. -/
theorem Receiver.move_link (b : Receiver) (c : FrameClass) (h : (b.move c).link ≠ b.link) :
    (b.move c).link = .live ∨ (b.move c).link = .lost ∨ (b.move c).link = .recovering ∧ b.link = .lost := by
  unfold Receiver.move at h ⊢
  cases hl : b.link <;> cases c <;> simp_all
  repeat' split
  all_goals simp_all

/-- A frame is published in LIVE only. -/
theorem Receiver.move_publish (b : Receiver) (c : FrameClass) (h : (b.move c).publish = true) :
    (b.move c).link = .live := by
  unfold Receiver.move at h ⊢
  cases hl : b.link <;> cases c <;> simp_all
  repeat' split at h
  all_goals simp_all

/-! ### A published frame reaches AU first -/

/-- AU's table after the lights and the wake of a published frame is that of its four rows. -/
theorem State.publish_au (s : State) (before : Option Int) :
    (s.publish before).au = (s.drivePublished.steerPublished.gearPublished.winchPublished before).au := by
  unfold State.publish
  dsimp only
  split <;> simp

theorem State.publish_wnc (s : State) (before : Option Int) :
    (s.publish before).wnc = (s.drivePublished.steerPublished.gearPublished.winchPublished before).wnc := by
  unfold State.publish
  dsimp only
  split <;> simp

theorem State.publish_rxl (s : State) (before : Option Int) : (s.publish before).rxl = s.rxl := by
  have rows : (s.drivePublished.steerPublished.gearPublished.winchPublished before).rxl = s.rxl := by
    rw [(State.winchPublished_only _ _).rxl, (State.gearPublished_only _).rxl, (State.steerPublished_only _).rxl,
      (State.drivePublished_only _).rxl]
  unfold State.publish
  dsimp only
  split <;> simp [rows]

end Sys2Proof.Machine
end

section
/-! The shape of the authority table (R1, R6, R14) under every move. -/

namespace Sys2Proof.Machine

/-! ### One row replaced -/

/-- A row with a pit hold deadline (DRIVE, STEER) has it running exactly under PIT. -/
def AuthRow.Timed (r : AuthRow) : Prop := r.deadline = true ↔ r.holder = .pit

/-- A row of STEER or GEAR never has AUTO(ASSIST), and waits for the radio alone. -/
def AuthRow.Plain (r : AuthRow) : Prop := r.holder ≠ .auto .assist ∧ (r.pending = none ∨ r.pending = some .radio)

theorem Authority.shaped_iff (a : Authority) :
    a.Shaped ↔ a.drive.Timed ∧ (a.steer.Timed ∧ a.steer.Plain) ∧ (a.gear.deadline = false ∧ a.gear.Plain) ∧
      (a.winch.deadline = false ∧ a.winch.Plain) ∧ (a.winchTimer = true ↔ a.winch.pending ≠ none) := by
  constructor
  · rintro ⟨d, s, gd, wd, sh, gh, wh, sp, gp, wp, timer⟩
    exact ⟨d, ⟨s, sh, sp⟩, ⟨gd, gh, gp⟩, ⟨wd, wh, wp⟩, timer⟩
  · rintro ⟨d, ⟨s, sh, sp⟩, ⟨gd, gh, gp⟩, ⟨wd, wh, wp⟩, timer⟩
    exact ⟨d, s, gd, wd, sh, gh, wh, sp, gp, wp, timer⟩

theorem Authority.Shaped.withDrive {a : Authority} (h : a.Shaped) {r : AuthRow} (i : ControlImage) (hr : r.Timed) :
    Authority.Shaped { a with drive := r, image := i } := by
  rw [Authority.shaped_iff] at h ⊢
  exact ⟨hr, h.2⟩

theorem Authority.Shaped.withSteer {a : Authority} (h : a.Shaped) {r : AuthRow} (i : ControlImage) (hr : r.Timed)
    (hp : r.Plain) : Authority.Shaped { a with steer := r, image := i } := by
  rw [Authority.shaped_iff] at h ⊢
  obtain ⟨hd, _, rest⟩ := h
  exact ⟨hd, ⟨hr, hp⟩, rest⟩

theorem Authority.Shaped.withGear {a : Authority} (h : a.Shaped) {r : AuthRow} (i : ControlImage)
    (hr : r.deadline = false) (hp : r.Plain) : Authority.Shaped { a with gear := r, image := i } := by
  rw [Authority.shaped_iff] at h ⊢
  obtain ⟨hd, hs, _, rest⟩ := h
  exact ⟨hd, hs, ⟨hr, hp⟩, rest⟩

theorem Authority.Shaped.withWinch {a : Authority} (h : a.Shaped) {r : AuthRow} {timer : Bool} (i : ControlImage)
    (hr : r.deadline = false) (hp : r.Plain) (ht : timer = true ↔ r.pending ≠ none) :
    Authority.Shaped { a with winch := r, winchTimer := timer, image := i } := by
  rw [Authority.shaped_iff] at h ⊢
  obtain ⟨hd, hs, hg, _, _⟩ := h
  exact ⟨hd, hs, hg, ⟨hr, hp⟩, ht⟩

theorem Authority.Shaped.drive {a : Authority} (h : a.Shaped) : a.drive.Timed := (a.shaped_iff.mp h).1
theorem Authority.Shaped.steer {a : Authority} (h : a.Shaped) : a.steer.Timed ∧ a.steer.Plain := (a.shaped_iff.mp h).2.1
theorem Authority.Shaped.gear {a : Authority} (h : a.Shaped) : a.gear.deadline = false ∧ a.gear.Plain :=
  (a.shaped_iff.mp h).2.2.1
theorem Authority.Shaped.winch {a : Authority} (h : a.Shaped) : a.winch.deadline = false ∧ a.winch.Plain :=
  (a.shaped_iff.mp h).2.2.2.1
theorem Authority.Shaped.timer {a : Authority} (h : a.Shaped) : a.winchTimer = true ↔ a.winch.pending ≠ none :=
  (a.shaped_iff.mp h).2.2.2.2

theorem AuthRow.taken_timed (h : Holder) (p : Option PendingHolder) : (AuthRow.taken h p true).Timed := by
  simp [AuthRow.Timed, AuthRow.taken]

theorem Authority.Shaped.reset : Authority.reset.Shaped := by
  simp [Authority.Shaped, Authority.reset, AuthRow.reset]

/-! ### Changes of holder -/

theorem Authority.Shaped.giveDrive {s : State} (hs : s.au.Shaped) (h : Holder) (p : Option PendingHolder) :
    (s.giveDrive h p).au.Shaped := by
  rw [s.giveDrive_au]
  exact hs.withDrive _ (AuthRow.taken_timed h p)

theorem Authority.Shaped.giveSteer {s : State} (hs : s.au.Shaped) {h : Holder} {p : Option PendingHolder}
    (hp : (AuthRow.taken h p true).Plain) : (s.giveSteer h p).au.Shaped := by
  rw [s.giveSteer_au]
  exact hs.withSteer _ (AuthRow.taken_timed h p) hp

theorem Authority.Shaped.giveGear {s : State} (hs : s.au.Shaped) {h : Holder} {p : Option PendingHolder}
    (hp : (AuthRow.taken h p false).Plain) : (s.giveGear h p).au.Shaped := by
  rw [s.giveGear_au]
  exact hs.withGear _ rfl hp

theorem Authority.Shaped.giveWinch {s : State} (hs : s.au.Shaped) {h : Holder} (hh : h ≠ .auto .assist) :
    (s.giveWinch h).au.Shaped := by
  rw [s.giveWinch_au]
  exact hs.withWinch _ rfl ⟨hh, .inl rfl⟩ (by simp [AuthRow.taken])

/-- A pending change of a STEER, GEAR or WINCH row is one to the radio. -/
theorem AuthRow.Plain.pending_eq {r : AuthRow} (h : r.Plain) {p : PendingHolder} (hp : r.pending = some p) :
    p = .radio := by
  rcases h.2 with h | h <;> simp_all

theorem Authority.Shaped.driveBoundary {s : State} (hs : s.au.Shaped) : s.driveBoundary.au.Shaped := by
  unfold State.driveBoundary
  split
  · exact hs
  · exact hs.giveDrive _ _

theorem Authority.Shaped.steerBoundary {s : State} (hs : s.au.Shaped) : s.steerBoundary.au.Shaped := by
  unfold State.steerBoundary
  split
  · exact hs
  next hp =>
    rw [hs.steer.2.pending_eq hp]
    exact hs.giveSteer ⟨by simp [AuthRow.taken, PendingHolder.holder], .inl rfl⟩

theorem Authority.Shaped.gearBoundary {s : State} (hs : s.au.Shaped) : s.gearBoundary.au.Shaped := by
  unfold State.gearBoundary
  split
  · exact hs
  next hp =>
    rw [hs.gear.2.pending_eq hp]
    exact hs.giveGear ⟨by simp [AuthRow.taken, PendingHolder.holder], .inl rfl⟩

theorem Authority.Shaped.winchBoundary {s : State} (hs : s.au.Shaped) : s.winchBoundary.au.Shaped := by
  unfold State.winchBoundary
  split
  · exact hs
  next hp =>
    rw [hs.winch.2.pending_eq hp]
    exact hs.giveWinch (by simp [PendingHolder.holder])

/-- The winch boundary timer runs under a pending holder, so its expiry completes a change. -/
theorem Authority.Shaped.winchTimer {s : State} (hs : s.au.Shaped) (ht : s.au.winchTimer = true) :
    (s.setAu { s.au with winchTimer := false }).winchBoundary.au.Shaped := by
  unfold State.winchBoundary
  simp only [State.setAu_au]
  split
  next hp => exact absurd hp (hs.timer.mp ht)
  next hp =>
    rw [State.giveWinch_au, hs.winch.2.pending_eq hp]
    exact hs.withWinch _ rfl ⟨by simp [AuthRow.taken, PendingHolder.holder], .inl rfl⟩ (by simp [AuthRow.taken])

/-! ### Endings -/

theorem AuthRow.assistOver_timed {r : AuthRow} (h : r.Timed) (ready : Bool) : (r.assistOver ready).Timed := by
  unfold AuthRow.assistOver
  repeat' split
  all_goals exact h

theorem Authority.Shaped.endOperation {s : State} (hs : s.au.Shaped) (o : Option SenseKind) :
    (s.endOperation o).au.Shaped := by
  have only := s.endOperation_only o
  rw [Authority.shaped_iff, only.steer, only.gear, State.endOperation_winch, State.endOperation_winchTimer]
  refine ⟨?_, (Authority.shaped_iff _).mp hs |>.2⟩
  rcases only.drive with h | h <;> rw [h]
  · exact hs.drive
  · exact AuthRow.assistOver_timed hs.drive _

theorem Authority.Shaped.radioTakesWinch {s : State} (hs : s.au.Shaped) (hh : s.au.winch.holder ≠ .auto .assist) :
    s.radioTakesWinch.au.Shaped := by
  refine Authority.Shaped.endOperation (s := s.setAu _) ?_ _
  refine hs.withWinch _ hs.winch.1 ⟨hh, .inr rfl⟩ ?_
  have := hs.timer
  cases hp : s.au.winch.pending <;> simp_all

/-! ### The entries to LIVE and LOST and a published frame -/

theorem keptPending_plain (p : Option PendingHolder) (h : p = none ∨ p = some .radio) : keptPending p = none := by
  rcases h with rfl | rfl <;> rfl

theorem Authority.Shaped.driveLive {s : State} (hs : s.au.Shaped) : s.driveLive.au.Shaped := by
  unfold State.driveLive
  split
  · split
    · exact hs.giveDrive _ _
    · exact hs
  · exact hs.withDrive _ hs.drive
  · exact hs.withDrive _ hs.drive
  · exact hs

theorem Authority.Shaped.steerLive {s : State} (hs : s.au.Shaped) : s.steerLive.au.Shaped := by
  obtain ⟨htimed, hholder, hpending⟩ := hs.steer
  unfold State.steerLive
  split
  · split
    · rw [keptPending_plain _ hpending]
      exact hs.giveSteer ⟨by simp [AuthRow.taken], .inl rfl⟩
    · exact hs
  · exact hs.withSteer _ htimed ⟨hholder, .inr rfl⟩
  · exact hs.withSteer _ htimed ⟨hholder, .inr rfl⟩
  · exact hs

theorem Authority.Shaped.gearLive {s : State} (hs : s.au.Shaped) : s.gearLive.au.Shaped := by
  obtain ⟨hdeadline, hholder, hpending⟩ := hs.gear
  unfold State.gearLive
  split
  · split
    · rw [keptPending_plain _ hpending]
      exact hs.giveGear ⟨by simp [AuthRow.taken], .inl rfl⟩
    · exact hs
  · exact hs.withGear _ hdeadline ⟨hholder, .inr rfl⟩
  · exact hs.withGear _ hdeadline ⟨hholder, .inr rfl⟩
  · exact hs

theorem Authority.Shaped.winchLive {s : State} (hs : s.au.Shaped) : s.winchLive.au.Shaped := by
  unfold State.winchLive
  split
  · split
    · exact hs.giveWinch (by simp)
    · exact hs
  · exact hs.radioTakesWinch hs.winch.2.1
  · exact hs.radioTakesWinch hs.winch.2.1
  · exact hs

theorem Authority.Shaped.enterLive {s : State} (hs : s.au.Shaped) : s.enterLive.au.Shaped :=
  hs.driveLive.steerLive.gearLive.winchLive

theorem AuthRow.clearRadio_timed {r : AuthRow} (h : r.Timed) : r.clearRadio.Timed := by
  unfold AuthRow.clearRadio
  split <;> exact h

theorem AuthRow.clearRadio_plain {r : AuthRow} (h : r.Plain) : r.clearRadio.Plain := by
  unfold AuthRow.clearRadio
  split
  · exact ⟨h.1, .inl rfl⟩
  · exact h

theorem AuthRow.clearRadio_deadline (r : AuthRow) : r.clearRadio.deadline = r.deadline := by
  unfold AuthRow.clearRadio
  split <;> rfl

theorem Authority.Shaped.driveLost {s : State} (hs : s.au.Shaped) : s.driveLost.au.Shaped := by
  unfold State.driveLost
  split
  · exact hs.giveDrive _ _
  · split
    · exact hs.withDrive _ hs.drive
    · exact hs.withDrive _ (AuthRow.clearRadio_timed hs.drive)
  · exact hs.withDrive _ (AuthRow.clearRadio_timed hs.drive)

theorem Authority.Shaped.steerLost {s : State} (hs : s.au.Shaped) : s.steerLost.au.Shaped := by
  unfold State.steerLost
  split
  · exact hs.giveSteer ⟨by simp [AuthRow.taken], .inl rfl⟩
  · exact hs.withSteer _ (AuthRow.clearRadio_timed hs.steer.1) (AuthRow.clearRadio_plain hs.steer.2)

theorem Authority.Shaped.gearLost {s : State} (hs : s.au.Shaped) : s.gearLost.au.Shaped := by
  unfold State.gearLost
  split
  · exact hs.giveGear ⟨by simp [AuthRow.taken], .inl rfl⟩
  · exact hs.withGear _ ((AuthRow.clearRadio_deadline _).trans hs.gear.1) (AuthRow.clearRadio_plain hs.gear.2)

theorem Authority.Shaped.winchLost {s : State} (hs : s.au.Shaped) : s.winchLost.au.Shaped := by
  unfold State.winchLost
  split
  · exact hs.giveWinch (by simp)
  split
  · exact hs.withWinch _ hs.winch.1 ⟨hs.winch.2.1, .inl rfl⟩ (by simp)
  · exact hs

theorem Authority.Shaped.enterLost {s : State} (hs : s.au.Shaped) : s.enterLost.au.Shaped :=
  hs.driveLost.steerLost.gearLost.winchLost

theorem Authority.Shaped.drivePublished {s : State} (hs : s.au.Shaped) : s.drivePublished.au.Shaped := by
  unfold State.drivePublished
  split
  · exact hs.giveDrive _ _
  · refine hs.withDrive _ ?_
    split <;> exact hs.drive
  · split
    · exact hs.giveDrive _ _
    · exact hs
  · split
    · exact hs.withDrive _ hs.drive
    · exact hs
  · exact hs

theorem Authority.Shaped.steerPublished {s : State} (hs : s.au.Shaped) : s.steerPublished.au.Shaped := by
  unfold State.steerPublished
  split
  · exact hs.giveSteer ⟨by simp [AuthRow.taken], hs.steer.2.2⟩
  · exact hs
  · split
    · exact hs.giveSteer ⟨by simp [AuthRow.taken], .inl rfl⟩
    · exact hs
  · exact hs

theorem Authority.Shaped.gearPublished {s : State} (hs : s.au.Shaped) : s.gearPublished.au.Shaped := by
  unfold State.gearPublished
  split
  · exact hs.giveGear ⟨by simp [AuthRow.taken], hs.gear.2.2⟩
  · exact hs
  · split
    · exact hs.giveGear ⟨by simp [AuthRow.taken], .inl rfl⟩
    · exact hs
  · exact hs

theorem Authority.Shaped.winchPublished {s : State} (hs : s.au.Shaped) (before : Option Int) :
    (s.winchPublished before).au.Shaped := by
  unfold State.winchPublished
  split
  · exact hs.giveWinch (by simp)
  · exact hs
  · split
    · exact hs.giveWinch (by simp)
    · exact hs
  · split
    · exact hs.radioTakesWinch hs.winch.2.1
    · exact hs
  · exact hs

theorem Authority.Shaped.publish {s : State} (hs : s.au.Shaped) (before : Option Int) : (s.publish before).au.Shaped := by
  rw [s.publish_au]
  exact hs.drivePublished.steerPublished.gearPublished.winchPublished before

theorem Authority.Shaped.reportLink {s : State} (hs : s.au.Shaped) (before : LinkState) :
    (s.reportLink before).au.Shaped := by
  unfold State.reportLink
  split
  · exact hs
  split
  · exact hs.enterLive
  · exact hs.enterLost
  · exact hs

theorem Authority.Shaped.takeFrame {s : State} (hs : s.au.Shaped) (f : ReceiverFrame) : (s.takeFrame f).au.Shaped := by
  have report := Authority.Shaped.reportLink (s := s.setRxl (s.rxl.afterFrame s.w.rxl f)) hs s.rxl.link
  unfold State.takeFrame
  dsimp only
  split
  · exact report.publish _
  · exact report

/-! ### Every move -/

theorem Authority.Shaped.give {s : State} (hs : s.au.Shaped) (r : Row) {h : Holder} (hh : h ≠ .auto .assist) :
    (s.give r h).au.Shaped := by
  cases r with
  | drive => exact hs.giveDrive _ _
  | steer => exact hs.giveSteer ⟨hh, .inl rfl⟩
  | gear => exact hs.giveGear ⟨hh, .inl rfl⟩
  | winch => exact hs.giveWinch hh

theorem State.releasedTo_ne_assist (s : State) (r : Row) : s.releasedTo r ≠ .auto .assist := by
  unfold State.releasedTo
  split <;> simp

theorem Authority.Shaped.reaffirmed {a : Authority} (hs : a.Shaped) {r : Row} (h : (a.row r).holder = .pit) :
    (a.restartDeadline r).Shaped := by
  cases r with
  | drive => exact hs.withDrive _ ⟨fun _ => h, fun _ => rfl⟩
  | steer => exact hs.withSteer _ ⟨fun _ => h, fun _ => rfl⟩ hs.steer.2
  | gear => exact hs
  | winch => exact hs

theorem State.Move.shaped {s t : State} (h : s.Move t) (hs : s.au.Shaped) : t.au.Shaped := by
  cases h with
  | quiet h => rw [h.au]; exact hs
  | reset _ ha _ => rw [ha]; exact Authority.Shaped.reset
  | hunts => exact hs
  | holdMark => exact hs
  | failsafeMark => exact Authority.Shaped.reportLink (s := s.setRxl s.rxl.failsafeMark) hs _
  | frame bytes f _ => exact hs.takeFrame f
  | driveBoundary => exact hs.driveBoundary
  | steerBoundary => exact hs.steerBoundary
  | gearBoundary => exact hs.gearBoundary
  | winchBoundary => exact hs.winchBoundary
  | winchTimer h => exact hs.winchTimer h
  | driveDeadline => exact hs.giveDrive _ _
  | steerDeadline => exact hs.giveSteer ⟨by simp [AuthRow.taken], hs.steer.2.2⟩
  | reaffirmed r h => exact hs.reaffirmed h
  | claimed r _ => exact hs.give r (by simp)
  | released r _ _ => exact hs.give r (s.releasedTo_ne_assist r)
  | driveSet v hp _ => exact hs.withDrive _ ⟨fun _ => hp, fun _ => rfl⟩
  | steerSet v m hp _ => exact hs.withSteer _ ⟨fun _ => hp, fun _ => rfl⟩ hs.steer.2
  | gearSet g => exact hs
  | operationStarts r _ => exact hs
  | assistStarts r _ _ => exact hs.withDrive _ hs.drive
  | operationEnds o => exact hs.endOperation o
  | freespool _ => exact hs
  | freespoolEnds _ => unfold Authority.endFreespool; simp only [State.setAu_au]; split <;> exact hs

/-- Settles O3: every step is a chain of moves, and each move keeps the shape of the authority table. -/
theorem authorityShapeKept : Obligations.AuthorityShapeKept := fun _ _ hs h =>
  step_keeps (P := fun s => s.au.Shaped) (fun _ _ m => m.shaped) h hs

end Sys2Proof.Machine
end

section
/-! Who may hold a row under which link state (R8, R10, R153) under every move. -/

namespace Sys2Proof.Machine

/-! ### The two properties row by row -/

/-- RXL hears the radio: LIVE or HOLD. -/
def State.Heard (s : State) : Prop := s.rxl.link = .live ∨ s.rxl.link = .hold

/-- A PIT row waits for the radio (R8). -/
def AuthRow.Waits (r : AuthRow) : Prop := r.holder = .pit → r.pending = some .radio

/-- The radio neither holds a row nor is awaited by it (R10). -/
def AuthRow.Silent (r : AuthRow) : Prop := r.holder ≠ .radio ∧ r.pending ≠ some .radio

/-- Under a heard link the PIT rows of DRIVE, STEER and GEAR wait for the radio; under any other the radio has no part in
the table. -/
def State.Held (s : State) : Prop :=
  (s.Heard → s.au.drive.Waits ∧ s.au.steer.Waits ∧ s.au.gear.Waits) ∧
    (¬s.Heard → s.au.drive.Silent ∧ s.au.steer.Silent ∧ s.au.gear.Silent ∧ s.au.winch.Silent)

theorem State.held_iff (s : State) : s.Held ↔ s.HeardPit ∧ s.RadioHeard := by
  unfold State.Held State.HeardPit State.RadioHeard State.Heard
  rw [not_or]
  exact Iff.rfl

theorem State.Heard.congr {s t : State} (h : t.rxl = s.rxl) : t.Heard ↔ s.Heard := by
  unfold State.Heard; rw [h]

/-- An operation on the DRIVE row keeps the two properties if it keeps them of that row. -/
theorem State.Held.driveOnly {s t : State} (hs : s.Held) (only : s.DriveOnly t)
    (hw : s.Heard → s.au.drive.Waits → t.au.drive.Waits) (hq : ¬s.Heard → s.au.drive.Silent → t.au.drive.Silent) :
    t.Held := by
  unfold State.Held
  rw [State.Heard.congr only.rxl, only.steer, only.gear, only.winch]
  refine ⟨fun h => ?_, fun h => ?_⟩
  · obtain ⟨drive, rest⟩ := hs.1 h
    exact ⟨hw h drive, rest⟩
  · obtain ⟨drive, rest⟩ := hs.2 h
    exact ⟨hq h drive, rest⟩

theorem State.Held.steerOnly {s t : State} (hs : s.Held) (only : s.SteerOnly t)
    (hw : s.Heard → s.au.steer.Waits → t.au.steer.Waits) (hq : ¬s.Heard → s.au.steer.Silent → t.au.steer.Silent) :
    t.Held := by
  unfold State.Held
  rw [State.Heard.congr only.rxl, only.drive, only.gear, only.winch]
  refine ⟨fun h => ?_, fun h => ?_⟩
  · obtain ⟨drive, steer, gear⟩ := hs.1 h
    exact ⟨drive, hw h steer, gear⟩
  · obtain ⟨drive, steer, rest⟩ := hs.2 h
    exact ⟨drive, hq h steer, rest⟩

theorem State.Held.gearOnly {s t : State} (hs : s.Held) (only : s.GearOnly t)
    (hw : s.Heard → s.au.gear.Waits → t.au.gear.Waits) (hq : ¬s.Heard → s.au.gear.Silent → t.au.gear.Silent) :
    t.Held := by
  unfold State.Held
  rw [State.Heard.congr only.rxl, only.drive, only.steer, only.winch]
  refine ⟨fun h => ?_, fun h => ?_⟩
  · obtain ⟨drive, steer, gear⟩ := hs.1 h
    exact ⟨drive, steer, hw h gear⟩
  · obtain ⟨drive, steer, gear, winch⟩ := hs.2 h
    exact ⟨drive, steer, hq h gear, winch⟩

/-- The end of an assisted haul leaves a PIT row as it was. -/
theorem AuthRow.Waits.assistOver {r : AuthRow} (h : r.Waits) (ready : Bool) : (r.assistOver ready).Waits := by
  intro hp
  unfold AuthRow.assistOver at hp ⊢
  split at hp
  next ha => split at hp <;> simp_all
  next => split at hp <;> simp_all [AuthRow.Waits]

/-- The end of an assisted haul gives DRIVE to the radio only where the throttle can be taken up (R18). -/
theorem AuthRow.Silent.assistOver {r : AuthRow} (h : r.Silent) : (r.assistOver false).Silent := by
  unfold AuthRow.assistOver AuthRow.Silent at *
  repeat' split
  all_goals simp_all

/-- The radio's throttle can be taken up only in LIVE. -/
theorem State.throttleReady_eq_false {s : State} (h : ¬s.Heard) : s.throttleReady = false := by
  have : s.rxl.link ≠ .live := fun hl => h (.inl hl)
  simp [State.throttleReady, this]

/-- An operation on the WINCH row, with or without the ending of an operation, keeps the two properties if it keeps the
second of the WINCH row. -/
theorem State.Held.endingOnly {s t : State} (hs : s.Held) (only : s.EndingOnly t)
    (hq : ¬s.Heard → s.au.winch.Silent → t.au.winch.Silent) : t.Held := by
  unfold State.Held
  rw [State.Heard.congr only.rxl, only.steer, only.gear]
  refine ⟨fun h => ?_, fun h => ?_⟩
  · obtain ⟨drive, rest⟩ := hs.1 h
    refine ⟨?_, rest⟩
    rcases only.drive with hd | hd <;> rw [hd]
    · exact drive
    · exact drive.assistOver _
  · obtain ⟨drive, steer, gear, winch⟩ := hs.2 h
    refine ⟨?_, steer, gear, hq h winch⟩
    rcases only.drive with hd | hd <;> rw [hd]
    · exact drive
    · rw [State.throttleReady_eq_false h]
      exact drive.assistOver

/-! ### Rows under a new holder -/

theorem AuthRow.taken_waits {h : Holder} {p : Option PendingHolder} {d : Bool} (hh : h ≠ .pit) :
    (AuthRow.taken h p d).Waits := fun hp => absurd hp hh

theorem AuthRow.taken_silent {h : Holder} {d : Bool} (hh : h ≠ .radio) : (AuthRow.taken h none d).Silent :=
  ⟨hh, by simp [AuthRow.taken]⟩

/-- No row waits for the pit. -/
theorem PendingHolder.holder_ne_pit (p : PendingHolder) : p.holder ≠ .pit := by cases p <;> simp [PendingHolder.holder]

theorem PendingHolder.holder_ne_radio {p : PendingHolder} (h : p ≠ .radio) : p.holder ≠ .radio := by
  cases p <;> simp_all [PendingHolder.holder]

/-! ### Boundaries and deadlines -/

theorem State.Held.driveBoundary {s : State} (hs : s.Held) : s.driveBoundary.Held := by
  unfold State.driveBoundary
  split
  · exact hs
  next p hp =>
    refine hs.driveOnly (s.giveDrive_only _ _) (fun _ _ => ?_) (fun _ hq => ?_) <;> rw [State.giveDrive_au]
    · exact AuthRow.taken_waits p.holder_ne_pit
    · exact AuthRow.taken_silent (PendingHolder.holder_ne_radio fun h => hq.2 (h ▸ hp))

theorem State.Held.steerBoundary {s : State} (hs : s.Held) : s.steerBoundary.Held := by
  unfold State.steerBoundary
  split
  · exact hs
  next p hp =>
    refine hs.steerOnly (s.giveSteer_only _ _) (fun _ _ => ?_) (fun _ hq => ?_) <;> rw [State.giveSteer_au]
    · exact AuthRow.taken_waits p.holder_ne_pit
    · exact AuthRow.taken_silent (PendingHolder.holder_ne_radio fun h => hq.2 (h ▸ hp))

theorem State.Held.gearBoundary {s : State} (hs : s.Held) : s.gearBoundary.Held := by
  unfold State.gearBoundary
  split
  · exact hs
  next p hp =>
    refine hs.gearOnly (s.giveGear_only _ _) (fun _ _ => ?_) (fun _ hq => ?_) <;> rw [State.giveGear_au]
    · exact AuthRow.taken_waits p.holder_ne_pit
    · exact AuthRow.taken_silent (PendingHolder.holder_ne_radio fun h => hq.2 (h ▸ hp))

theorem State.Held.winchBoundary {s : State} (hs : s.Held) : s.winchBoundary.Held := by
  unfold State.winchBoundary
  split
  · exact hs
  next p hp =>
    refine hs.endingOnly (s.giveWinch_only _) (fun _ hq => ?_)
    rw [State.giveWinch_au]
    exact AuthRow.taken_silent (PendingHolder.holder_ne_radio fun h => hq.2 (h ▸ hp))

/-! ### The entry to LIVE: every PIT row of DRIVE, STEER and GEAR waits for the radio afterwards (R8) -/

theorem State.driveLive_waits (s : State) : s.driveLive.au.drive.Waits := by
  unfold State.driveLive
  split
  next h =>
    split
    · rw [State.giveDrive_au]; exact AuthRow.taken_waits (by simp)
    · intro hp; simp [h] at hp
  · exact fun _ => rfl
  · exact fun _ => rfl
  · intro hp; simp_all

theorem State.steerLive_waits (s : State) : s.steerLive.au.steer.Waits := by
  unfold State.steerLive
  split
  next h =>
    split
    · rw [State.giveSteer_au]; exact AuthRow.taken_waits (by simp)
    · intro hp; simp [h] at hp
  · exact fun _ => rfl
  · exact fun _ => rfl
  · intro hp; simp_all

theorem State.gearLive_waits (s : State) : s.gearLive.au.gear.Waits := by
  unfold State.gearLive
  split
  next h =>
    split
    · rw [State.giveGear_au]; exact AuthRow.taken_waits (by simp)
    · intro hp; simp [h] at hp
  · exact fun _ => rfl
  · exact fun _ => rfl
  · intro hp; simp_all

theorem State.enterLive_held (s : State) (h : s.Heard) : s.enterLive.Held := by
  have waits : s.driveLive.steerLive.gearLive.Held := by
    have heard : s.driveLive.steerLive.gearLive.Heard := by
      unfold State.Heard
      rwa [(State.gearLive_only _).rxl, (State.steerLive_only _).rxl, (State.driveLive_only _).rxl]
    refine ⟨fun _ => ⟨?_, ?_, State.gearLive_waits _⟩, fun hn => absurd heard hn⟩
    · rw [(State.gearLive_only _).drive, (State.steerLive_only _).drive]
      exact s.driveLive_waits
    · rw [(State.gearLive_only _).steer]
      exact State.steerLive_waits _
  refine waits.endingOnly (State.winchLive_only _) fun hn => ?_
  refine absurd ?_ hn
  unfold State.Heard
  rwa [(State.gearLive_only _).rxl, (State.steerLive_only _).rxl, (State.driveLive_only _).rxl]

/-! ### The entry to LOST: the radio leaves every row (R10) -/

theorem AuthRow.clearRadio_silent {r : AuthRow} (h : r.holder ≠ .radio) : r.clearRadio.Silent := by
  unfold AuthRow.clearRadio
  split
  · exact ⟨h, by simp⟩
  next hp => exact ⟨h, hp⟩

theorem State.driveLost_silent (s : State) : s.driveLost.au.drive.Silent := by
  unfold State.driveLost
  split
  · rw [State.giveDrive_au]; exact AuthRow.taken_silent (by simp)
  next h =>
    split
    · exact ⟨by simp [h], by simp⟩
    · exact AuthRow.clearRadio_silent (by simp [h])
  next h _ => exact AuthRow.clearRadio_silent h

theorem State.steerLost_silent (s : State) : s.steerLost.au.steer.Silent := by
  unfold State.steerLost
  split
  · rw [State.giveSteer_au]; exact AuthRow.taken_silent (by simp)
  next h => exact AuthRow.clearRadio_silent h

theorem State.gearLost_silent (s : State) : s.gearLost.au.gear.Silent := by
  unfold State.gearLost
  split
  · rw [State.giveGear_au]; exact AuthRow.taken_silent (by simp)
  next h => exact AuthRow.clearRadio_silent h

theorem State.winchLost_silent (s : State) : s.winchLost.au.winch.Silent := by
  unfold State.winchLost
  split
  · rw [State.giveWinch_au]; exact AuthRow.taken_silent (by simp)
  next h =>
    split
    · exact ⟨h, by simp⟩
    next hp => exact ⟨h, hp⟩

theorem State.enterLost_held (s : State) (h : ¬s.Heard) : s.enterLost.Held := by
  refine ⟨fun hn => absurd ((State.Heard.congr s.enterLost_rxl).mp hn) h, fun _ => ⟨?_, ?_, ?_, State.winchLost_silent _⟩⟩
  · unfold State.enterLost
    rw [State.winchLost_drive, (State.gearLost_only _).drive, (State.steerLost_only _).drive]
    exact s.driveLost_silent
  · unfold State.enterLost
    rw [(State.winchLost_only _).steer, (State.gearLost_only _).steer]
    exact State.steerLost_silent _
  · unfold State.enterLost
    rw [(State.winchLost_only _).gear]
    exact State.gearLost_silent _

/-! ### A published frame under a heard link -/

theorem State.drivePublished_waits {s : State} (h : s.au.drive.Waits) : s.drivePublished.au.drive.Waits := by
  unfold State.drivePublished
  split
  · rw [State.giveDrive_au]; exact AuthRow.taken_waits (by simp)
  next hr _ => intro hp; simp only [State.setAu_au] at hp; split at hp <;> simp [hr] at hp
  · split
    · rw [State.giveDrive_au]; exact AuthRow.taken_waits (by simp)
    · exact h
  · split
    · exact fun _ => rfl
    · exact h
  · exact h

theorem State.steerPublished_waits {s : State} (h : s.au.steer.Waits) : s.steerPublished.au.steer.Waits := by
  unfold State.steerPublished
  split
  · rw [State.giveSteer_au]; exact AuthRow.taken_waits (by simp)
  · exact h
  · split
    · rw [State.giveSteer_au]; exact AuthRow.taken_waits (by simp)
    · exact h
  · exact h

theorem State.gearPublished_waits {s : State} (h : s.au.gear.Waits) : s.gearPublished.au.gear.Waits := by
  unfold State.gearPublished
  split
  · rw [State.giveGear_au]; exact AuthRow.taken_waits (by simp)
  · exact h
  · split
    · rw [State.giveGear_au]; exact AuthRow.taken_waits (by simp)
    · exact h
  · exact h

theorem State.Held.publish {s : State} (hs : s.Held) (h : s.Heard) (before : Option Int) : (s.publish before).Held := by
  have drive := hs.driveOnly s.drivePublished_only (fun _ => State.drivePublished_waits) (fun hn => absurd h hn)
  have heard1 := (State.Heard.congr s.drivePublished_only.rxl).mpr h
  have steer := drive.steerOnly (State.steerPublished_only _) (fun _ => State.steerPublished_waits)
    (fun hn => absurd heard1 hn)
  have heard2 := (State.Heard.congr (State.steerPublished_only _).rxl).mpr heard1
  have gear := steer.gearOnly (State.gearPublished_only _) (fun _ => State.gearPublished_waits)
    (fun hn => absurd heard2 hn)
  have heard3 := (State.Heard.congr (State.gearPublished_only _).rxl).mpr heard2
  have winch := gear.endingOnly (State.winchPublished_only _ before) (fun hn => absurd heard3 hn)
  unfold State.Held
  rw [s.publish_au before, State.Heard.congr (s.publish_rxl before)]
  refine ⟨fun _ => winch.1 ?_, fun hn => absurd h hn⟩
  exact (State.Heard.congr (State.winchPublished_only _ before).rxl).mpr heard3

/-! ### A change of the link -/

/-- A link that stays as it was, with the rows as they were. -/
theorem State.Held.sameLink {s : State} (hs : s.Held) {b : Receiver}
    (h : (b.link = .live ∨ b.link = .hold) ↔ s.Heard) : (s.setRxl b).Held :=
  ⟨fun hh => hs.1 (h.mp hh), fun hn => hs.2 fun hh => hn (h.mpr hh)⟩

/-- AU's share of a change of link state, which goes to LIVE, to LOST, from LOST to RECOVERING or nowhere. -/
theorem State.Held.reportLink {s : State} (hs : s.Held) {b : Receiver}
    (hl : b.link ≠ s.rxl.link → b.link = .live ∨ b.link = .lost ∨ b.link = .recovering ∧ s.rxl.link = .lost) :
    ((s.setRxl b).reportLink s.rxl.link).Held := by
  unfold State.reportLink
  split
  next same => exact hs.sameLink (by simp only [State.setRxl_rxl] at same; rw [same]; rfl)
  next changed =>
    simp only [State.setRxl_rxl] at changed ⊢
    rcases hl changed with h | h | ⟨h, hold⟩ <;> rw [h]
    · exact State.enterLive_held _ (.inl h)
    · exact State.enterLost_held _ (by simp [State.Heard, h])
    · exact hs.sameLink (by simp [h, State.Heard, hold])

theorem Receiver.failsafeMark_link (b : Receiver) (h : b.failsafeMark.link ≠ b.link) : b.failsafeMark.link = .lost := by
  unfold Receiver.failsafeMark at h ⊢
  repeat' split at h
  all_goals simp_all

theorem Receiver.holdMark_link (b : Receiver) :
    (b.holdMark.link = .live ∨ b.holdMark.link = .hold) ↔ b.link = .live ∨ b.link = .hold := by
  unfold Receiver.holdMark
  split
  · exact Iff.rfl
  · cases b.link <;> simp

theorem State.Held.takeFrame {s : State} (hs : s.Held) (f : ReceiverFrame) : (s.takeFrame f).Held := by
  have report := hs.reportLink (b := s.rxl.afterFrame s.w.rxl f) (s.rxl.move_link (s.rxl.classify f))
  unfold State.takeFrame
  dsimp only
  split
  next hp =>
    refine report.publish (.inl ?_) _
    rw [State.reportLink_rxl]
    exact s.rxl.move_publish _ hp
  · exact report

/-! ### Every move -/

/-- A claim is taken under a heard link for WINCH alone (R11). -/
theorem claimCase_taken {a : Authority} {l : LinkState} {r : Row} (h : claimCase a l r = .taken) :
    (l.heard = true → r = .winch) ∧ (a.row r).holder ≠ .pit ∧ (a.row r).pending ≠ some .radio := by
  unfold claimCase at h
  dsimp only at h
  split at h
  · contradiction
  split at h
  · contradiction
  next hpend hpit =>
  split at h
  · contradiction
  split at h
  · contradiction
  next hheard => exact ⟨fun hl => by_contra fun hr => hheard ⟨hl, hr⟩, hpit, hpend⟩

theorem State.Heard.heard {s : State} (h : s.Heard) : s.rxl.link.heard = true := by
  unfold LinkState.heard
  rcases h with h | h <;> simp [h]

/-- A row may go to the pit while the link is not heard, WINCH at any time, and to the radio while it is heard. -/
theorem State.Held.give {s : State} (hs : s.Held) (r : Row) {h : Holder} (hp : r ≠ .winch → s.Heard → h ≠ .pit)
    (hr : ¬s.Heard → h ≠ .radio) : (s.give r h).Held := by
  cases r with
  | drive =>
    show (s.giveDrive h none).Held
    refine hs.driveOnly (s.giveDrive_only _ _) (fun hh _ => ?_) (fun hn _ => ?_) <;> rw [State.giveDrive_au]
    · exact AuthRow.taken_waits (hp (by simp) hh)
    · exact AuthRow.taken_silent (hr hn)
  | steer =>
    show (s.giveSteer h none).Held
    refine hs.steerOnly (s.giveSteer_only _ _) (fun hh _ => ?_) (fun hn _ => ?_) <;> rw [State.giveSteer_au]
    · exact AuthRow.taken_waits (hp (by simp) hh)
    · exact AuthRow.taken_silent (hr hn)
  | gear =>
    show (s.giveGear h none).Held
    refine hs.gearOnly (s.giveGear_only _ _) (fun hh _ => ?_) (fun hn _ => ?_) <;> rw [State.giveGear_au]
    · exact AuthRow.taken_waits (hp (by simp) hh)
    · exact AuthRow.taken_silent (hr hn)
  | winch =>
    show (s.giveWinch h).Held
    refine hs.endingOnly (s.giveWinch_only _) (fun hn _ => ?_)
    rw [State.giveWinch_au]
    exact AuthRow.taken_silent (hr hn)

theorem State.Held.claimed {s : State} (hs : s.Held) {r : Row} (h : claimCase s.au s.rxl.link r = .taken) :
    (s.give r .pit).Held :=
  hs.give r (fun hr hh => absurd ((claimCase_taken h).1 hh.heard) hr) (by simp)

/-- A released row goes to the radio in LIVE only, and never stays with the pit (R15). -/
theorem State.releasedTo_spec (s : State) (r : Row) : s.releasedTo r ≠ .pit ∧ (¬s.Heard → s.releasedTo r ≠ .radio) := by
  unfold State.releasedTo
  split
  next h => exact ⟨by simp, fun hn => absurd (.inl h.1) hn⟩
  · simp

theorem State.Held.released {s : State} (hs : s.Held) (r : Row) : (s.give r (s.releasedTo r)).Held :=
  hs.give r (fun _ _ => (s.releasedTo_spec r).1) (s.releasedTo_spec r).2

/-- An assisted haul is taken from a DRIVE row that RADIO or NONE holds (R17). -/
theorem assistRefusal_none {a : Authority} (h : assistRefusal a = none) :
    a.drive.holder = .radio ∧ a.image.drive.throttle = 0 ∨ a.drive.holder = .noParty ∧ a.drive.pending = none := by
  unfold assistRefusal at h
  split at h
  next hr => split at h <;> simp_all
  next hn => split at h <;> simp_all
  all_goals simp at h

theorem State.Held.startAssist {s : State} (hs : s.Held) (r : OpRecord) (h : assistRefusal s.au = none) :
    (s.startAssist r).Held := by
  refine ⟨fun hh => ?_, fun hn => ?_⟩
  · obtain ⟨_, rest⟩ := hs.1 hh
    refine ⟨fun hp => ?_, rest⟩
    have hp : s.au.drive.holder = .pit := hp
    rcases assistRefusal_none h with ⟨hr, _⟩ | ⟨hr, _⟩ <;> rw [hp] at hr <;> contradiction
  · obtain ⟨drive, rest⟩ := hs.2 hn
    exact ⟨⟨drive.1, by simp [State.startAssist]⟩, rest⟩

theorem State.Held.reset {t : State} (hr : t.rxl = .reset) (ha : t.au = .reset) : t.Held := by
  unfold State.Held State.Heard
  rw [hr, ha]
  simp [Receiver.reset, Authority.reset, AuthRow.reset, AuthRow.Silent]

theorem State.Move.held {s t : State} (h : s.Move t) (hs : s.Held) : t.Held := by
  cases h with
  | quiet h =>
    unfold State.Held
    rw [h.au, State.Heard.congr h.rxl]
    exact hs
  | reset hr ha _ => exact State.Held.reset hr ha
  | hunts => exact hs
  | holdMark => exact hs.sameLink s.rxl.holdMark_link
  | failsafeMark => exact hs.reportLink fun h => .inr (.inl (s.rxl.failsafeMark_link h))
  | frame bytes f _ => exact hs.takeFrame f
  | driveBoundary => exact hs.driveBoundary
  | steerBoundary => exact hs.steerBoundary
  | gearBoundary => exact hs.gearBoundary
  | winchBoundary => exact hs.winchBoundary
  | winchTimer _ => exact State.Held.winchBoundary (s := s.setAu _) hs
  | driveDeadline =>
    refine hs.driveOnly (s.giveDrive_only _ _) (fun _ _ => ?_) (fun _ hq => ?_) <;> rw [State.giveDrive_au]
    · exact AuthRow.taken_waits (by simp)
    · exact ⟨by simp [AuthRow.taken], hq.2⟩
  | steerDeadline =>
    refine hs.steerOnly (s.giveSteer_only _ _) (fun _ _ => ?_) (fun _ hq => ?_) <;> rw [State.giveSteer_au]
    · exact AuthRow.taken_waits (by simp)
    · exact ⟨by simp [AuthRow.taken], hq.2⟩
  | reaffirmed r _ => cases r <;> exact hs
  | claimed r h => exact hs.claimed h
  | released r _ _ => exact hs.released r
  | driveSet v _ _ => exact hs
  | steerSet v m _ _ => exact hs
  | gearSet g => exact hs
  | operationStarts r _ => exact hs
  | assistStarts r _ ha => exact hs.startAssist r ha
  | operationEnds o =>
    refine hs.endingOnly (s.endOperation_only o) (fun _ hq => ?_)
    rw [State.endOperation_winch]
    exact hq
  | freespool _ => exact hs
  | freespoolEnds _ => unfold Authority.endFreespool; split <;> exact hs

/-- Settles O4: every step is a chain of moves, and each move keeps both halves of who may hold a row. -/
theorem linkAndHoldersKept : Obligations.LinkAndHoldersKept := fun s t _ hpit hradio h =>
  t.held_iff.mp (step_keeps (P := State.Held) (fun _ _ m => m.held) h (s.held_iff.mpr ⟨hpit, hradio⟩))

end Sys2Proof.Machine
end

section
/-! The operation record under an undisturbed PIT holder of WINCH (R4, R13, R127) under every move. -/

namespace Sys2Proof.Machine

/-- Without a record the property says that the WINCH entry is not OPERATION. -/
theorem State.RecordHeld.of_none {s : State} (h : s.wnc.record = none) (hk : s.au.image.winch.kind ≠ .operation) :
    s.RecordHeld :=
  ⟨fun hr => absurd h hr, fun ho => absurd ho hk, fun hr => absurd h hr⟩

/-- The property is about the WINCH row, its entry and the existence of a record alone. -/
theorem State.RecordHeld.congr {s t : State} (hs : s.RecordHeld) (hw : t.au.winch = s.au.winch)
    (hi : t.au.image.winch = s.au.image.winch) (hr : t.wnc.record = none ↔ s.wnc.record = none) : t.RecordHeld := by
  unfold State.RecordHeld
  rw [hw, hi, ne_eq, hr]
  exact hs

theorem State.RecordHeld.driveOnly {s t : State} (hs : s.RecordHeld) (only : s.DriveOnly t) : t.RecordHeld :=
  hs.congr only.winch only.imageWinch (by rw [only.wnc])
theorem State.RecordHeld.steerOnly {s t : State} (hs : s.RecordHeld) (only : s.SteerOnly t) : t.RecordHeld :=
  hs.congr only.winch only.imageWinch (by rw [only.wnc])
theorem State.RecordHeld.gearOnly {s t : State} (hs : s.RecordHeld) (only : s.GearOnly t) : t.RecordHeld :=
  hs.congr only.winch only.imageWinch (by rw [only.wnc])

/-- No record stands while PIT does not hold WINCH, or while its row waits for another holder. -/
theorem State.RecordHeld.record_none {s : State} (hs : s.RecordHeld) (h : s.au.winch.holder ≠ .pit ∨ s.au.winch.pending ≠ none) :
    s.wnc.record = none := by
  by_contra hr
  obtain ⟨pit, pending⟩ := hs.1 hr
  exact h.elim (· pit) (· pending)

/-- A new holder of WINCH that finds no record gives an entry other than OPERATION (R2, R4). -/
theorem winchEntry_kind (h : Holder) (v : Int) : (winchEntry h v false).kind ≠ .operation := by
  cases h <;> simp [winchEntry]

theorem State.giveWinch_recordHeld (s : State) (h : Holder) (hr : s.wnc.record = none) : (s.giveWinch h).RecordHeld := by
  refine .of_none (by simpa using hr) ?_
  rw [State.giveWinch_au, hr]
  exact winchEntry_kind h _

theorem State.RecordHeld.endOperation {s : State} (hs : s.RecordHeld) (o : Option SenseKind) :
    (s.endOperation o).RecordHeld := by
  refine .of_none (s.endOperation_record o) ?_
  rw [State.endOperation_imageWinch]
  split
  · simp
  next h => exact fun hk => h ⟨hs.2.mp hk, (hs.1 (hs.2.mp hk)).1⟩

theorem State.RecordHeld.radioTakesWinch {s : State} (hs : s.RecordHeld) : s.radioTakesWinch.RecordHeld := by
  refine .of_none s.radioTakesWinch_record ?_
  rw [State.radioTakesWinch_imageWinch]
  split
  · simp
  next h => exact fun hk => h ⟨hs.2.mp hk, (hs.1 (hs.2.mp hk)).1⟩

theorem State.RecordHeld.winchBoundary {s : State} (hs : s.RecordHeld) : s.winchBoundary.RecordHeld := by
  unfold State.winchBoundary
  split
  · exact hs
  next hp => exact s.giveWinch_recordHeld _ (hs.record_none (.inr (by simp [hp])))

/-! ### The entries to LIVE and LOST and a published frame -/

theorem State.RecordHeld.winchLive {s : State} (hs : s.RecordHeld) : s.winchLive.RecordHeld := by
  unfold State.winchLive
  split
  next h =>
    split
    · exact s.giveWinch_recordHeld _ (hs.record_none (.inl (by simp [h])))
    · exact hs
  · exact hs.radioTakesWinch
  · exact hs.radioTakesWinch
  · exact hs

theorem State.RecordHeld.enterLive {s : State} (hs : s.RecordHeld) : s.enterLive.RecordHeld :=
  ((hs.driveOnly s.driveLive_only).steerOnly (State.steerLive_only _)).gearOnly (State.gearLive_only _) |>.winchLive

theorem State.RecordHeld.winchLost {s : State} (hs : s.RecordHeld) : s.winchLost.RecordHeld := by
  unfold State.winchLost
  split
  next h => exact s.giveWinch_recordHeld _ (hs.record_none (.inl (by simp [h])))
  split
  next hp =>
    have hr := hs.record_none (.inr (by simp [hp]))
    exact .of_none hr fun hk => hs.2.mp hk hr
  · exact hs

theorem State.RecordHeld.enterLost {s : State} (hs : s.RecordHeld) : s.enterLost.RecordHeld :=
  ((hs.driveOnly s.driveLost_only).steerOnly (State.steerLost_only _)).gearOnly (State.gearLost_only _) |>.winchLost

theorem State.RecordHeld.winchPublished {s : State} (hs : s.RecordHeld) (before : Option Int) :
    (s.winchPublished before).RecordHeld := by
  unfold State.winchPublished
  split
  next h _ => exact s.giveWinch_recordHeld _ (hs.record_none (.inl (by simp [h])))
  next h _ => exact .of_none (hs.record_none (.inl (by simp [h]))) (by simp)
  next h _ =>
    split
    · exact s.giveWinch_recordHeld _ (hs.record_none (.inl (by simp [h])))
    · exact hs
  · split
    · exact hs.radioTakesWinch
    · exact hs
  · exact hs

theorem State.RecordHeld.publish {s : State} (hs : s.RecordHeld) (before : Option Int) : (s.publish before).RecordHeld :=
  State.RecordHeld.congr
    (((hs.driveOnly s.drivePublished_only).steerOnly (State.steerPublished_only _)).gearOnly
      (State.gearPublished_only _) |>.winchPublished before)
    (by rw [s.publish_au]) (by rw [s.publish_au]) (by rw [s.publish_wnc])

theorem State.RecordHeld.reportLink {s : State} (hs : s.RecordHeld) (before : LinkState) :
    (s.reportLink before).RecordHeld := by
  unfold State.reportLink
  split
  · exact hs
  split
  · exact hs.enterLive
  · exact hs.enterLost
  · exact hs

theorem State.RecordHeld.takeFrame {s : State} (hs : s.RecordHeld) (f : ReceiverFrame) : (s.takeFrame f).RecordHeld := by
  have report := State.RecordHeld.reportLink (s := s.setRxl (s.rxl.afterFrame s.w.rxl f)) hs s.rxl.link
  unfold State.takeFrame
  dsimp only
  split
  · exact report.publish _
  · exact report

/-! ### Every move -/

/-- An operation is taken from a PIT row without a record and without a pending radio (R117). -/
theorem operationRefusal_none {s : State} (h : operationRefusal s = none) :
    s.au.winch.holder = .pit ∧ s.wnc.record = none ∧ s.au.winch.pending ≠ some .radio := by
  unfold operationRefusal at h
  repeat' split at h
  all_goals simp_all

theorem State.RecordHeld.give {s : State} (hs : s.RecordHeld) (r : Row) (h : Holder)
    (hr : r = .winch → s.wnc.record = none) : (s.give r h).RecordHeld := by
  cases r with
  | drive => exact hs.driveOnly (s.giveDrive_only _ _)
  | steer => exact hs.steerOnly (s.giveSteer_only _ _)
  | gear => exact hs.gearOnly (s.giveGear_only _ _)
  | winch => exact s.giveWinch_recordHeld h (hr rfl)

theorem State.RecordHeld.createRecord {s : State} (hs : s.au.Shaped) (r : OpRecord) (h : operationRefusal s = none) :
    (s.createRecord r).RecordHeld := by
  obtain ⟨pit, _, radio⟩ := operationRefusal_none h
  refine ⟨fun _ => ⟨pit, ?_⟩, fun _ => by simp [State.createRecord], fun _ => rfl⟩
  exact hs.winch.2.2.resolve_right radio

theorem State.Move.recordHeld {s t : State} (h : s.Move t) (ha : s.au.Shaped) (hs : s.RecordHeld) : t.RecordHeld := by
  cases h with
  | quiet h => exact hs.congr (by rw [h.au]) (by rw [h.au]) h.record
  | reset _ ha hw => exact .of_none hw (by rw [ha]; simp [Authority.reset])
  | hunts => exact hs
  | holdMark => exact hs
  | failsafeMark => exact State.RecordHeld.reportLink (s := s.setRxl s.rxl.failsafeMark) hs _
  | frame bytes f _ => exact hs.takeFrame f
  | driveBoundary =>
    unfold State.driveBoundary
    split
    · exact hs
    · exact hs.driveOnly (s.giveDrive_only _ _)
  | steerBoundary =>
    unfold State.steerBoundary
    split
    · exact hs
    · exact hs.steerOnly (s.giveSteer_only _ _)
  | gearBoundary =>
    unfold State.gearBoundary
    split
    · exact hs
    · exact hs.gearOnly (s.giveGear_only _ _)
  | winchBoundary => exact hs.winchBoundary
  | winchTimer _ => exact State.RecordHeld.winchBoundary (s := s.setAu _) hs
  | driveDeadline => exact hs.driveOnly (s.giveDrive_only _ _)
  | steerDeadline => exact hs.steerOnly (s.giveSteer_only _ _)
  | reaffirmed r _ => cases r <;> exact hs
  | claimed r h =>
    refine hs.give r _ fun hr => hs.record_none (.inl ?_)
    subst hr
    exact (claimCase_taken h).2.1
  | released r _ hr => exact hs.give r _ hr
  | driveSet v _ _ => exact hs
  | steerSet v m _ _ => exact hs
  | gearSet g => exact hs
  | operationStarts r h => exact .createRecord ha r h
  | assistStarts r h _ => exact State.RecordHeld.congr (.createRecord ha r h) rfl rfl Iff.rfl
  | operationEnds o => exact hs.endOperation o
  | freespool h => exact .of_none h (by simp)
  | freespoolEnds h =>
    refine .of_none h ?_
    unfold Authority.endFreespool
    split
    · simp
    · exact fun hk => hs.2.mp hk h

/-- Settles O5: every step is a chain of moves, and each move keeps the record under an undisturbed PIT holder, given the
shape of the table. -/
theorem recordHeldKept : Obligations.RecordHeldKept := fun _ _ ha hs h =>
  (step_keeps (P := fun s => s.au.Shaped ∧ s.RecordHeld) (fun _ _ m hs => ⟨m.shaped hs.1, m.recordHeld hs.1 hs.2⟩) h
    ⟨ha, hs⟩).2

end Sys2Proof.Machine
end

section
/-! The receiver link's fields and the commands in range (R2, R150 to R156) under every move. -/

namespace Sys2Proof.Machine

/-! ### Normalization (R156) -/

theorem inRange_zero : inRange 0 := by unfold inRange; omega

theorem clampCommand_inRange (c : Int) : inRange (clampCommand c) := by
  unfold inRange clampCommand
  omega

/-- What lies beyond the dead band is scaled to at most 1000. -/
theorem deadBand_scaled_le {d n : Nat} (hn : n ≤ 1000) (hd : d < n) : (n - d) * 1000 / (1000 - d) ≤ 1000 := by
  refine Nat.div_le_of_le_mul ?_
  exact Nat.mul_le_mul_right 1000 (by omega)

theorem applyDeadBand_inRange (d : Nat) {c : Int} (hc : inRange c) : inRange (applyDeadBand d c) := by
  unfold inRange at hc
  unfold applyDeadBand
  split
  · exact inRange_zero
  next hd =>
    have scaled := deadBand_scaled_le (d := d) (n := c.natAbs) (by omega) (by omega)
    generalize (c.natAbs - d) * 1000 / (1000 - d) = q at scaled ⊢
    unfold inRange
    split <;> omega

theorem Binding.normalize_inRange (b : Binding) (raw : Nat) : inRange (b.normalize raw) :=
  applyDeadBand_inRange _ (clampCommand_inRange _)

/-! ### Commands and entries in range -/

/-- A published command is in range (R151). -/
def CommandOk (c : Option Int) : Prop := ∀ v, c = some v → inRange v

theorem commandOk_none : CommandOk none := by intro v h; cases h

theorem commandOk_normalize (b : Binding) (r : Option Nat) : CommandOk (r.map b.normalize) := by
  intro v h
  obtain ⟨raw, _, rfl⟩ := Option.map_eq_some_iff.mp h
  exact b.normalize_inRange raw

/-- The three analogue commands are in range. -/
def Commands.Ok (c : Commands) : Prop := CommandOk c.throttle ∧ CommandOk c.steer ∧ CommandOk c.winch

theorem formCommands_ok (x : RxlSettings) (slots : List (Option Nat)) (n : Nat) : (formCommands x slots n).Ok :=
  ⟨commandOk_normalize _ _, commandOk_normalize _ _, commandOk_normalize _ _⟩

theorem freeCommand_inRange (k : Nat) : inRange (Config.freeCommand k) := by
  have h : Config.freeBelow 2001 k < 2001 := Nat.mod_lt _ (by omega)
  unfold inRange Config.freeCommand
  omega

theorem radioCommand_inRange {c : Option Int} (h : CommandOk c) (k : Nat) : inRange (radioCommand c k) := by
  cases c with
  | none => exact freeCommand_inRange k
  | some v => exact h v rfl

theorem driveEntry_inRange (h : Holder) {v : Int} (hv : inRange v) : inRange (driveEntry h v).throttle := by
  unfold driveEntry
  split <;> first | exact hv | exact inRange_zero

theorem steerEntry_inRange (h : Holder) {old : SteerEntry} {v : Int} (m : SteerMode) (ho : inRange old.steer)
    (hv : inRange v) : inRange (steerEntry h old v m).steer := by
  unfold steerEntry
  split <;> first | exact hv | exact ho | exact inRange_zero

theorem winchEntry_inRange (h : Holder) {v : Int} (op : Bool) (hv : inRange v) : inRange (winchEntry h v op).speed := by
  unfold winchEntry
  split
  · exact hv
  · split <;> exact inRange_zero
  · exact inRange_zero
  · exact inRange_zero

/-! ### The commands of a state, field by field -/

theorem State.commandsInRange_iff (s : State) :
    s.CommandsInRange ↔ s.rxl.published.Ok ∧ inRange s.au.image.drive.throttle ∧ inRange s.au.image.steer.steer ∧
      inRange s.au.image.winch.speed := by
  unfold State.CommandsInRange Commands.Ok CommandOk
  rw [and_assoc, and_assoc]

theorem State.CommandsInRange.published {s : State} (h : s.CommandsInRange) : s.rxl.published.Ok :=
  (s.commandsInRange_iff.mp h).1
theorem State.CommandsInRange.drive {s : State} (h : s.CommandsInRange) : inRange s.au.image.drive.throttle :=
  (s.commandsInRange_iff.mp h).2.1
theorem State.CommandsInRange.steer {s : State} (h : s.CommandsInRange) : inRange s.au.image.steer.steer :=
  (s.commandsInRange_iff.mp h).2.2.1
theorem State.CommandsInRange.winch {s : State} (h : s.CommandsInRange) : inRange s.au.image.winch.speed :=
  (s.commandsInRange_iff.mp h).2.2.2

theorem State.CommandsInRange.driveOnly {s t : State} (hs : s.CommandsInRange) (only : s.DriveOnly t)
    (h : inRange t.au.image.drive.throttle) : t.CommandsInRange := by
  rw [State.commandsInRange_iff, only.rxl, only.imageSteer, only.imageWinch]
  exact ⟨hs.published, h, hs.steer, hs.winch⟩

theorem State.CommandsInRange.steerOnly {s t : State} (hs : s.CommandsInRange) (only : s.SteerOnly t)
    (h : inRange t.au.image.steer.steer) : t.CommandsInRange := by
  rw [State.commandsInRange_iff, only.rxl, only.imageDrive, only.imageWinch]
  exact ⟨hs.published, hs.drive, h, hs.winch⟩

theorem State.CommandsInRange.gearOnly {s t : State} (hs : s.CommandsInRange) (only : s.GearOnly t) :
    t.CommandsInRange := by
  rw [State.commandsInRange_iff, only.rxl, only.imageDrive, only.imageSteer, only.imageWinch]
  exact ⟨hs.published, hs.drive, hs.steer, hs.winch⟩

theorem State.CommandsInRange.endingOnly {s t : State} (hs : s.CommandsInRange) (only : s.EndingOnly t)
    (h : inRange t.au.image.winch.speed) : t.CommandsInRange := by
  rw [State.commandsInRange_iff, only.rxl, only.imageDrive, only.imageSteer]
  exact ⟨hs.published, hs.drive, hs.steer, h⟩

/-! ### Changes of holder and endings -/

theorem State.CommandsInRange.giveDrive {s : State} (hs : s.CommandsInRange) (h : Holder) (p : Option PendingHolder) :
    (s.giveDrive h p).CommandsInRange := by
  refine hs.driveOnly (s.giveDrive_only h p) ?_
  rw [s.giveDrive_au]
  exact driveEntry_inRange h (radioCommand_inRange hs.published.1 _)

theorem State.CommandsInRange.giveSteer {s : State} (hs : s.CommandsInRange) (h : Holder) (p : Option PendingHolder) :
    (s.giveSteer h p).CommandsInRange := by
  refine hs.steerOnly (s.giveSteer_only h p) ?_
  rw [s.giveSteer_au]
  exact steerEntry_inRange h _ hs.steer (radioCommand_inRange hs.published.2.1 _)

theorem State.CommandsInRange.giveWinch {s : State} (hs : s.CommandsInRange) (h : Holder) :
    (s.giveWinch h).CommandsInRange := by
  refine hs.endingOnly (s.giveWinch_only h) ?_
  rw [s.giveWinch_au]
  exact winchEntry_inRange h _ (radioCommand_inRange hs.published.2.2 _)

theorem State.CommandsInRange.give {s : State} (hs : s.CommandsInRange) (r : Row) (h : Holder) :
    (s.give r h).CommandsInRange := by
  cases r with
  | drive => exact hs.giveDrive h none
  | steer => exact hs.giveSteer h none
  | gear => exact hs.gearOnly (s.giveGear_only h none)
  | winch => exact hs.giveWinch h

theorem State.CommandsInRange.endOperation {s : State} (hs : s.CommandsInRange) (o : Option SenseKind) :
    (s.endOperation o).CommandsInRange := by
  refine hs.endingOnly (s.endOperation_only o) ?_
  rw [State.endOperation_imageWinch]
  split
  · exact inRange_zero
  · exact hs.winch

theorem State.CommandsInRange.radioTakesWinch {s : State} (hs : s.CommandsInRange) : s.radioTakesWinch.CommandsInRange := by
  refine hs.endingOnly s.radioTakesWinch_only ?_
  rw [State.radioTakesWinch_imageWinch]
  split
  · exact inRange_zero
  · exact hs.winch

theorem State.CommandsInRange.winchBoundary {s : State} (hs : s.CommandsInRange) : s.winchBoundary.CommandsInRange := by
  unfold State.winchBoundary
  split
  · exact hs
  · exact hs.giveWinch _

/-! ### The entries to LIVE and LOST and a published frame -/

theorem State.CommandsInRange.driveLive {s : State} (hs : s.CommandsInRange) : s.driveLive.CommandsInRange := by
  unfold State.driveLive
  repeat' split
  all_goals first | exact hs.giveDrive _ _ | exact hs

theorem State.CommandsInRange.steerLive {s : State} (hs : s.CommandsInRange) : s.steerLive.CommandsInRange := by
  unfold State.steerLive
  repeat' split
  all_goals first | exact hs.giveSteer _ _ | exact hs

theorem State.CommandsInRange.winchLive {s : State} (hs : s.CommandsInRange) : s.winchLive.CommandsInRange := by
  unfold State.winchLive
  repeat' split
  all_goals first | exact hs.giveWinch _ | exact hs.radioTakesWinch | exact hs

theorem State.CommandsInRange.enterLive {s : State} (hs : s.CommandsInRange) : s.enterLive.CommandsInRange :=
  (hs.driveLive.steerLive.gearOnly (State.gearLive_only _)).winchLive

theorem State.CommandsInRange.driveLost {s : State} (hs : s.CommandsInRange) : s.driveLost.CommandsInRange := by
  unfold State.driveLost
  repeat' split
  all_goals first | exact hs.giveDrive _ _ | exact hs

theorem State.CommandsInRange.steerLost {s : State} (hs : s.CommandsInRange) : s.steerLost.CommandsInRange := by
  unfold State.steerLost
  split
  · exact hs.giveSteer _ _
  · exact hs

theorem State.CommandsInRange.winchLost {s : State} (hs : s.CommandsInRange) : s.winchLost.CommandsInRange := by
  unfold State.winchLost
  repeat' split
  all_goals first | exact hs.giveWinch _ | exact hs

theorem State.CommandsInRange.enterLost {s : State} (hs : s.CommandsInRange) : s.enterLost.CommandsInRange :=
  (hs.driveLost.steerLost.gearOnly (State.gearLost_only _)).winchLost

theorem State.CommandsInRange.drivePublished {s : State} (hs : s.CommandsInRange) : s.drivePublished.CommandsInRange := by
  refine hs.driveOnly s.drivePublished_only ?_
  unfold State.drivePublished
  split
  · exact (hs.giveDrive _ _).drive
  next v _ hv => exact hs.published.1 v hv
  · split
    · exact (hs.giveDrive _ _).drive
    · exact hs.drive
  · split <;> exact hs.drive
  · exact hs.drive

theorem State.CommandsInRange.steerPublished {s : State} (hs : s.CommandsInRange) : s.steerPublished.CommandsInRange := by
  refine hs.steerOnly s.steerPublished_only ?_
  unfold State.steerPublished
  split
  · exact (hs.giveSteer _ _).steer
  next v _ hv => exact hs.published.2.1 v hv
  · split
    · exact (hs.giveSteer _ _).steer
    · exact hs.steer
  · exact hs.steer

theorem State.CommandsInRange.winchPublished {s : State} (hs : s.CommandsInRange) (before : Option Int) :
    (s.winchPublished before).CommandsInRange := by
  refine hs.endingOnly (s.winchPublished_only before) ?_
  unfold State.winchPublished
  split
  · exact (hs.giveWinch _).winch
  next v _ hv => exact hs.published.2.2 v hv
  · split
    · exact (hs.giveWinch _).winch
    · exact hs.winch
  · split
    · exact hs.radioTakesWinch.winch
    · exact hs.winch
  · exact hs.winch

theorem State.CommandsInRange.publish {s : State} (hs : s.CommandsInRange) (before : Option Int) :
    (s.publish before).CommandsInRange := by
  have rows := (hs.drivePublished.steerPublished.gearOnly (State.gearPublished_only _)).winchPublished before
  rw [State.commandsInRange_iff, s.publish_au, s.publish_rxl]
  exact ⟨hs.published, rows.drive, rows.steer, rows.winch⟩

theorem State.CommandsInRange.reportLink {s : State} (hs : s.CommandsInRange) (before : LinkState) :
    (s.reportLink before).CommandsInRange := by
  unfold State.reportLink
  split
  · exact hs
  split
  · exact hs.enterLive
  · exact hs.enterLost
  · exact hs

theorem Receiver.afterFrame_published_ok {b : Receiver} (hb : b.published.Ok) (w : RxlSettings) (f : ReceiverFrame) :
    (b.afterFrame w f).published.Ok := by
  show (if (b.move (b.classify f)).publish then formCommands w _ _ else b.published).Ok
  split
  · exact formCommands_ok _ _ _
  · exact hb

theorem State.CommandsInRange.takeFrame {s : State} (hs : s.CommandsInRange) (f : ReceiverFrame) :
    (s.takeFrame f).CommandsInRange := by
  have received : (s.setRxl (s.rxl.afterFrame s.w.rxl f)).CommandsInRange :=
    (State.commandsInRange_iff _).mpr ⟨Receiver.afterFrame_published_ok hs.published _ f, hs.drive, hs.steer, hs.winch⟩
  unfold State.takeFrame
  dsimp only
  split
  · exact (received.reportLink _).publish _
  · exact received.reportLink _

theorem Receiver.holdMark_published (b : Receiver) : b.holdMark.published = b.published := by
  unfold Receiver.holdMark; split <;> rfl

theorem Receiver.failsafeMark_published (b : Receiver) : b.failsafeMark.published = b.published := by
  unfold Receiver.failsafeMark
  repeat' split
  all_goals rfl

theorem State.Move.commandsInRange {s t : State} (h : s.Move t) (hs : s.CommandsInRange) : t.CommandsInRange := by
  cases h with
  | quiet h => rw [State.commandsInRange_iff, h.rxl, h.au]; exact s.commandsInRange_iff.mp hs
  | reset hr ha _ =>
    rw [State.commandsInRange_iff, hr, ha]
    exact ⟨⟨commandOk_none, commandOk_none, commandOk_none⟩, inRange_zero, inRange_zero, inRange_zero⟩
  | hunts => exact hs
  | holdMark =>
    rw [State.commandsInRange_iff]
    exact ⟨s.rxl.holdMark_published ▸ hs.published, hs.drive, hs.steer, hs.winch⟩
  | failsafeMark =>
    refine State.CommandsInRange.reportLink ((State.commandsInRange_iff _).mpr ?_) _
    exact ⟨s.rxl.failsafeMark_published ▸ hs.published, hs.drive, hs.steer, hs.winch⟩
  | frame bytes f _ => exact hs.takeFrame f
  | driveBoundary =>
    unfold State.driveBoundary
    split
    · exact hs
    · exact hs.giveDrive _ _
  | steerBoundary =>
    unfold State.steerBoundary
    split
    · exact hs
    · exact hs.giveSteer _ _
  | gearBoundary =>
    unfold State.gearBoundary
    split
    · exact hs
    · exact hs.gearOnly (s.giveGear_only _ _)
  | winchBoundary => exact hs.winchBoundary
  | winchTimer _ => exact State.CommandsInRange.winchBoundary (s := s.setAu _) hs
  | driveDeadline => exact hs.giveDrive _ _
  | steerDeadline => exact hs.giveSteer _ _
  | reaffirmed r _ => cases r <;> exact hs
  | claimed r _ => exact hs.give r _
  | released r _ _ => exact hs.give r _
  | driveSet v _ hv => exact hs.driveOnly (s.setDriveRow_only _ _) hv
  | steerSet v m _ hv => exact hs.steerOnly (s.setSteerRow_only _ _) hv
  | gearSet g => exact hs
  | operationStarts r _ =>
    rw [State.commandsInRange_iff]
    exact ⟨hs.published, hs.drive, hs.steer, inRange_zero⟩
  | assistStarts r _ _ =>
    rw [State.commandsInRange_iff]
    exact ⟨hs.published, hs.drive, hs.steer, inRange_zero⟩
  | operationEnds o => exact hs.endOperation o
  | freespool _ =>
    rw [State.commandsInRange_iff]
    exact ⟨hs.published, hs.drive, hs.steer, inRange_zero⟩
  | freespoolEnds _ =>
    unfold Authority.endFreespool
    split
    · rw [State.commandsInRange_iff]
      exact ⟨hs.published, hs.drive, hs.steer, inRange_zero⟩
    · exact hs

/-! ### The receiver link's own fields (R150 to R153) -/

theorem channelValues_length (l : List Byte) : (channelValues l).length = l.length / 2 := by
  induction l using channelValues.induct with
  | case1 lo hi rest ih => simp only [channelValues, List.length_cons, ih]; omega
  | case2 l h =>
    match l with
    | [] => rfl
    | [_] => simp [channelValues]
    | lo :: hi :: rest => exact absurd rfl (h lo hi rest)

/-- A complete frame carries 4 to 12 channels and a counter below 16 (R149). -/
theorem receiverFrameOf_bounds {bytes : List Byte} {f : ReceiverFrame} (h : receiverFrameOf bytes = some f) :
    4 ≤ f.values.length ∧ f.values.length ≤ 12 ∧ f.counter < 16 := by
  unfold receiverFrameOf at h
  split at h
  next len hdr rest =>
    split at h
    next ok =>
      cases h
      simp only [receiverLenOk, Bool.and_eq_true, decide_eq_true_eq] at ok
      simp only [channelValues_length, List.length_dropLast]
      have := Nat.mod_lt hdr.toNat (show 0 < 16 by omega)
      omega
    next => cases h
  · cases h

theorem fillSlots_length (values : List Nat) : (fillSlots values).length = 12 := by simp [fillSlots]

theorem fillSlots_le {values : List Nat} {v : Nat} (h : some v ∈ fillSlots values) : v ≤ 2000 := by
  simp only [fillSlots, List.mem_map, Option.map_eq_some_iff] at h
  obtain ⟨k, _, x, _, rfl⟩ := h
  exact min_le_left _ _

/-- The link state and the run after a frame agree, and ABSENT is left by a new frame alone (R153). -/
theorem Receiver.move_run {b : Receiver} (hrun : b.run ≤ 2) (hzero : b.link ≠ .recovering → b.run = 0) (c : FrameClass) :
    (b.move c).run ≤ 2 ∧ ((b.move c).link ≠ .recovering → (b.move c).run = 0) := by
  unfold Receiver.move
  cases hl : b.link <;> cases c <;> simp_all
  repeat' split
  all_goals simp_all

theorem Receiver.move_absent (b : Receiver) (c : FrameClass) :
    (b.move c).link = .absent ↔ b.link = .absent ∧ c ≠ .fresh := by
  unfold Receiver.move
  cases hl : b.link <;> cases c <;> simp
  repeat' split
  all_goals simp

theorem Receiver.gapAfter_ne_none {b : Receiver} (hgap : b.gap ≠ none ↔ b.link ≠ .absent) (c : FrameClass)
    (w : RxlSettings) : b.gapAfter c w ≠ none ↔ (b.move c).link ≠ .absent := by
  rw [ne_eq (b.move c).link, b.move_absent c, not_and_or, not_not]
  unfold Receiver.gapAfter
  cases c <;> simp [hgap] <;> split <;> simp_all

theorem Receiver.Linked.afterFrame {b : Receiver} (h : b.Linked) (w : RxlSettings) {bytes : List Byte}
    {f : ReceiverFrame} (hf : receiverFrameOf bytes = some f) : (b.afterFrame w f).Linked := by
  obtain ⟨length, slots, channels, counter, gap, run, zero⟩ := h
  obtain ⟨low, high, small⟩ := receiverFrameOf_bounds hf
  obtain ⟨run', zero'⟩ := b.move_run run zero (b.classify f)
  unfold Receiver.afterFrame
  refine ⟨?_, ?_, ?_, ?_, b.gapAfter_ne_none gap _ w, run', zero'⟩
  · dsimp only; split
    · exact fillSlots_length _
    · exact length
  · dsimp only; split
    · exact fun v hv => fillSlots_le hv
    · exact slots
  · dsimp only; split
    · exact .inr ⟨low, high⟩
    · exact channels
  · dsimp only; split
    · intro n hn; cases hn; exact small
    · exact counter

theorem Receiver.Linked.reset : Receiver.reset.Linked := by
  unfold Receiver.Linked Receiver.reset
  simp

theorem Receiver.Linked.holdMark {b : Receiver} (h : b.Linked) : b.holdMark.Linked := by
  obtain ⟨length, slots, channels, counter, gap, run, zero⟩ := h
  unfold Receiver.holdMark
  split
  · exact ⟨length, slots, channels, counter, gap, run, zero⟩
  next g hg =>
    refine ⟨length, slots, channels, counter, ?_, ?_, ?_⟩ <;> dsimp only
    · cases hl : b.link <;> simp_all
    · split <;> omega
    · cases hl : b.link <;> simp_all

theorem Receiver.Linked.failsafeMark {b : Receiver} (h : b.Linked) : b.failsafeMark.Linked := by
  obtain ⟨length, slots, channels, counter, gap, run, zero⟩ := h
  unfold Receiver.failsafeMark
  split
  · exact ⟨length, slots, channels, counter, gap, run, zero⟩
  split
  next hg _ => exact ⟨length, slots, channels, counter, by simp [hg], by simp, fun _ => rfl⟩
  · exact ⟨length, slots, channels, counter, gap, run, zero⟩

theorem State.takeFrame_rxl (s : State) (f : ReceiverFrame) : (s.takeFrame f).rxl = s.rxl.afterFrame s.w.rxl f := by
  unfold State.takeFrame
  dsimp only
  split
  · rw [State.publish_rxl, State.reportLink_rxl]; rfl
  · rw [State.reportLink_rxl]; rfl

@[simp] theorem State.give_rxl (s : State) (r : Row) (h : Holder) : (s.give r h).rxl = s.rxl := by
  cases r <;> simp [State.give]

theorem State.Move.linked {s t : State} (h : s.Move t) (hs : s.rxl.Linked) : t.rxl.Linked := by
  cases h with
  | quiet h => rw [h.rxl]; exact hs
  | reset hr _ _ => rw [hr]; exact Receiver.Linked.reset
  | hunts => exact hs
  | holdMark => exact hs.holdMark
  | failsafeMark => rw [State.reportLink_rxl]; exact hs.failsafeMark
  | frame bytes f hf => rw [State.takeFrame_rxl]; exact hs.afterFrame _ hf
  | driveBoundary => simpa using hs
  | steerBoundary => simpa using hs
  | gearBoundary => simpa using hs
  | winchBoundary => simpa using hs
  | winchTimer _ => simpa using hs
  | driveDeadline => simpa using hs
  | steerDeadline => simpa using hs
  | reaffirmed r _ => exact hs
  | claimed r _ => simpa using hs
  | released r _ _ => simpa using hs
  | driveSet v _ _ => exact hs
  | steerSet v m _ _ => exact hs
  | gearSet g => exact hs
  | operationStarts r _ => exact hs
  | assistStarts r _ _ => exact hs
  | operationEnds o => simpa using hs
  | freespool _ => exact hs
  | freespoolEnds _ => exact hs

/-- Settles O7: every step is a chain of moves, and each move keeps the link's fields and all commands in range. The
ranges hold for any settings, so their legality is not used. -/
theorem receiverLinkKept : Obligations.ReceiverLinkKept := fun _ _ hl hc _ h =>
  step_keeps (P := fun s => s.rxl.Linked ∧ s.CommandsInRange)
    (fun _ _ m hs => ⟨m.linked hs.1, m.commandsInRange hs.2⟩) h ⟨hl, hc⟩

end Sys2Proof.Machine
end

section
/-! The requests of the pit link: how an answer is reached and left, how parameters parse, and the requests on the rows of
the authority table (R4, R11 to R15, R73, R137). -/

namespace Sys2Proof.Machine

/-! ### From a block that reaches its own checks to its answer (R160) -/

/-- A request answered GOOD, whose effect leaves PLI and BSV as they were. -/
theorem State.Reaches.run_good {s t : State} {r : Request} (h : s.Reaches r) (he : r.exempt = false) {b : Block}
    {m : Bool → State → Answer} (hm : m (isLastBlock s.pli.currentBatch b) s = .good t []) (hp : t.pli = s.pli)
    (hb : t.bsv = s.bsv) : s.runRequest r b m = t.good b r := by
  obtain ⟨open_, stage, active, _, _⟩ := h.1
  rw [State.runRequest_reaches h he b m, hm]
  exact State.finish_good b open_.going hp (by rw [hb]; exact active) (by rw [hb]; exact stage)

/-- A request answered CHECK, which has no effect. -/
theorem State.Reaches.run_check {s : State} {r : Request} (h : s.Reaches r) (he : r.exempt = false) {b : Block}
    {m : Bool → State → Answer} {k : SenseKind} (hm : m (isLastBlock s.pli.currentBatch b) s = .check s k) :
    s.runRequest r b m = s.checked b r k := by
  obtain ⟨open_, stage, active, _, _⟩ := h.1
  rw [State.runRequest_reaches h he b m, hm]
  exact State.finish_check b k open_.going rfl active stage

/-- A request that owes its reply. -/
theorem State.Reaches.run_owes {s t : State} {r : Request} (h : s.Reaches r) (he : r.exempt = false) {b : Block}
    {m : Bool → State → Answer} (hm : m (isLastBlock s.pli.currentBatch b) s = .owes t) (hp : t.pli = s.pli)
    (hb : t.bsv = s.bsv) : s.runRequest r b m = t.owing r := by
  obtain ⟨_, stage, active, _, _⟩ := h.1
  rw [State.runRequest_reaches h he b m, hm]
  exact State.finish_owes b hp (by rw [hb]; exact active) (by rw [hb]; exact stage)

/-- The block that may create an operation passes the check of its place (R167). -/
theorem State.MayOperate.last {s : State} {b : Block} (h : s.MayOperate b) :
    lastUnlessImmediate b (isLastBlock s.pli.currentBatch b) = true := by
  rw [s.isLastBlock_eq]
  unfold State.MayOperate State.IsLast at h
  simp only [lastUnlessImmediate, isImmediate, Bool.or_eq_true, decide_eq_true_eq]
  exact h

/-! ### Parameters (R167) -/

theorem signed16_eq_signedOf (lo hi : Byte) : signed16 (ofLe16 lo hi) = signedOf lo hi := by
  unfold signed16 ofLe16 signedOf
  split <;> simp

theorem commandParam_eq {lo hi : Byte} (h : inRange (signedOf lo hi)) : commandParam [lo, hi] = some (signedOf lo hi) := by
  unfold commandParam
  simp only [signed16_eq_signedOf]
  exact if_pos h

theorem wordParam_eq {l u : Nat} {lo hi : Byte} (hl : l ≤ wordOf lo hi) (hu : wordOf lo hi ≤ u) :
    wordParam l u [lo, hi] = some (wordOf lo hi) := if_pos ⟨hl, hu⟩

theorem byteParam_eq {l u : Nat} {k : Byte} (hl : l ≤ k.toNat) (hu : k.toNat ≤ u) : byteParam l u [k] = some k.toNat :=
  if_pos ⟨hl, hu⟩

theorem rowParam_place (r : Row) : rowParam [BitVec.ofNat 8 r.place] = some r := by
  cases r <;> rfl

/-- A byte up to 2 names a gear. -/
theorem gearParam_eq {k : Byte} (h : k.toNat ≤ 2) :
    gearParam [k] = some (if k = 0 then .high else if k = 1 then .low else .dig) := by
  have cases_ : k = 0 ∨ k = 1 ∨ k = 2 := by bv_omega
  rcases cases_ with rfl | rfl | rfl <;> rfl

theorem fourParam_eq (k : Fin 4) : fourParam [BitVec.ofNat 8 k.val] = some k := by
  fin_cases k <;> rfl

/-- SET STEER without a mode, and with the byte of one. -/
theorem steerParam_none {lo hi : Byte} (h : inRange (signedOf lo hi)) :
    steerParam [lo, hi] = some (signedOf lo hi, none) := by
  simp [steerParam, commandParam_eq h]

theorem steerParam_some {lo hi k : Byte} {m : SteerMode} (h : inRange (signedOf lo hi))
    (hk : SteerMode.ofPlace k.toNat = some m) : steerParam [lo, hi, k] = some (signedOf lo hi, some m) := by
  simp [steerParam, commandParam_eq h, hk]

/-- The parameters of WINCH HAUL TO TENSION parse to what their bytes say. -/
theorem tensionParam_eq {lo hi tlo thi k : Byte} (h : GoodParams .winchHaulToTension [lo, hi, tlo, thi, k]) :
    tensionParam [lo, hi, tlo, thi, k] = some ⟨wordOf lo hi, wordOf tlo thi, k.toNat⟩ := by
  obtain ⟨_, _, _, _, _, hl, ⟨a1, a2⟩, ⟨b1, b2⟩, c1, c2⟩ := h
  simp only [List.cons.injEq, and_true] at hl
  obtain ⟨rfl, rfl, rfl, rfl, rfl⟩ := hl
  simp [tensionParam, wordParam_eq a1 a2, wordParam_eq b1 b2, byteParam_eq c1 c2]

/-! ### A row given to the pit, to the radio or to nobody -/

/-- A row that PIT does not hold, taken by a claim (R12); WINCH without a record. -/
theorem State.give_pit (s : State) (r : Row) (hp : (s.au.row r).holder ≠ .pit) (hr : r = .winch → s.wnc.record = none) :
    s.give r .pit = s.claimed r := by
  cases r with
  | drive =>
    have hd : disarms s.au.drive.holder .pit = true := decide_eq_true hp
    simp [State.give, State.giveDrive, hd]
    rfl
  | steer => rfl
  | gear => rfl
  | winch =>
    simp [State.give, State.giveWinch, hr rfl]
    rfl

/-- DRIVE goes to the radio from a holder whose leaving disarms (R88). -/
theorem State.giveDrive_radio (s : State) (h : s.rxl.published.throttle ≠ none)
    (hd : disarms s.au.drive.holder .radio = true) : s.giveDrive .radio none = s.toRadio .drive := by
  obtain ⟨v, hv⟩ := Option.ne_none_iff_exists'.mp h
  unfold State.giveDrive State.toRadio
  simp [hd, hv]
  rfl

theorem State.giveSteer_radio (s : State) (h : s.rxl.published.steer ≠ none) :
    s.giveSteer .radio none = s.toRadio .steer := by
  obtain ⟨v, hv⟩ := Option.ne_none_iff_exists'.mp h
  unfold State.giveSteer State.toRadio
  simp [hv]
  cases s.rxl.published.steerMode <;> rfl

theorem State.giveGear_radio (s : State) (h : s.rxl.published.gear ≠ none) :
    s.giveGear .radio none = s.toRadio .gear := by
  obtain ⟨v, hv⟩ := Option.ne_none_iff_exists'.mp h
  unfold State.giveGear State.toRadio
  simp [hv]
  fin_cases v <;> rfl

theorem State.giveWinch_radio (s : State) (h : s.rxl.published.winch ≠ none) :
    s.giveWinch .radio = s.toRadio .winch := by
  obtain ⟨v, hv⟩ := Option.ne_none_iff_exists'.mp h
  unfold State.giveWinch State.toRadio
  simp [hv]
  rfl

/-- A row goes to nobody: no command is drawn and nothing disarms (R2, R88). -/
theorem State.giveDrive_noParty (s : State) (p : Option PendingHolder) : s.giveDrive .noParty p = s.toNone .drive p := rfl
theorem State.giveSteer_noParty (s : State) (p : Option PendingHolder) : s.giveSteer .noParty p = s.toNone .steer p := rfl
theorem State.giveGear_noParty (s : State) (p : Option PendingHolder) : s.giveGear .noParty p = s.toNone .gear p := rfl
theorem State.giveWinch_noParty (s : State) : s.giveWinch .noParty = s.toNone .winch none := rfl

theorem State.give_noParty (s : State) (r : Row) : s.give r .noParty = s.toNone r none := by
  cases r <;> rfl

theorem Option.ne_none_of_isSome {α : Type} {o : Option α} (h : o.isSome = true) : o ≠ none := by
  intro hn; simp [hn] at h

/-- A PIT row whose binding is live goes to the radio (R15). -/
theorem State.give_radio (s : State) (r : Row) (hp : (s.au.row r).holder = .pit) (hl : s.rxl.published.live r = true) :
    s.give r .radio = s.toRadio r := by
  cases r with
  | drive => 
    have pit : s.au.drive.holder = .pit := hp
    exact s.giveDrive_radio (Option.ne_none_of_isSome hl) (by simp [disarms, pit])
  | steer => exact s.giveSteer_radio (Option.ne_none_of_isSome hl)
  | gear => exact s.giveGear_radio (Option.ne_none_of_isSome hl)
  | winch => exact s.giveWinch_radio (Option.ne_none_of_isSome hl)

@[simp] theorem State.give_pli (s : State) (r : Row) (h : Holder) : (s.give r h).pli = s.pli := by
  cases r <;> simp [State.give]
@[simp] theorem State.give_bsv (s : State) (r : Row) (h : Holder) : (s.give r h).bsv = s.bsv := by
  cases r <;> simp [State.give]

/-! ### CLAIM and RELEASE (R11, R12, R15) -/

theorem State.setAu_restartDeadline (s : State) (r : Row) : s.setAu (s.au.restartDeadline r) = s.reaffirmed r := by
  cases r <;> rfl

theorem State.reaffirmed_pli (s : State) (r : Row) : (s.reaffirmed r).pli = s.pli := by cases r <;> rfl
theorem State.reaffirmed_bsv (s : State) (r : Row) : (s.reaffirmed r).bsv = s.bsv := by cases r <;> rfl

/-- The link is LIVE or HOLD, as the model asks it of a claim. -/
theorem LinkState.heard_iff (l : LinkState) : l.heard = true ↔ l = .live ∨ l = .hold := by
  simp [LinkState.heard]

/-- The radio holds a row other than WINCH only under a heard link. -/
theorem State.RadioHeard.holder_ne {s : State} (h : s.RadioHeard) (hl : ¬(s.rxl.link = .live ∨ s.rxl.link = .hold))
    (r : Row) : (s.au.row r).holder ≠ .radio := by
  obtain ⟨drive, steer, gear, winch⟩ := h (not_or.mp hl)
  cases r with
  | drive => exact drive.1
  | steer => exact steer.1
  | gear => exact gear.1
  | winch => exact winch.1

/-- The model's reading of R11 is the chain of the statement, once the radio holds rows under a heard link only. -/
theorem claimCase_eq {s : State} (h : s.RadioHeard) (r : Row) :
    claimCase s.au s.rxl.link r =
      if (s.au.row r).pending = some .radio then .refused .radioActive
      else if (s.au.row r).holder = .pit then .reaffirmed
      else if (s.au.row r).holder = .auto .assist ∨ (s.au.row r).pending = some .assist then .refused .autoHeld
      else if (s.rxl.link = .live ∨ s.rxl.link = .hold) ∧ r ≠ .winch then .refused .radioActive
      else if (s.au.row r).holder = .radio ∧ s.au.image.winch.speed ≠ 0 then .refused .radioActive
      else .taken := by
  unfold claimCase
  simp only [LinkState.heard_iff]
  by_cases hl : s.rxl.link = .live ∨ s.rxl.link = .hold
  · by_cases hr : r = .winch <;> simp [hl, hr]
  · simp [h.holder_ne hl r]

/-- Settles O20: the answer follows the case of R11, and a claim that is taken finds no operation record. -/
theorem claimFollowsTable : Obligations.ClaimFollowsTable := by
  intro b r s hs hrec hradio hb
  have answer (l : Bool) : claimAnswer b l s =
      match claimCase s.au s.rxl.link r with
      | .refused k => .check s k
      | .reaffirmed => .good (s.reaffirmed r) []
      | .taken => .good (s.give r .pit) [] := by
    unfold claimAnswer
    rw [hb, rowParam_place, ← s.setAu_restartDeadline]
    rfl
  have refused (k : SenseKind) (hc : claimCase s.au s.rxl.link r = .refused k) :
      s.runRequest .claim b (claimAnswer b) = s.checked b .claim k :=
    hs.run_check rfl (by rw [answer, hc])
  have taken (hp : (s.au.row r).holder ≠ .pit) (hc : claimCase s.au s.rxl.link r = .taken) :
      s.runRequest .claim b (claimAnswer b) = (s.claimed r).good b .claim := by
    rw [hs.run_good rfl (by rw [answer, hc]) (by simp) (by simp), s.give_pit r hp]
    exact fun hr => hrec.record_none (.inl (by subst hr; exact hp))
  have chain := claimCase_eq hradio r
  refine congrArg Host.Outcome.next ?_
  split
  next h => exact refused _ (by rw [chain, if_pos h])
  next h1 =>
  rw [if_neg h1] at chain
  split
  next h =>
    rw [if_pos h] at chain
    exact hs.run_good rfl (by rw [answer, chain]) (s.reaffirmed_pli r) (s.reaffirmed_bsv r)
  next h2 =>
  rw [if_neg h2] at chain
  split
  next h => exact refused _ (by rw [chain, if_pos h])
  next h3 =>
  rw [if_neg h3] at chain
  split
  next h => exact refused _ (by rw [chain, if_pos h])
  next h4 =>
  rw [if_neg h4] at chain
  split
  next h => exact refused _ (by rw [chain, if_pos h])
  next h5 => exact taken h2 (by rw [chain, if_neg h5])

/-- Settles O21: the answer follows R15, and the released row goes where its binding says. -/
theorem releaseLeavesPit : Obligations.ReleaseLeavesPit := by
  intro b r s hs hb
  have answer (l : Bool) : releaseAnswer b l s =
      if (s.au.row r).holder ≠ .pit then .check s .notHolder
      else if r = .winch ∧ s.wnc.record.isSome then .check s .inMotion
      else .good (s.give r (s.releasedTo r)) [] := by
    unfold releaseAnswer
    rw [hb, rowParam_place]
    rfl
  refine congrArg Host.Outcome.next ?_
  split
  next h => exact hs.run_check rfl (by rw [answer, if_pos h])
  next hp =>
  split
  next h =>
    exact hs.run_check rfl (by rw [answer, if_neg hp, if_pos ⟨h.1, Option.isSome_iff_ne_none.mpr h.2⟩])
  next hr =>
  have released : s.runRequest .release b (releaseAnswer b) = (s.give r (s.releasedTo r)).good b .release :=
    hs.run_good rfl (by rw [answer, if_neg hp, if_neg fun h => hr ⟨h.1, Option.isSome_iff_ne_none.mp h.2⟩])
      (by simp) (by simp)
  rw [released]
  unfold State.releasedTo
  split
  next hl => rw [s.give_radio r (not_not.mp hp) hl.2]
  next hl => rw [s.give_noParty r]

/-! ### SET DRIVE, SET GEAR, SET SCENE and SET STEER (R4, R14, R73, R137) -/

/-- Settles O23: each parameter parses to its value, and the meaning is the assignment itself. -/
theorem driveGearSceneSet : Obligations.DriveGearSceneSet := by
  refine ⟨fun b lo hi s hs hp hb hv => ?_, fun b k s hs hp hb hk => ?_, fun b k s hs hb => ?_⟩
  · have answer (l : Bool) : setDriveAnswer b l s = .good (s.setAu (s.au.driveSet (signedOf lo hi))) [] := by
      simp [setDriveAnswer, withParam, hb, commandParam_eq hv, hp]
    exact congrArg Host.Outcome.next (hs.run_good rfl (answer _) rfl rfl)
  · have answer (l : Bool) : setGearAnswer b l s = .good (s.setAu { s.au with image := { s.au.image with
        gear := some (if k = 0 then .high else if k = 1 then .low else .dig) } }) [] := by
      simp [setGearAnswer, withParam, hb, gearParam_eq hk, hp]
    exact congrArg Host.Outcome.next (hs.run_good rfl (answer _) rfl rfl)
  · have answer (l : Bool) : setSceneAnswer b l s = .good (s.setLtc { s.ltc with scene := k }) [] := by
      simp [setSceneAnswer, withParam, hb, fourParam_eq k]
    exact congrArg Host.Outcome.next (hs.run_good rfl (answer _) rfl rfl)

/-- A mode is refused under the restraint exactly where the statement says (R73). -/
theorem modeRefused_iff (s : State) (mode : Option SteerMode) :
    modeRefused s mode = true ↔
      s.stc.restraint = true ∧ ∃ m, mode = some m ∧ m ≠ s.au.image.steer.mode ∧ m ≠ s.stc.active := by
  cases mode <;> simp [modeRefused, and_assoc]

/-- Settles O24. -/
theorem steerSetUnderRestraint : Obligations.SteerSetUnderRestraint := by
  intro b lo hi mode s hs hp hb hv
  have param : steerParam b.params = some (signedOf lo hi, mode) := by
    rw [hb]
    rcases mode with _ | (_ | _ | _ | _)
    · exact steerParam_none hv
    all_goals exact steerParam_some hv rfl
  have answer (l : Bool) : setSteerAnswer b l s =
      if modeRefused s mode then .check s .assistActive else .good (s.setAu (s.au.steerSet (signedOf lo hi) mode)) [] := by
    unfold setSteerAnswer
    rw [param]
    simp [withParam, hp]
  refine congrArg Host.Outcome.next ?_
  split
  next h => exact hs.run_check rfl (by rw [answer, if_pos ((modeRefused_iff s mode).mpr h)])
  next h => exact hs.run_good rfl (by rw [answer, if_neg fun hm => h ((modeRefused_iff s mode).mp hm)]; rfl) rfl rfl

end Sys2Proof.Machine
end

section
/-! The winch requests: NOT_HOLDER (R13), the operations taken (R116, R117), the assisted haul (R17), FREESPOOL, and the two
requests that end an operation (R128). -/

namespace Sys2Proof.Machine

/-! ### The operation requests (R117) -/

/-- A pit that does not hold WINCH has every operation refused (R13). -/
theorem operationRefusal_notHolder {s : State} (h : s.au.winch.holder ≠ .pit) : operationRefusal s = some .notHolder :=
  if_pos h

theorem operationRefusal_free {s : State} (h : s.OperationFree) : operationRefusal s = none := by
  obtain ⟨pit, record, pending, mode, cut, fault⟩ := h
  simp [operationRefusal, pit, record, pending, mode, cut, fault]

theorem startOperation_notHolder {s : State} (h : s.au.winch.holder ≠ .pit) (r : OpRecord) (x : Option SenseKind) :
    startOperation s r x = .check s .notHolder := by
  simp [startOperation, operationRefusal_notHolder h]

theorem startOperation_free {s : State} (h : s.OperationFree) (r : OpRecord) :
    startOperation s r none = operationTaken (s.createRecord r) r.immediate := by
  simp [startOperation, operationRefusal_free h]

/-- The record of the model is that of the statements. -/
theorem createRecord_new (s : State) (k : OpKind) (n tension settle : Nat) (b : Block) :
    s.createRecord (.new k n tension settle (isImmediate b)) = s.withRecord (newRecord k n tension settle b) := rfl

/-- An operation taken: GOOD under IMMEDIATE, else an owed reply (R162, R163). -/
theorem State.Reaches.run_operation {s t : State} {r : Request} (h : s.Reaches r) (he : r.exempt = false) {b : Block}
    {m : Bool → State → Answer} (hm : m (isLastBlock s.pli.currentBatch b) s = operationTaken t (isImmediate b))
    (hp : t.pli = s.pli) (hb : t.bsv = s.bsv) : s.runRequest r b m = t.operationAnswered b r := by
  unfold State.operationAnswered
  split
  next hi =>
    have hi : isImmediate b = true := hi
    exact h.run_good he (by rw [hm, hi]; rfl) hp hb
  next hi =>
    have hi : isImmediate b = false := Bool.eq_false_iff.mpr hi
    exact h.run_owes he (by rw [hm, hi]; rfl) hp hb

/-! ### NOT_HOLDER (R13) -/

/-- An operation request in its right place is refused where the pit does not hold WINCH. -/
theorem operation_notHolder {s : State} {b : Block} {r : Request} (hr : r ∈ operationRequests) (hw : s.WellPlaced r b)
    (hh : s.au.winch.holder ≠ .pit) (rec : OpRecord) (x : Option SenseKind) :
    whenLast s (lastUnlessImmediate b (isLastBlock s.pli.currentBatch b)) (startOperation s rec x) =
      .check s .notHolder := by
  rw [State.MayOperate.last (hw.2 hr), startOperation_notHolder hh]
  rfl

/-- Settles O22: each request's parameters parse, and its first check after that is the one of its row. -/
theorem pitCommandsNeedTheRow : Obligations.PitCommandsNeedTheRow := by
  intro r row b s hrow hs hp hw hh
  cases r with
  | setDrive =>
    obtain ⟨lo, hi, hb, hv⟩ := hp
    cases hrow
    have hh : s.au.drive.holder ≠ .pit := hh
    exact congrArg Host.Outcome.next (hs.run_check rfl (by simp [setDriveAnswer, withParam, hb, commandParam_eq hv, hh]))
  | setSteer =>
    cases hrow
    have hh : s.au.steer.holder ≠ .pit := hh
    have param : ∃ p, steerParam b.params = some p := by
      rcases hp with ⟨lo, hi, hb, hv⟩ | ⟨lo, hi, m, hb, hv, hm⟩ <;> rw [hb]
      · exact ⟨_, steerParam_none hv⟩
      · have modes : m = 0 ∨ m = 1 ∨ m = 2 ∨ m = 3 := by bv_omega
        rcases modes with rfl | rfl | rfl | rfl <;> exact ⟨_, steerParam_some hv rfl⟩
    obtain ⟨p, param⟩ := param
    exact congrArg Host.Outcome.next (hs.run_check rfl (by simp [setSteerAnswer, withParam, param, hh]))
  | setGear =>
    obtain ⟨k, hb, hk⟩ := hp
    cases hrow
    have hh : s.au.gear.holder ≠ .pit := hh
    exact congrArg Host.Outcome.next (hs.run_check rfl (by simp [setGearAnswer, withParam, hb, gearParam_eq hk, hh]))
  | winchPayOut =>
    obtain ⟨lo, hi, hb, hl, hu⟩ := hp
    cases hrow
    refine congrArg Host.Outcome.next (hs.run_check rfl ?_)
    rw [payOutAnswer, hb, wordParam_eq hl hu]
    exact operation_notHolder (by decide) hw hh _ _
  | winchHaulIn =>
    obtain ⟨lo, hi, hb, hl, hu⟩ := hp
    cases hrow
    refine congrArg Host.Outcome.next (hs.run_check rfl ?_)
    rw [haulInAnswer, hb, wordParam_eq hl hu]
    exact operation_notHolder (by decide) hw hh _ _
  | winchHaulToTension =>
    have good := hp
    obtain ⟨lo, hi, tlo, thi, k, hb, _⟩ := hp
    cases hrow
    refine congrArg Host.Outcome.next (hs.run_check rfl ?_)
    rw [hb] at good
    rw [haulToTensionAnswer, hb, tensionParam_eq good]
    exact operation_notHolder (by decide) hw hh _ _
  | winchHome =>
    have hb : b.params = [] := hp
    cases hrow
    refine congrArg Host.Outcome.next (hs.run_check rfl ?_)
    rw [homeAnswer, hb]
    exact operation_notHolder (by decide) hw hh _ _
  | winchAssistHaul =>
    obtain ⟨lo, hi, hb, hl, hu⟩ := hp
    cases hrow
    refine congrArg Host.Outcome.next (hs.run_check rfl ?_)
    rw [assistHaulAnswer, hb, wordParam_eq hl hu, State.MayOperate.last (hw.2 (by decide))]
    simp [withParam, whenLast, operationRefusal_notHolder hh]
  | winchFreespool =>
    have hb : b.params = [] := hp
    cases hrow
    have hh : s.au.winch.holder ≠ .pit := hh
    exact congrArg Host.Outcome.next (hs.run_check rfl (by simp [freespoolAnswer, withParam, hb, noParams, hh]))
  | _ => simp [Request.heldRow] at hrow

/-! ### Operations taken (R116, R117) -/

end Sys2Proof.Machine

namespace Sys2Proof

open Machine

/-- Settles O26: each operation's parameters parse, nothing of R117 refuses it, and its record is created. -/
theorem operationTaken : Obligations.OperationTaken := by
  refine ⟨fun b lo hi s hs hm hf hpos hb hl hu => ?_, fun b lo hi s hs hm hf hb hl hu => ?_,
    fun b lo hi tlo thi k s hs hm hf hb good => ?_, fun b s hs hm hf hb => ?_⟩
  all_goals refine congrArg Host.Outcome.next (hs.run_operation rfl ?_ rfl rfl)
  · rw [payOutAnswer, hb, wordParam_eq hl hu, hm.last, ← createRecord_new]
    obtain ⟨p, hp⟩ := Option.ne_none_iff_exists'.mp hpos
    simp only [hp]
    exact startOperation_free hf _
  · rw [haulInAnswer, hb, wordParam_eq hl hu, hm.last, ← createRecord_new]
    exact startOperation_free hf _
  · rw [hb] at good
    rw [haulToTensionAnswer, hb, tensionParam_eq good, hm.last, ← createRecord_new]
    exact startOperation_free hf _
  · rw [homeAnswer, hb, hm.last, ← createRecord_new]
    exact startOperation_free hf _

end Sys2Proof

namespace Sys2Proof.Machine

/-! ### The assisted haul (R17) -/

/-- The answer to an assisted haul that WNC does not refuse is AU's. -/
theorem assistHaulAnswer_free {b : Block} {lo hi : Byte} {s : State} (hm : s.MayOperate b) (hf : s.OperationFree)
    (hb : b.params = [lo, hi]) (hl : 1 ≤ wordOf lo hi) (hu : wordOf lo hi ≤ 20000) :
    assistHaulAnswer b (isLastBlock s.pli.currentBatch b) s =
      match assistRefusal s.au with
      | some k => .check s k
      | none => operationTaken (s.startAssist (.new .assistHaul (wordOf lo hi) 0 0 (isImmediate b))) (isImmediate b) := by
  rw [assistHaulAnswer, hb, wordParam_eq hl hu, hm.last, operationRefusal_free hf]
  cases assistRefusal s.au <;> rfl

/-- Settles O27: the DRIVE row decides, holder by holder. -/
theorem assistHaulDecided : Obligations.AssistHaulDecided := by
  intro b lo hi s hs hm hf hb hl hu
  have answer := assistHaulAnswer_free hm hf hb hl hu
  have refused (k : SenseKind) (h : assistRefusal s.au = some k) :
      exec (.winchAssistHaul b) s = .next (s.checked b .winchAssistHaul k) :=
    congrArg Host.Outcome.next (hs.run_check rfl (by rw [answer, h]))
  refine ⟨fun h => ?_, fun ⟨hr, ht⟩ => ?_, fun h => ?_, fun ⟨hn, hp⟩ => ?_, fun h => ?_⟩
  · have free : assistRefusal s.au = none := by
      rcases h with ⟨hr, ht⟩ | ⟨hn, hp⟩ <;> simp_all [assistRefusal]
    exact congrArg Host.Outcome.next (hs.run_operation rfl (by rw [answer, free]; rfl) rfl rfl)
  · exact refused _ (by simp [assistRefusal, hr, ht])
  · exact refused _ (by rcases h with h | h <;> simp [assistRefusal, h])
  · exact refused _ (by simp [assistRefusal, hn, hp])
  · exact refused _ (by simp [assistRefusal, h])

/-! ### ABORT and WINCH STOP (R128) -/

/-- ABORT reaches its execution in ACTIVE past everything that is owed to the console and past an owed reply (R160,
R162). -/
theorem State.runRequest_abort {s : State} (hg : s.Going) (hs : s.bsv.stage ≠ .ident) (hp : s.bsv.power = .active)
    (hf : s.Fits 0) (b : Block) (m : Bool → State → Answer) :
    s.runRequest .abort b m =
      finishBlock s.pli.currentBatch (isLastBlock s.pli.currentBatch b) Request.abort.code false
        (m (isLastBlock s.pli.currentBatch b) s) := by
  have hw : s.wake = s := by simp [State.wake, hp]
  have fits := State.Fits.not_lt (s := s) (r := .abort) hf
  unfold State.runRequest State.runBlock runNonExempt runForm
  simp [s.currentBatch_stopped hg, mayRunWhileOwed, Request.runsWhileOwed, isExempt, Request.exempt, hs, hp, hw, fits]

/-- The result placed by the model is that of the statements (R162, R163, R164). -/
theorem PitLink.operationEnded_eq (p : PitLink) (r : OpRecord) (o : Option SenseKind) :
    p.operationEnded r o = p.withResult r o := by
  have sense (k : SenseKind) : r.sense k = r.resultSense k := by
    unfold OpRecord.sense OpRecord.resultSense
    split <;> simp_all [OpRecord.residual]
  have code : r.kind.request.code = r.kind.code := by cases r.kind <;> rfl
  cases o with
  | none =>
    unfold PitLink.operationEnded PitLink.withResult PitLink.completeOwed
    cases r.immediate <;> cases p.owed <;> rfl
  | some k =>
    unfold PitLink.operationEnded PitLink.withResult PitLink.completeOwedCheck PitLink.completeOwed
    cases r.immediate
    · cases p.owed with
      | none => rfl
      | some w => simp only [sense]; rfl
    · simp only [sense, code]
      cases p.deferred <;> rfl

/-- What ABORT and WINCH STOP leave at their execution, but for the stop mark. -/
structure State.EndedByRequest (s : State) (r : OpRecord) (u : State) : Prop where
  au : u.au = s.au.recordRemoved r.kind s.throttleReady
  pli : u.pli = s.pli.withResult r (some .byRequest)
  stc : u.stc = s.stc.recordRemoved r.kind
  drc : u.drc = s.drc
  rxl : u.rxl = s.rxl
  pst : u.pst = s.pst
  bsv : u.bsv = s.bsv

theorem State.endOperation_byRequest {s : State} {r : OpRecord} (h : s.wnc.record = some r) :
    s.EndedByRequest r (s.endOperation (some .byRequest)) where
  au := State.endOperation_au _ h
  pli := by rw [State.endOperation_pli _ h, PitLink.operationEnded_eq]
  stc := State.endOperation_stc _ h
  drc := by simp
  rxl := by simp
  pst := by simp
  bsv := by simp

/-- A record stands under a PIT row, so its removal leaves the WINCH entry HOLD, which no stop ends again. -/
theorem Authority.recordRemoved_imageWinch {a : Authority} (h : a.winch.holder = .pit) (k : OpKind) (ready : Bool) :
    (a.recordRemoved k ready).image.winch = ⟨.hold, 0⟩ := by
  simp [Authority.recordRemoved_image, h]

theorem State.winchStop_byRequest {s : State} {r : OpRecord} (h : s.wnc.record = some r)
    (hp : s.au.winch.holder = .pit) : s.EndedByRequest r s.winchStop := by
  have ended := State.endOperation_byRequest h
  refine ⟨?_, ended.pli, ended.stc, ended.drc, ended.rxl, ended.pst, ended.bsv⟩
  show (s.endOperation (some .byRequest)).au.endFreespool = _
  rw [ended.au]
  unfold Authority.endFreespool
  rw [if_neg (by simp [Authority.recordRemoved_imageWinch hp])]

theorem Winch.ended_active (b : Winch) : b.ended .active = { b with
    record := none, requested := 0, present := 0, backOff := false, stallTime := 0, bridge := .brake } := rfl

theorem State.endOperation_wnc_byRequest {s : State} {r : OpRecord} (h : s.wnc.record = some r)
    (ha : s.bsv.power = .active) : (s.endOperation (some .byRequest)).wnc = { s.wnc with
      record := none, requested := 0, present := 0, backOff := false, stallTime := 0, bridge := .brake } := by
  rw [State.endOperation_wnc _ h, Winch.homed_of_outcome, ha, Winch.ended_active]

/-- The entry formed for a GOOD request: what it leaves of the state, and PLI. -/
theorem finishBlock_good_frame (bt : Batch) (l : Bool) (c : Byte) (u : State) :
    ∀ v, v = finishBlock bt l c false (.good u []) →
      v.wnc = u.wnc ∧ v.au = u.au ∧ v.stc = u.stc ∧ v.drc = u.drc ∧ v.rxl = u.rxl ∧ v.pst = u.pst ∧
        v.pli = u.pli.answerBlock bt l ⟨c, .good, []⟩ := by
  rintro v rfl
  simp [finishBlock, State.executed]

/-- A GOOD entry leaves what is owed, the sense, the deferred result and the attention list as they were. -/
theorem PitLink.answerBlock_kept (p : PitLink) (bt : Batch) (l : Bool) (e : ReplyEntry) :
    (p.answerBlock bt l e).owed = p.owed ∧ (p.answerBlock bt l e).sense = p.sense ∧
      (p.answerBlock bt l e).deferred = p.deferred ∧ (p.answerBlock bt l e).attention = p.attention := by
  unfold PitLink.answerBlock
  split <;> exact ⟨rfl, rfl, rfl, rfl⟩

/-- Where the entry of a GOOD request goes: the ready replies with the last block of its batch, else the batch (R161). -/
theorem State.answerBlock_good {s : State} (hg : s.Going) (p : PitLink) (b : Block) (c : Byte) :
    (s.IsLast b →
      (p.answerBlock s.pli.currentBatch (isLastBlock s.pli.currentBatch b) ⟨c, .good, []⟩).batch = none ∧
      (p.answerBlock s.pli.currentBatch (isLastBlock s.pli.currentBatch b) ⟨c, .good, []⟩).ready =
        p.ready ++ [⟨s.formed ++ [⟨c, .good, []⟩], false⟩]) ∧
    (¬s.IsLast b →
      (p.answerBlock s.pli.currentBatch (isLastBlock s.pli.currentBatch b) ⟨c, .good, []⟩).ready = p.ready ∧
      ∃ bt, (p.answerBlock s.pli.currentBatch (isLastBlock s.pli.currentBatch b) ⟨c, .good, []⟩).batch = some bt ∧
        bt.entries = s.formed ++ [⟨c, .good, []⟩] ∧ bt.stopped = false) := by
  rw [s.isLastBlock_eq]
  unfold State.IsLast PitLink.answerBlock
  refine ⟨fun h => ?_, fun h => ?_⟩
  · simp [h, s.currentBatch_entries]
  · simp [h, s.currentBatch_entries, s.currentBatch_stopped hg]

/-- The place of a request that ends an operation and what its execution leaves. -/
theorem endingRequest_run {req : Request} {b : Block} {r : OpRecord} {s : State}
    (h : req = .abort ∧ s.Going ∧ s.bsv.stage ≠ .ident ∧ s.bsv.power = .active ∧ s.Fits 0 ∨
      req = .winchStop ∧ s.Reaches .winchStop) (hrec : s.RecordHeld) (hb : b.params = []) (hr : s.wnc.record = some r) :
    s.Going ∧ ∃ u, s.EndedByRequest r u ∧ u.wnc = { s.wnc with
        record := none, requested := 0, present := 0, backOff := false, stallTime := 0, bridge := .brake
        stopMark := if req = .winchStop then true else s.wnc.stopMark } ∧
      exec (req.command b) s =
        .next (finishBlock s.pli.currentBatch (isLastBlock s.pli.currentBatch b) req.code false (.good u [])) := by
  rcases h with ⟨rfl, hg, hs, hp, hf⟩ | ⟨rfl, hs⟩
  · refine ⟨hg, _, State.endOperation_byRequest hr, State.endOperation_wnc_byRequest hr hp, ?_⟩
    refine congrArg Host.Outcome.next ?_
    rw [State.runRequest_abort hg hs hp hf, abortAnswer, hb]
    rfl
  · have pit := (hrec.1 (by simp [hr])).1
    refine ⟨hs.1.1.going, _, State.winchStop_byRequest hr pit, ?_, ?_⟩
    · show { (s.endOperation (some .byRequest)).wnc with stopMark := true } = _
      rw [State.endOperation_wnc_byRequest hr hs.1.2.2.1]
      rfl
    · refine congrArg Host.Outcome.next ?_
      rw [State.runRequest_reaches hs rfl, winchStopAnswer, hb]
      rfl

/-- The DRIVE row at the end of an assisted haul is that of the statements (R18). -/
theorem AuthRow.assistOver_eq (r : AuthRow) (ready : Bool) : r.assistOver ready = r.afterAssist ready := by
  obtain ⟨holder, pending, deadline⟩ := r
  unfold AuthRow.assistOver AuthRow.afterAssist
  by_cases ha : holder = .auto .assist
  · cases pending <;> simp [ha]
  · by_cases hp : pending = some .assist <;> simp [ha, hp]

/-- Settles O29: the execution leaves what an ending by request leaves, and the entry is formed behind the result. -/
theorem abortEndsOperation : Obligations.AbortEndsOperation := by
  intro req b r s hreq hrec hb hr
  obtain ⟨hg, u, ended, wnc, run⟩ := endingRequest_run hreq hrec hb hr
  have pit := (hrec.1 (by simp [hr])).1
  obtain ⟨fwnc, fau, fstc, fdrc, frxl, fpst, fpli⟩ := finishBlock_good_frame _ _ _ _ _ rfl
  obtain ⟨howed, hsense, hdeferred, hattention⟩ := PitLink.answerBlock_kept u.pli s.pli.currentBatch
    (isLastBlock s.pli.currentBatch b) ⟨req.code, .good, []⟩
  obtain ⟨hlast, hmore⟩ := s.answerBlock_good hg u.pli b req.code
  refine ⟨_, run, fwnc.trans wnc, ?_, ?_, ?_, fdrc.trans ended.drc, frxl.trans ended.rxl, fpst.trans ended.pst, ?_, ?_, ?_,
    ?_, ?_⟩
  · simp [fau, ended.au]
  · rw [fau, ended.au, Authority.recordRemoved_imageWinch pit]
  · simp [fau, ended.au, Authority.recordRemoved_image]
  · intro hk
    rw [fau, ended.au, fstc, ended.stc, Authority.recordRemoved_drive]
    simp [hk, Steering.recordRemoved]
  · intro hk
    rw [fau, ended.au, fstc, ended.stc, Authority.recordRemoved_drive, AuthRow.assistOver_eq]
    simp [hk, Steering.recordRemoved, State.throttleReady]
  · rintro p rfl
    rw [fpli, ← ended.pli]
    exact ⟨howed, hsense, hdeferred, hattention, hlast, hmore⟩
  · intro o hi ho hk
    have result : u.pli.sense = r.resultSense .byRequest ∧ u.pli.ready = s.pli.ready ++
        [⟨o.entries ++ [⟨o.code, .check, (r.resultSense .byRequest).toBytes ++ r.resultBytes⟩], true⟩] := by
      rw [ended.pli]
      unfold PitLink.withResult
      rw [hi, ho]
      exact ⟨rfl, rfl⟩
    have sense : r.resultSense .byRequest = ⟨.byRequest, true, false, false, r.target - r.moved⟩ := if_neg hk
    rw [fpli, hsense, result.1, sense]
    refine ⟨rfl, ?_⟩
    rw [sense] at result
    by_cases l : s.IsLast b
    · exact ⟨_, by rw [(hlast l).2, result.2, List.append_assoc]; rfl⟩
    · exact ⟨[], by rw [(hmore l).1, result.2]; rfl⟩
  · intro hi hd hk
    rw [fpli, hdeferred, ended.pli]
    unfold PitLink.withResult
    simp [hi, hd, hk, OpRecord.resultSense, OpKind.code]

/-- Settles O28. -/
theorem freespoolAndStopDecided : Obligations.FreespoolAndStopDecided := by
  refine ⟨fun b s hs hp hb => ?_, fun b s hb => ⟨fun hg hst ha hf hr => ?_, fun hs hr => ?_, fun hs hrec hr => ?_⟩⟩
  · have answer (l : Bool) : freespoolAnswer b l s =
        if s.wnc.record ≠ none then .check s .inMotion
        else if s.wnc.mode = .jammed then .check s .winchJammedState
        else .good (s.setAu { s.au with image := { s.au.image with winch := ⟨.freespool, 0⟩ } }) [] := by
      simp [freespoolAnswer, hb, noParams, withParam, hp, Option.isSome_iff_ne_none]
    refine congrArg Host.Outcome.next ?_
    split
    next h => exact hs.run_check rfl (by rw [answer, if_pos h])
    next h =>
    split
    next hj => exact hs.run_check rfl (by rw [answer, if_neg h, if_pos hj])
    next hj => exact hs.run_good (t := s.setAu _) rfl (by rw [answer, if_neg h, if_neg hj]) rfl rfl
  · refine congrArg Host.Outcome.next ?_
    rw [State.runRequest_abort hg hst ha hf, abortAnswer, hb]
    show finishBlock _ _ _ _ (.good (s.endOperation (some .byRequest)) []) = _
    rw [s.endOperation_none _ hr]
    exact State.finish_good b hg rfl ha hst
  · have stop : s.winchStop = { s with
        wnc := { s.wnc with stopMark := true }
        au := { s.au with image := { s.au.image with
          winch := if s.au.image.winch.kind = .freespool then ⟨.hold, 0⟩ else s.au.image.winch } } } := by
      unfold State.winchStop Authority.endFreespool
      rw [s.endOperation_none _ hr]
      dsimp only
      split <;> rfl
    have answer (l : Bool) : winchStopAnswer b l s = .good s.winchStop [] := by
      rw [winchStopAnswer, hb]
      rfl
    exact congrArg Host.Outcome.next (hs.run_good rfl (by rw [answer, stop]) rfl rfl)
  · obtain ⟨r, hr⟩ := Option.ne_none_iff_exists'.mp hr
    obtain ⟨t, run, wnc, winch, image, _⟩ := abortEndsOperation .winchStop b r s (.inr ⟨rfl, hs⟩) hrec hb hr
    exact ⟨t, run, by rw [wnc], by rw [wnc]; rfl, by rw [wnc], by rw [wnc], winch, image⟩

end Sys2Proof.Machine
end

section
/-! The resets (R47 and the reset tables), the invariants right after reset, the entry to LOST as a whole (R10), and the
expiries that act at once. -/

namespace Sys2Proof.Machine

/-! ### Right after reset -/

theorem State.reset_legal : State.reset.pst.Legal := by
  have defaults : (StoredProfile.valid .defaults).Legal := by
    intro v hv
    cases hv
    decide
  refine ⟨by decide, defaults, defaults, defaults, defaults, ?_⟩
  intro k v h
  cases h

/-- Settles O2: State.reset holds the reset values, at which each property is met. -/
theorem resetMeetsInvariants : Obligations.ResetMeetsInvariants := by
  obtain ⟨heardPit, radioHeard⟩ := State.reset.held_iff.mp (State.Held.reset rfl rfl)
  refine ⟨Authority.Shaped.reset, heardPit, radioHeard, .of_none rfl (by decide), ?_, Receiver.Linked.reset, ?_,
    State.reset_legal, ?_, ?_, ?_, ?_, ?_⟩
  · simp [Battery.Powered, State.reset, Battery.reset]
  · exact (State.commandsInRange_iff _).mpr
      ⟨⟨commandOk_none, commandOk_none, commandOk_none⟩, inRange_zero, inRange_zero, inRange_zero⟩
  · intro h
    cases h
  · exact List.nodup_singleton _
  · refine ⟨fun o h => ?_, fun bt h => ?_⟩ <;> cases h
  · simp [Drive.Dutied, State.reset, Drive.reset]
  · intro p h
    cases h

/-! ### Power-on and brownout (R47, R107, R165, R169) -/

/-- The position taken from a pack record is that of a valid one, within the capacity (R107). -/
theorem StoredPack.position_eq_some (k : StoredPack) (capacity p : Nat) :
    k.position capacity = some p ↔ p ≤ capacity ∧ ∃ r, k = .valid r ∧ r.position = some p := by
  unfold StoredPack.position
  cases k with
  | valid r =>
    cases hr : r.position with
    | none => simp [hr]
    | some n =>
      by_cases hn : capacity < n
      · simp [hr, hn]
        omega
      · simp [hr, hn]
        omega
  | absent => simp
  | invalid => simp

theorem Four.get_map {α β : Type} (f : α → β) (t : Four α) (k : Fin 4) : (t.map f).get k = f (t.get k) := by
  fin_cases k <;> rfl

/-- A slot is marked at power-on exactly when it does not match its CRC (R169). -/
theorem Store.powerOn_marks (p : Store) (k : Fin 4) :
    p.powerOn.marks.get k = true ↔ ∃ crc, p.slots.get k = .invalid crc := by
  show (p.slots.map _).get k = true ↔ _
  rw [Four.get_map]
  cases p.slots.get k <;> simp [StoredProfile.isValid]

theorem Four.any_id (t : Four Bool) : t.toList.any id = true ↔ ∃ k, t.get k = true := by
  constructor
  · intro h
    simp only [Four.toList, List.any_cons, List.any_nil, id, Bool.or_false, Bool.or_eq_true] at h
    rcases h with h | h | h | h
    exacts [⟨0, h⟩, ⟨1, h⟩, ⟨2, h⟩, ⟨3, h⟩]
  · rintro ⟨k, hk⟩
    fin_cases k <;> simp_all [Four.toList, Four.get]

/-- DEFAULTS_LOADED stands behind RESET_OCCURRED exactly when a slot is marked (R165, R169). -/
theorem Store.startAttention_eq (p : Store) :
    ((∃ k, p.marks.get k = true) → p.startAttention = [.resetOccurred, .defaultsLoaded]) ∧
      ((∀ k, p.marks.get k = false) → p.startAttention = [.resetOccurred]) := by
  unfold Store.startAttention
  refine ⟨fun h => if_pos ((Four.any_id _).mpr h), fun h => if_neg fun ha => ?_⟩
  obtain ⟨k, hk⟩ := (Four.any_id _).mp ha
  simp [h k] at hk

/-- The working copy is that of the active slot, or the defaults where that does not match its CRC (R169). -/
theorem Store.powerOn_working (p : Store) :
    (∀ v, p.slots.get p.powerOn.active = .valid v → p.powerOn.working = v) ∧
      ((∀ v, p.slots.get p.powerOn.active ≠ .valid v) → p.powerOn.working = .defaults) := by
  have loaded : p.powerOn.working = match p.slots.get p.powerOn.active with
      | .valid v => v
      | .invalid _ => .defaults := rfl
  rw [loaded]
  refine ⟨fun v h => by rw [h], fun h => ?_⟩
  cases hs : p.slots.get p.powerOn.active with
  | valid v => exact absurd hs (h v)
  | invalid _ => rfl

theorem Store.powerOn_active (p : Store) :
    (∀ r, p.pack = .valid r → p.powerOn.active = r.active) ∧ ((∀ r, p.pack ≠ .valid r) → p.powerOn.active = 0) := by
  have index : p.powerOn.active = p.pack.active := rfl
  rw [index]
  refine ⟨fun r h => by rw [h]; rfl, fun h => ?_⟩
  cases hp : p.pack with
  | valid r => exact absurd hp (h r)
  | absent => rfl
  | invalid => rfl

/-- The consumers and the budget after a power-on stand at their reset values. -/
theorem State.powerOn_blocksReset (s : State) (cause : ResetCause) : (s.powerOn cause).BlocksReset := by
  have cleared (n : Nat) : (BudgetRow.reset n).Cleared n := ⟨rfl, rfl, rfl, rfl, rfl, rfl⟩
  refine ⟨⟨cleared 1, cleared 2, cleared 3, cleared 4, rfl, rfl, rfl, rfl, rfl⟩, rfl, rfl, ?_, ?_, ?_, ?_⟩
  · exact ⟨rfl, rfl, rfl, rfl, rfl, rfl, rfl, rfl, rfl, rfl, rfl, rfl, rfl, rfl⟩
  · exact ⟨rfl, rfl, rfl, rfl, rfl, rfl, rfl, rfl, rfl, rfl, rfl, rfl, rfl, rfl, rfl, rfl, rfl, rfl, rfl, rfl⟩
  · exact ⟨rfl, rfl, rfl, rfl, rfl, rfl, rfl, rfl, rfl, rfl, rfl, rfl, rfl⟩
  · exact ⟨rfl, rfl, rfl, rfl, rfl, rfl, rfl, rfl, rfl, rfl, rfl, rfl⟩

/-- Settles O38: the reset tables are the values of `State.powerOn`, and the store's check is read off slot by slot. -/
theorem powerOnSetsEveryBlock : Obligations.PowerOnSetsEveryBlock := by
  intro c cause s hc
  have run : exec c s = .next (s.powerOn cause) := by
    rcases hc with ⟨rfl, rfl⟩ | ⟨rfl, rfl⟩ <;> rfl
  obtain ⟨active, inactive⟩ := s.pst.powerOn_active
  obtain ⟨working, defaults⟩ := s.pst.powerOn_working
  obtain ⟨marked, unmarked⟩ := s.pst.powerOn.startAttention_eq
  refine ⟨_, run, rfl, rfl, s.powerOn_blocksReset cause, ?_, ?_, ?_, ?_⟩
  · exact ⟨rfl, rfl, rfl, rfl, rfl, rfl, rfl, rfl, rfl, rfl, rfl, rfl, rfl, rfl, rfl, rfl, rfl, rfl, rfl, rfl, rfl, rfl,
      rfl, rfl, rfl, rfl⟩
  · exact ⟨rfl, rfl, rfl, rfl, rfl, fun p => StoredPack.position_eq_some _ _ p⟩
  · exact ⟨rfl, rfl, rfl, rfl, rfl, s.pst.powerOn_marks, active, inactive, working, defaults⟩
  · exact ⟨rfl, rfl, rfl, rfl, rfl, rfl, marked, unmarked⟩

/-! ### The entry to LOST (R10) -/

theorem AuthRow.clearRadio_eq_lost {r : AuthRow} (h : r.holder ≠ .radio) : r.clearRadio = r.lost := by
  unfold AuthRow.clearRadio AuthRow.lost
  rw [if_neg h]

theorem AuthRow.lost_of_radio {r : AuthRow} (h : r.holder = .radio) : r.lost = ⟨.auto .failsafe, none, false⟩ :=
  if_pos h

/-- WNC holds an assisted haul, as the model asks and as the statements ask. -/
theorem Winch.assisting_iff (b : Winch) : b.assisting = true ↔ b.record.map OpRecord.kind = some .assistHaul := by
  unfold Winch.assisting
  cases b.record <;> simp

theorem State.steerLost_eq (s : State) : s.steerLost = s.setAu { s.au with
    steer := s.au.steer.lost
    image := { s.au.image with
      steer := if s.au.steer.holder = .radio then { s.au.image.steer with hold := true } else s.au.image.steer } } := by
  unfold State.steerLost
  split
  next h => rw [AuthRow.lost_of_radio h]; rfl
  next h => rw [AuthRow.clearRadio_eq_lost h]

theorem State.gearLost_eq (s : State) : s.gearLost = s.setAu { s.au with
    gear := s.au.gear.lost
    image := { s.au.image with gear := if s.au.gear.holder = .radio then none else s.au.image.gear } } := by
  unfold State.gearLost
  split
  next h => rw [AuthRow.lost_of_radio h]; rfl
  next h => rw [AuthRow.clearRadio_eq_lost h]

theorem State.winchLost_eq (s : State) : s.winchLost = s.setAu { s.au with
    winch := s.au.winch.lost
    winchTimer := s.au.winchTimer && s.au.winch.holder ≠ .radio && s.au.winch.pending ≠ some .radio
    image := { s.au.image with winch := if s.au.winch.holder = .radio then ⟨.hold, 0⟩ else s.au.image.winch } } := by
  unfold State.winchLost
  by_cases h : s.au.winch.holder = .radio
  · rw [if_pos h, AuthRow.lost_of_radio h]
    simp [h]
    rfl
  · rw [if_neg h]
    by_cases hp : s.au.winch.pending = some .radio
    · simp [AuthRow.lost, h, hp]
    · simp [AuthRow.lost, h, hp]
      rfl

theorem State.driveLost_eq (s : State) : s.driveLost = s.setAu { s.au with
    drive := s.lostRows.drive
    image := { s.au.image with
      drive := if s.au.drive.holder = .radio then ⟨.fullBrake, 0⟩ else s.au.image.drive } } := by
  have assisting := s.wnc.assisting_iff
  unfold State.driveLost State.lostRows
  split
  next h =>
    simp only [h, AuthRow.lost_of_radio h, reduceCtorEq, false_and, if_false, if_true]
    rfl
  next h =>
    have hr : s.au.drive.holder ≠ .radio := by simp [h]
    rw [AuthRow.clearRadio_eq_lost hr]
    by_cases hp : s.au.drive.pending = some .radio ∧ (!s.wnc.assisting) = true
    · have hk : ¬s.wnc.record.map OpRecord.kind = some .assistHaul := by
        rw [← assisting]
        simpa using hp.2
      simp [h, hp.1, hk, hp]
    · have hk : ¬(s.au.drive.pending = some .radio ∧ ¬s.wnc.record.map OpRecord.kind = some .assistHaul) := by
        rw [← assisting]
        simpa using hp
      simp only [h, hp, hk, if_false, true_and, ne_eq, reduceCtorEq]
  next hr ha =>
    rw [AuthRow.clearRadio_eq_lost hr]
    have ha : s.au.drive.holder ≠ .auto .assist := ha
    have hr : s.au.drive.holder ≠ .radio := hr
    simp [ha, hr]

/-- The entry to LOST changes the authority table and nothing else (R10). -/
theorem State.enterLost_eq (s : State) : s.enterLost = { s with au := s.lostRows } := by
  unfold State.enterLost
  rw [State.winchLost_eq, State.gearLost_eq, State.steerLost_eq, State.driveLost_eq]
  rfl

/-! ### The expiries that act at once -/

/-- The winch boundary with the radio pending and its binding live (R7). -/
theorem State.winchBoundary_radio {s : State} (hp : s.au.winch.pending = some .radio)
    (hl : s.rxl.published.winch ≠ none) : s.winchBoundary = s.toRadio .winch := by
  unfold State.winchBoundary
  rw [hp]
  exact s.giveWinch_radio hl

/-- AU hears of no change where the link state is the same, and of the entries to LIVE and LOST (R153). -/
theorem State.reportLink_same {s : State} {before : LinkState} (h : s.rxl.link = before) : s.reportLink before = s :=
  if_pos h

theorem State.reportLink_lost {s : State} {before : LinkState} (h : s.rxl.link = .lost) (hb : before ≠ .lost) :
    s.reportLink before = s.enterLost := by
  unfold State.reportLink
  rw [if_neg (by rw [h]; exact hb.symm), h]

theorem State.reportLink_live {s : State} {before : LinkState} (h : s.rxl.link = .live) (hb : before ≠ .live) :
    s.reportLink before = s.enterLive := by
  unfold State.reportLink
  rw [if_neg (by rw [h]; exact hb.symm), h]

theorem Receiver.failsafeMark_eq {b : Receiver} (h : b.gap ≠ none) :
    b.failsafeMark = if b.link = .hold ∨ b.link = .recovering then { b with link := .lost, run := 0 } else b := by
  unfold Receiver.failsafeMark
  split
  next hg => exact absurd hg h
  · rfl

/-- The failsafe mark, once the gap timer runs (R10, R152). -/
theorem State.failsafeMark_eq {s : State} (h : s.rxl.gap ≠ none) :
    (s.setRxl s.rxl.failsafeMark).reportLink s.rxl.link =
      if s.rxl.link = .hold ∨ s.rxl.link = .recovering then
        { s with rxl := { s.rxl with link := .lost, run := 0 }, au := s.lostRows }
      else s := by
  rw [Receiver.failsafeMark_eq h]
  split
  next hl =>
    rw [State.reportLink_lost rfl (by rcases hl with hl | hl <;> simp [hl]), State.enterLost_eq]
    rfl
  next hl => exact State.reportLink_same rfl

/-- Settles O48. -/
theorem timersExpire : Obligations.TimersExpire := by
  intro s
  refine ⟨fun h => ?_, fun h => ?_, fun h => ?_, rfl, fun h => ?_, fun h hr => ?_, fun r h hr => ?_, fun h => ?_,
    fun h hp hl => ?_, fun h => ?_, fun h => ?_, fun h => ?_, fun h => ?_, fun h => ⟨?_, ?_⟩, fun g hg => ⟨?_, ?_⟩⟩
  · simp [exec, execParkIdleTimerExpiry, h]
  · simp [exec, execGateTimerExpiry, h]
  · simp [exec, execGateTimerExpiry, h]
    rfl
  · simp [exec, execBackOffTimerExpiry, h]
  · simp [exec, execBackOffTimerExpiry, h, Winch.backOffOver, hr]
    rfl
  · simp [exec, execBackOffTimerExpiry, h, Winch.backOffOver, hr]
    rfl
  · simp [exec, execWinchBoundaryTimerExpiry, h]
  · simp only [exec, execWinchBoundaryTimerExpiry, h, if_true]
    exact congrArg Host.Outcome.next (State.winchBoundary_radio (s := s.setAu { s.au with winchTimer := false }) hp hl)
  · simp [exec, execPitHoldDeadlineExpiry, h]
  · simp only [exec, execPitHoldDeadlineExpiry, h, if_true]
    rfl
  · simp [exec, execPitHoldDeadlineExpiry, h]
  · simp only [exec, execPitHoldDeadlineExpiry, h, if_true]
    rfl
  · simp only [exec, execHoldMarkExpiry, Receiver.holdMark, h]
    rfl
  · simp only [exec, execFailsafeMarkExpiry, Receiver.failsafeMark, h, State.reportLink, State.setRxl_rxl, if_true]
    rfl
  · simp only [exec, execHoldMarkExpiry, Receiver.holdMark, hg]
    rfl
  · exact congrArg Host.Outcome.next (State.failsafeMark_eq (by simp [hg]))

end Sys2Proof.Machine
end

section
/-! The shift servo's refresh (R97 to R100), the drum pulse (R104, R105) and the hook-home arrival (R106, R121). -/

namespace Sys2Proof.Machine

/-! ### Boundaries with nothing pending, and with the radio pending (R6, R7) -/

theorem State.driveBoundary_none {s : State} (h : s.au.drive.pending = none) : s.driveBoundary = s := by
  unfold State.driveBoundary; rw [h]
theorem State.steerBoundary_none {s : State} (h : s.au.steer.pending = none) : s.steerBoundary = s := by
  unfold State.steerBoundary; rw [h]
theorem State.gearBoundary_none {s : State} (h : s.au.gear.pending = none) : s.gearBoundary = s := by
  unfold State.gearBoundary; rw [h]
theorem State.winchBoundary_none {s : State} (h : s.au.winch.pending = none) : s.winchBoundary = s := by
  unfold State.winchBoundary; rw [h]

theorem State.steerBoundary_radio {s : State} (hp : s.au.steer.pending = some .radio)
    (hl : s.rxl.published.steer ≠ none) : s.steerBoundary = s.toRadio .steer := by
  unfold State.steerBoundary
  rw [hp]
  exact s.giveSteer_radio hl

theorem State.gearBoundary_radio {s : State} (hp : s.au.gear.pending = some .radio)
    (hl : s.rxl.published.gear ≠ none) : s.gearBoundary = s.toRadio .gear := by
  unfold State.gearBoundary
  rw [hp]
  exact s.giveGear_radio hl

/-! ### The shift servo (R97 to R100) -/

/-- The pending gear is the requested one, unless that is the present gear (R97). -/
theorem nextPendingGear_eq (requested : Option Gear) (present : Gear) :
    nextPendingGear requested present = if requested = some present then none else requested := by
  cases requested <;> simp [nextPendingGear]

/-- The pending gear is applied where R98 allows it. -/
theorem Drive.mayShift_iff (d : Drive) (g : Gear) (railEn : Bool) (threshold : Nat) :
    d.mayShift g railEn threshold = true ↔
      d.travel = false ∧ railEn = true ∧ d.present ≤ threshold ∧ (d.gear = .dig ∨ g = .dig → d.neutralCount = 100) := by
  simp only [Drive.mayShift, Bool.and_eq_true, Bool.not_eq_true', decide_eq_true_eq, Bool.or_eq_true, and_assoc]
  tauto

/-- The second stage of a refresh applies no gear. -/
theorem Drive.shift_stays {d : Drive} {railEn : Bool} {threshold : Nat}
    (h : ∀ g, d.pendingGear = some g → ¬d.mayShift g railEn threshold = true) : d.shift railEn threshold = d := by
  unfold Drive.shift
  split
  · rfl
  next g hg => exact if_neg (h g hg)

theorem execShiftServoRefresh_eq {s : State} (h : s.au.gear.pending = none ∨ s.drc.travel = true) :
    exec .shiftServoRefresh s = .next s.shiftRefresh := by
  show execShiftServoRefresh s = _
  unfold execShiftServoRefresh
  split
  · rfl
  next ht => rw [State.gearBoundary_none (h.resolve_right ht)]

/-- Settles O49: the three stages of a refresh, in the three ways they go. -/
theorem shiftServoRefreshes : Obligations.ShiftServoRefreshes := by
  refine ⟨fun s want h hwant => ?_, fun s ht hp hl => ?_⟩
  · rw [← nextPendingGear_eq] at hwant
    subst hwant
    rw [execShiftServoRefresh_eq h]
    unfold State.shiftRefresh Drive.shiftRefresh
    refine ⟨fun hr => ?_, fun hr g hg ht hd hdig => ?_, fun hr hstay travel htravel => ?_⟩
    · dsimp only
      rw [hr, Drive.shift_stays fun g _ => by simp [Drive.mayShift]]
      rfl
    · have shifts : Drive.mayShift { s.drc with pendingGear := some g } g true s.w.drc.shiftThreshold = true :=
        (Drive.mayShift_iff _ _ _ _).mpr ⟨ht, rfl, hd, hdig⟩
      by_cases same : s.drc.gear = g
      · rw [← same] at hg
        simp [nextPendingGear_eq] at hg
      · simp [hr, hg, Drive.shift, shifts, Drive.beginPulse, Drive.showShift, State.setDrc, Ne.symm same]
    · dsimp only
      rw [Drive.shift_stays]
      · rw [htravel]
        simp only [hr, if_true, Drive.beginPulse, Drive.showShift, State.setDrc, GearMarks.get]
        have unsent : decide (s.drc.shiftPulse = none) = s.drc.shiftPulse.isNone := by
          cases s.drc.shiftPulse <;> rfl
        rw [unsent]
        cases s.drc.gear <;> simp
      · intro g hg hm
        obtain ⟨ht, _, hd, hdig⟩ := (Drive.mayShift_iff _ _ _ _).mp hm
        rcases hstay g hg with h | h | ⟨h, hn⟩
        · exact absurd h (by simpa using ht)
        · exact absurd hd (Nat.not_le.mpr h)
        · exact hn (hdig h)
  · have radio : execShiftServoRefresh (s.toRadio .gear) = .next (s.toRadio .gear).shiftRefresh :=
      execShiftServoRefresh_eq (.inl rfl)
    show execShiftServoRefresh s = execShiftServoRefresh (s.toRadio .gear)
    rw [radio]
    unfold execShiftServoRefresh
    rw [if_neg (by simp [ht]), State.gearBoundary_radio hp hl]

/-! ### The drum pulse (R104, R105) -/

/-- The edges that count (R104). -/
theorem CountEdge.counts_iff (c : CountEdge) (e : Edge) :
    c.counts e = true ↔ c = .both ∨ ¬(e = .rising ↔ c = .falling) := by
  cases c <;> cases e <;> decide

theorem Winch.pulseDir_eq (b : Winch) : b.pulseDir = b.pulseToward := by
  unfold Winch.pulseDir Winch.pulseToward
  cases b.bridge <;> simp

theorem Winch.movedPosition_eq (b : Winch) : b.movedPosition b.pulseDir = b.positionAfter := by
  rw [Winch.pulseDir_eq]
  unfold Winch.movedPosition Winch.positionAfter
  cases b.position with
  | none => rfl
  | some p =>
    cases b.pulseToward with
    | out => simp only [if_true, ← Nat.not_le]; split <;> simp_all
    | inward =>
      cases p with
      | zero => simp
      | succ p => simp

/-- WNC after a pulse with no record (R105, R120, R124). -/
theorem Winch.countPulse_none {b : Winch} (h : b.record = none) (reserve : Nat) :
    b.countPulse reserve = { b with
      pulseSinceScan := true
      position := b.positionAfter
      reserveWarned := b.reserveWarned && b.positionAfter ≠ some 0
      stallTime := if b.mode = .driven ∧ b.pulseToward = b.drivenDir then 0 else b.stallTime } := by
  unfold Winch.countPulse
  rw [h]
  dsimp only
  rw [Winch.movedPosition_eq, Winch.pulseDir_eq]
  by_cases hp : b.positionAfter = some 0 <;> simp [hp]

theorem Winch.showNow_shownCurrent (b : Winch) : b.showNow.ShownCurrent := rfl

/-- A counted pulse with no record in flight: nothing ends, and it is the WINCH boundary (R6, R104). -/
theorem State.drumPulse_none {s : State} (h : s.wnc.record = none) :
    s.drumPulse = (s.setWnc (s.wnc.countPulse s.w.wnc.lineReserve)).showWinch.winchBoundary := by
  have record : (s.wnc.countPulse s.w.wnc.lineReserve).record = none := (s.wnc.countPulse_record _).mpr h
  have ending : (s.wnc.countPulse s.w.wnc.lineReserve).pulseEnding = none := by
    unfold Winch.pulseEnding
    rw [record]
  unfold State.drumPulse
  dsimp only [State.setWnc_wnc]
  rw [ending]
  rfl

/-! ### The hook-home arrival (R106, R121) -/

/-- What the arrival of the hook is for an operation: nothing for a PAY_OUT, GOOD for a HOME, HOOK_HOME for any other. -/
theorem Winch.hookEnding_arrived (b : Winch) (r : OpRecord) :
    b.hookArrived.hookEnding r =
      if r.kind = .payOut then none else if r.kind = .home then some none else some (some .hookHome) := by
  unfold Winch.hookEnding
  cases r.kind <;> rfl

/-- An owed reply is completed by the end of its operation, whatever the outcome (R162). -/
theorem PitLink.withResult_owed {p : PitLink} {r : OpRecord} (hi : r.immediate = false) (ho : p.owed ≠ none)
    (o : Option SenseKind) :
    (p.withResult r o).owed = none ∧ (p.withResult r o).ready.length = p.ready.length + 1 := by
  obtain ⟨w, hw⟩ := Option.ne_none_iff_exists'.mp ho
  unfold PitLink.withResult
  rw [hi, hw]
  cases o <;> simp

/-- The hook arrives during a haul: the operation ends, and the line stands at 0 (R106, R121). -/
theorem execHookHomeArrival_haul {s : State} {r : OpRecord} (hr : s.wnc.record = some r) (hk : r.kind ≠ .payOut) :
    ∃ o, (r.kind = .home → o = none) ∧ (r.kind ≠ .home → o = some .hookHome) ∧
      execHookHomeArrival s = .next ((s.setWnc s.wnc.hookArrived).endOperation o) := by
  have arrived : (s.setWnc s.wnc.hookArrived).wnc.record = some r := hr
  unfold execHookHomeArrival
  dsimp only
  rw [arrived]
  dsimp only [State.setWnc_wnc]
  rw [Winch.hookEnding_arrived, if_neg hk]
  by_cases hh : r.kind = .home
  · exact ⟨none, fun _ => rfl, fun h => absurd hh h, by rw [if_pos hh]; rfl⟩
  · exact ⟨some .hookHome, fun h => absurd h hh, fun _ => rfl, by rw [if_neg hh]; rfl⟩

/-- Settles O53. -/
theorem pulsesAndHookMoveTheLine : Obligations.PulsesAndHookMoveTheLine := by
  refine ⟨fun e s => ⟨fun hb he => ?_, fun he hr hp => ?_, fun he hr hp hl => ?_⟩,
    fun s => ⟨fun h => ?_, fun r hr hk => ?_⟩⟩
  · show execDrumPulseArrival e s = _
    unfold execDrumPulseArrival
    exact if_neg fun hc => ((s.wnc.edge.counts_iff e).mp hc).elim hb fun hn => hn he
  · refine ⟨_, if_pos ((s.wnc.edge.counts_iff e).mpr he), ?_⟩
    rw [State.drumPulse_none hr, State.winchBoundary_none (s := (s.setWnc (s.wnc.countPulse _)).showWinch) hp,
      Winch.countPulse_none hr]
    exact ⟨Winch.showNow_shownCurrent _, rfl⟩
  · refine ⟨_, if_pos ((s.wnc.edge.counts_iff e).mpr he), ?_⟩
    rw [State.drumPulse_none hr, State.winchBoundary_radio (s := (s.setWnc (s.wnc.countPulse _)).showWinch) hp hl,
      Winch.countPulse_none hr]
    exact ⟨rfl, rfl, rfl, Winch.showNow_shownCurrent _, rfl, rfl⟩
  · show execHookHomeArrival s = _
    unfold execHookHomeArrival
    rcases h with hr | ⟨r, hr, hk⟩
    · have arrived : (s.setWnc s.wnc.hookArrived).wnc.record = none := hr
      dsimp only
      rw [arrived]
      rfl
    · have arrived : (s.setWnc s.wnc.hookArrived).wnc.record = some r := hr
      dsimp only
      rw [arrived]
      dsimp only [State.setWnc_wnc]
      rw [Winch.hookEnding_arrived, if_pos hk]
      rfl
  · obtain ⟨o, home, haul, run⟩ := execHookHomeArrival_haul hr hk
    have wnc : ((s.setWnc s.wnc.hookArrived).endOperation o).wnc = (s.wnc.hookArrived.ended s.bsv.power).homed r.kind o :=
      State.endOperation_wnc (s := s.setWnc s.wnc.hookArrived) o hr
    have pli : ((s.setWnc s.wnc.hookArrived).endOperation o).pli = s.pli.withResult r o :=
      (State.endOperation_pli (s := s.setWnc s.wnc.hookArrived) o hr).trans (PitLink.operationEnded_eq _ _ _)
    have stands (c : OpKind) (x : Option SenseKind) : (s.wnc.hookArrived.ended s.bsv.power).homed c x =
        s.wnc.hookArrived.ended s.bsv.power := by
      unfold Winch.homed
      split <;> rfl
    rw [stands] at wnc
    refine ⟨_, run, ?_⟩
    rw [wnc, pli]
    refine ⟨rfl, rfl, rfl, rfl, rfl, rfl, rfl, rfl, fun hh hi => ?_, fun hh hi hd => ?_, fun hi ho => ?_⟩
    · rw [home hh]
      unfold PitLink.withResult
      rw [hi]
    · rw [haul hh]
      unfold PitLink.withResult
      rw [hi, hd]
      exact ⟨_, rfl, if_neg hh, rfl, rfl⟩
    · exact PitLink.withResult_owed hi ho o

end Sys2Proof.Machine
end

section
/-! The link under a complete frame, class by class (R150 to R153). -/

namespace Sys2Proof.Machine

/-! ### How a frame counts (R150) -/

theorem Receiver.classify_bad {b : Receiver} {f : ReceiverFrame} (h : f.crc ≠ crc8 f.checked) : b.classify f = .bad :=
  if_pos h

theorem Receiver.classify_flagged {b : Receiver} {f : ReceiverFrame} (h : f.crc = crc8 f.checked)
    (hf : f.failsafe = true) : b.classify f = .flagged := by
  unfold Receiver.classify
  rw [if_neg (not_not_intro h), if_pos hf]

theorem Receiver.classify_repeated {b : Receiver} {f : ReceiverFrame} (h : f.crc = crc8 f.checked)
    (hf : f.failsafe = false) (hc : b.lastCounter = some f.counter) : b.classify f = .repeated := by
  unfold Receiver.classify
  rw [if_neg (not_not_intro h), if_neg (by simp [hf]), if_pos hc]

theorem Receiver.classify_fresh {b : Receiver} {f : ReceiverFrame} (h : f.crc = crc8 f.checked)
    (hf : f.failsafe = false) (hc : b.lastCounter ≠ some f.counter) : b.classify f = .fresh := by
  unfold Receiver.classify
  rw [if_neg (not_not_intro h), if_neg (by simp [hf]), if_neg hc]

/-! ### RXL after a frame that is not new -/

theorem Receiver.afterFrame_bad {b : Receiver} {f : ReceiverFrame} (h : b.classify f = .bad) (w : RxlSettings) :
    b.afterFrame w f =
      { b with assembler := .hunting, run := if b.link = .recovering then 0 else b.run } := by
  unfold Receiver.afterFrame Receiver.move Receiver.gapAfter
  rw [h]
  cases hl : b.link <;> simp

theorem Receiver.afterFrame_flagged {b : Receiver} {f : ReceiverFrame} (h : b.classify f = .flagged) (w : RxlSettings) :
    b.afterFrame w f =
      { b with
        link := if b.link = .absent then .absent else .lost
        assembler := .hunting
        gap := if b.link = .absent then b.gap else some ⟨w.failsafeTime, false⟩
        run := if b.link = .recovering then 0 else b.run } := by
  unfold Receiver.afterFrame Receiver.move Receiver.gapAfter
  rw [h]
  cases hl : b.link <;> simp

theorem Receiver.afterFrame_repeated {b : Receiver} {f : ReceiverFrame} (h : b.classify f = .repeated) (w : RxlSettings) :
    b.afterFrame w f =
      { b with
        assembler := .hunting
        gap := if b.link = .absent then b.gap else some ⟨w.failsafeTime, false⟩ } := by
  unfold Receiver.afterFrame Receiver.move Receiver.gapAfter
  rw [h]
  cases hl : b.link <;> simp

/-- Only a new frame is published (R154). -/
theorem Receiver.move_publish_fresh {b : Receiver} {c : FrameClass} (h : c ≠ .fresh) : (b.move c).publish = false := by
  unfold Receiver.move
  cases hl : b.link <;> cases c <;> simp_all

/-! ### The part after a frame that reaches no other block -/

theorem exec_channelFrame {bytes : List Byte} {f : ReceiverFrame} (h : receiverFrameOf bytes = some f) (s : State) :
    exec (.channelFrame bytes) s = .next (s.takeFrame f) := by
  show execChannelFrame bytes s = _
  unfold execChannelFrame
  rw [h]

theorem State.takeFrame_unpublished {s : State} {f : ReceiverFrame}
    (h : (s.rxl.move (s.rxl.classify f)).publish = false) :
    s.takeFrame f = (s.setRxl (s.rxl.afterFrame s.w.rxl f)).reportLink s.rxl.link := by
  unfold State.takeFrame
  rw [h]
  rfl

/-- A frame that is not published and leaves the link state changes RXL alone. -/
theorem State.takeFrame_quiet {s : State} {f : ReceiverFrame} (h : (s.rxl.move (s.rxl.classify f)).publish = false)
    (hl : (s.rxl.afterFrame s.w.rxl f).link = s.rxl.link) :
    s.takeFrame f = s.setRxl (s.rxl.afterFrame s.w.rxl f) := by
  rw [State.takeFrame_unpublished h]
  exact State.reportLink_same hl

/-- A new frame that does not take the link to LIVE is not published. -/
theorem Receiver.move_fresh_unpublished {b : Receiver} (h : (b.move .fresh).link ≠ .live) :
    (b.move .fresh).publish = false := by
  cases hp : (b.move .fresh).publish with
  | false => rfl
  | true => exact absurd (b.move_publish .fresh hp) h

/-- A new frame that does not take the link to LIVE takes it to RECOVERING, which is not reported to AU (R153). -/
theorem Receiver.move_fresh_recovering {b : Receiver} (h : (b.move .fresh).link ≠ .live) :
    (b.move .fresh).link = .recovering := by
  unfold Receiver.move at h ⊢
  cases hl : b.link <;> simp only [hl] at h ⊢ <;> try exact absurd rfl h
  split
  · rfl
  next late =>
    rw [if_neg late] at h
    split
    next third => rw [if_pos third] at h; exact absurd rfl h
    · rfl

theorem State.reportLink_recovering {s : State} (h : s.rxl.link = .recovering) (before : LinkState) :
    s.reportLink before = s := by
  unfold State.reportLink
  rw [h]
  split <;> rfl

/-- A new frame that does not take the link to LIVE changes RXL alone (R153, R154). -/
theorem State.takeFrame_recovering {s : State} {f : ReceiverFrame} (h : s.rxl.classify f = .fresh)
    (hl : (s.rxl.move .fresh).link ≠ .live) : s.takeFrame f = s.setRxl (s.rxl.afterFrame s.w.rxl f) := by
  rw [State.takeFrame_unpublished (by rw [h]; exact Receiver.move_fresh_unpublished hl)]
  refine State.reportLink_recovering (s := s.setRxl _) ?_ _
  show (s.rxl.move (s.rxl.classify f)).link = .recovering
  rw [h]
  exact Receiver.move_fresh_recovering hl

theorem Receiver.late_iff (b : Receiver) : b.late = true ↔ ∃ g, b.gap = some g ∧ g.holdPassed = true := by
  unfold Receiver.late
  cases b.gap <;> simp

theorem Receiver.late_eq_false_iff (b : Receiver) : b.late = false ↔ ∀ g, b.gap = some g → g.holdPassed = false := by
  unfold Receiver.late
  cases b.gap <;> simp

/-- A new frame of a recovery that came before the hold mark: the third of the run enters LIVE (R153). -/
theorem Receiver.move_fresh_early {b : Receiver} (hl : b.link = .recovering) (early : b.late = false) :
    b.move .fresh = if 2 ≤ b.run then ⟨.live, 0, true⟩ else ⟨.recovering, b.run + 1, false⟩ := by
  unfold Receiver.move
  rw [hl]
  simp [early]

/-! ### The channel table of a new frame (R150) -/

theorem fillSlots_get (values : List Nat) {k : Nat} (h : k < 12) :
    (fillSlots values)[k]? = some ((values[k]?).map (min 2000)) := by
  unfold fillSlots
  rw [List.getElem?_map, List.getElem?_range h]
  rfl

/-- The fields of RXL that a new frame sets wherever it takes the link. -/
theorem Receiver.afterFrame_fresh {b : Receiver} {f : ReceiverFrame} (h : b.classify f = .fresh) (w : RxlSettings) :
    b.afterFrame w f =
      { link := (b.move .fresh).link
        slots := fillSlots f.values
        channels := f.values.length
        published := if (b.move .fresh).publish then formCommands w (fillSlots f.values) f.values.length else b.published
        lastCounter := some f.counter
        run := (b.move .fresh).run
        gap := some ⟨w.failsafeTime, false⟩
        assembler := .hunting } := by
  unfold Receiver.afterFrame Receiver.gapAfter
  rw [h]
  rfl

/-- Settles O57, class by class. -/
theorem frameMovesLink : Obligations.FrameMovesLink := by
  refine ⟨fun bytes f s hf => ?_, fun _ _ => rfl, fun _ => rfl, fun _ _ => rfl, fun _ => rfl⟩
  rw [exec_channelFrame hf]
  refine ⟨fun bad => ?_, fun good flag => ?_, fun good plain same => ?_, fun good plain new => ?_⟩
  · have hc := Receiver.classify_bad (b := s.rxl) bad
    have after := Receiver.afterFrame_bad hc s.w.rxl
    rw [State.takeFrame_quiet (by rw [hc]; exact Receiver.move_publish_fresh (by decide)) (by rw [after]), after]
    rfl
  · have hc := Receiver.classify_flagged (b := s.rxl) good flag
    have after := Receiver.afterFrame_flagged hc s.w.rxl
    have unpublished : (s.rxl.move (s.rxl.classify f)).publish = false := by
      rw [hc]; exact Receiver.move_publish_fresh (by decide)
    refine ⟨fun hl => ?_, fun hl => ?_, fun ha hl => ?_⟩
    · rw [State.takeFrame_quiet unpublished (by rw [after]; simp [hl]), after]
      simp [hl, State.setRxl]
    · rw [State.takeFrame_quiet unpublished (by rw [after]; simp [hl]), after]
      simp [hl, State.setRxl, State.gapRestarted, State.w]
    · rw [State.takeFrame_unpublished unpublished,
        State.reportLink_lost (by rw [State.setRxl_rxl, after]; simp [ha]) hl, State.enterLost_eq, after]
      simp [ha, State.setRxl, State.gapRestarted, State.w]
      rfl
  · have hc := Receiver.classify_repeated good plain same
    have after := Receiver.afterFrame_repeated hc s.w.rxl
    rw [State.takeFrame_quiet (by rw [hc]; exact Receiver.move_publish_fresh (by decide)) (by rw [after]), after]
    rfl
  · have hc := Receiver.classify_fresh good plain new
    have after := (State.takeFrame_rxl s f).trans (Receiver.afterFrame_fresh hc s.w.rxl)
    have moved : (s.takeFrame f).rxl.link = (s.rxl.move .fresh).link ∧ (s.takeFrame f).rxl.run = (s.rxl.move .fresh).run := by
      rw [after]
      exact ⟨rfl, rfl⟩
    refine ⟨_, rfl, ?_, fun k hk => ?_, ?_, ?_, ?_, ?_, fun hl => ?_, fun hl => ?_, fun hl late => ?_,
      fun hl early => ⟨fun few => ?_, fun enough => ?_⟩, fun dark => ?_⟩
    · rw [after]; exact fillSlots_length _
    · rw [after]; exact fillSlots_get _ hk
    · rw [after]
    · rw [after]
    · rw [after]; rfl
    · rw [after]
    · rw [moved.1, moved.2]
      simp only [List.mem_cons, List.not_mem_nil, or_false] at hl
      unfold Receiver.move
      rcases hl with hl | hl | hl <;> rw [hl] <;> exact ⟨rfl, rfl⟩
    · rw [moved.1, moved.2]
      unfold Receiver.move
      rw [hl]
      exact ⟨rfl, rfl⟩
    · rw [moved.1, moved.2]
      unfold Receiver.move
      rw [hl]
      simp [(s.rxl.late_iff).mpr late]
    · rw [moved.1, moved.2, Receiver.move_fresh_early hl ((s.rxl.late_eq_false_iff).mpr early), if_neg (by omega)]
      exact ⟨rfl, rfl⟩
    · rw [moved.1, moved.2, Receiver.move_fresh_early hl ((s.rxl.late_eq_false_iff).mpr early), if_pos enough]
      exact ⟨rfl, rfl⟩
    · rw [moved.1] at dark
      rw [State.takeFrame_recovering hc dark]
      refine ⟨?_, rfl⟩
      rw [State.setRxl_rxl, Receiver.afterFrame_fresh hc, Receiver.move_fresh_unpublished dark]
      rfl

end Sys2Proof.Machine
end

section
/-! The servo refresh (chapter 4): the mode, the targets, the outputs and their pulses. -/

namespace Sys2Proof.Machine

/-! ### Arithmetic of the outputs (R69, R74, R75, R77) -/

/-- A product divided toward zero keeps the sign of its factor. -/
theorem mul_tdiv_eq_sign (a : Int) (n k : Nat) : (a * n).tdiv k = a.sign * (a.natAbs * n / k : Nat) := by
  obtain ⟨m, rfl | rfl⟩ := a.eq_nat_or_neg
  · rw [Int.natAbs_natCast, ← Nat.cast_mul, ← Int.ofNat_tdiv]
    cases m <;> simp
  · rw [Int.natAbs_neg, Int.natAbs_natCast, Int.neg_mul, Int.neg_tdiv, ← Nat.cast_mul, ← Int.ofNat_tdiv, Int.sign_neg]
    cases m <;> simp

theorem slew_slewed (limit : Nat) (present target : Int) : Slewed limit present target (slew limit present target) := by
  unfold Slewed slew
  split
  · rfl
  · split <;> rfl

/-- Under a rail overload an output moves only as far as the slewed value takes it toward centre (R75). -/
theorem towardCentre_moves (out v : Int) :
    (out = 0 → towardCentre out v = 0) ∧ (v * out < 0 → towardCentre out v = 0) ∧
      (0 ≤ v * out → v.natAbs ≤ out.natAbs → towardCentre out v = v) ∧
      (0 < v * out → out.natAbs ≤ v.natAbs → towardCentre out v = out) := by
  unfold towardCentre
  rcases lt_trichotomy out 0 with neg | zero | pos
  · have turned : v * out = -v * -out := by ring
    have pos : 0 < -out := by omega
    rw [turned, lt_iff_lt_of_le_iff_le (mul_nonneg_iff_of_pos_right pos), mul_nonneg_iff_of_pos_right pos,
      mul_pos_iff_of_pos_right pos, if_neg (by omega), if_neg (by omega)]
    refine ⟨by omega, fun h => if_pos (by omega), fun h hv => ?_, fun h hv => ?_⟩ <;> rw [if_neg (by omega)] <;> omega
  · subst zero
    simp
    omega
  · rw [lt_iff_lt_of_le_iff_le (mul_nonneg_iff_of_pos_right pos), mul_nonneg_iff_of_pos_right pos,
      mul_pos_iff_of_pos_right pos, if_neg (by omega), if_pos pos]
    refine ⟨by omega, fun h => if_pos h, fun h hv => ?_, fun h hv => ?_⟩ <;> rw [if_neg (by omega)] <;> omega

/-- The pulse widths of the two forms agree on endpoints in order (R77). -/
theorem pulseWidth_eq_servoPulse {x : Axle} (h : x.ordered = true) (a : Int) : pulseWidth x a = servoPulse x a := by
  simp only [Axle.ordered, Bool.and_eq_true, decide_eq_true_eq] at h
  obtain ⟨low, high⟩ := h
  unfold pulseWidth servoPulse
  have up : (x.max : Int) - x.centre = ((x.max - x.centre : Nat) : Int) := by omega
  have down : (x.centre : Int) - x.min = ((x.centre - x.min : Nat) : Int) := by omega
  have quotient (n : Nat) : (a * n).tdiv 1000 = a.sign * (a.natAbs * n / 1000 : Nat) := mul_tdiv_eq_sign a n 1000
  rw [up, down, quotient, quotient]
  rcases lt_trichotomy a 0 with neg | zero | pos
  · rw [if_neg (by omega), if_neg (by omega), Int.sign_eq_neg_one_of_neg neg]
    omega
  · subst zero
    simp
  · rw [if_pos (by omega), if_pos (by omega), Int.sign_eq_one_of_pos pos]
    omega

theorem Settings.axles_ordered {w : Settings} (h : w.legal = true) :
    w.stc.front.ordered = true ∧ w.stc.rear.ordered = true := by
  simp only [Settings.legal, Bool.and_eq_true] at h
  exact ⟨h.1.1.1.2, h.1.1.2⟩

/-! ### The active mode (R70, R71) -/

/-- The third stage moves the mode alone. -/
theorem Steering.chooseMode_eq (b : Steering) (i : RefreshInput) :
    b.chooseMode i =
      { b with active := (b.chooseMode i).active, pendingMode := (b.chooseMode i).pendingMode } := by
  unfold Steering.chooseMode
  split
  · rfl
  · split <;> rfl

theorem modeMayChange_iff (b : Steering) (i : RefreshInput) :
    modeMayChange b i = true ↔
      i.entry.steer.natAbs ≤ i.settings.centreBand ∧ i.entry.hold = false ∧ i.railEn = true ∧ b.restraint = false := by
  simp [modeMayChange, and_assoc]

theorem Steering.chooseMode_same {b : Steering} {i : RefreshInput} (h : i.entry.mode = b.active) :
    (b.chooseMode i).active = b.active ∧ (b.chooseMode i).pendingMode = none := by
  simp [Steering.chooseMode, pendingAfter, h]

theorem Steering.chooseMode_other {b : Steering} {i : RefreshInput} (h : i.entry.mode ≠ b.active) :
    if i.entry.steer.natAbs ≤ i.settings.centreBand ∧ i.entry.hold = false ∧ i.railEn = true ∧ b.restraint = false then
      (b.chooseMode i).active = i.entry.mode ∧ (b.chooseMode i).pendingMode = none
    else (b.chooseMode i).active = b.active ∧ (b.chooseMode i).pendingMode = some i.entry.mode := by
  unfold Steering.chooseMode pendingAfter
  rw [if_neg h]
  dsimp only
  simp only [← modeMayChange_iff]
  by_cases may : modeMayChange b i = true
  · rw [if_pos may, if_pos may]
    exact ⟨rfl, rfl⟩
  · rw [if_neg may, if_neg may]
    exact ⟨rfl, rfl⟩

/-! ### The refresh -/

/-- STC at the third stage of a refresh (R67). -/
def Steering.staged (b : Steering) (i : RefreshInput) : Steering :=
  ({ b with overload := i.railLimit < i.rail } : Steering).chooseMode i

theorem Steering.staged_eq (b : Steering) (i : RefreshInput) :
    b.staged i =
      { b with overload := i.railLimit < i.rail, active := (b.staged i).active, pendingMode := (b.staged i).pendingMode } :=
  Steering.chooseMode_eq _ i

theorem Steering.staged_same {b : Steering} {i : RefreshInput} (h : i.entry.mode = b.active) :
    (b.staged i).active = b.active ∧ (b.staged i).pendingMode = none :=
  Steering.chooseMode_same (b := { b with overload := i.railLimit < i.rail }) h

theorem Steering.staged_other {b : Steering} {i : RefreshInput} (h : i.entry.mode ≠ b.active) :
    if i.entry.steer.natAbs ≤ i.settings.centreBand ∧ i.entry.hold = false ∧ i.railEn = true ∧ b.restraint = false then
      (b.staged i).active = i.entry.mode ∧ (b.staged i).pendingMode = none
    else (b.staged i).active = b.active ∧ (b.staged i).pendingMode = some i.entry.mode :=
  Steering.chooseMode_other (b := { b with overload := i.railLimit < i.rail }) h

/-- A refresh with the rail released (R80). -/
theorem Steering.refresh_off {b : Steering} {i : RefreshInput} (h : i.railEn = false) :
    b.refresh i = { b.staged i with
      frontPulse := none, rearPulse := none, published := i.entry.steer, interval := i.settings.refreshPeriod,
      shownRestraint := b.restraint } := by
  have kept : (b.staged i).restraint = b.restraint := by rw [Steering.staged_eq]
  rw [← kept]
  unfold Steering.refresh
  rw [h]
  rfl

/-- The targets of a refresh with the rail powered (R69, R76). -/
def Steering.targets (b : Steering) (i : RefreshInput) : Int × Int :=
  if i.entry.hold then (b.frontTarget, b.rearTarget)
  else steerTargets (b.staged i).active i.entry.steer i.settings.rearRatio

theorem Steering.targets_held {b : Steering} {i : RefreshInput} (h : i.entry.hold = true) :
    b.targets i = (b.frontTarget, b.rearTarget) := if_pos h

theorem Steering.targets_free {b : Steering} {i : RefreshInput} (h : i.entry.hold = false) :
    b.targets i = steerTargets (b.staged i).active i.entry.steer i.settings.rearRatio := if_neg (by simp [h])

theorem steerTargets_front (m : SteerMode) (v : Int) (ratio : Nat) :
    (steerTargets m v ratio).1 = if m = .rear then 0 else v := by
  cases m <;> rfl

theorem steerTargets_rear (m : SteerMode) (v : Int) (ratio : Nat) :
    (steerTargets m v ratio).2 = match m with
      | .front => 0
      | .rear => v
      | .counter => -(v.sign * (v.natAbs * ratio / 100 : Nat))
      | .crab => v.sign * (v.natAbs * ratio / 100 : Nat) := by
  cases m with
  | front => rfl
  | rear => rfl
  | counter => exact (mul_tdiv_eq_sign (-v) ratio 100).trans (by rw [Int.sign_neg, Int.natAbs_neg, Int.neg_mul])
  | crab => exact mul_tdiv_eq_sign v ratio 100

/-- A refresh with the rail powered (R69, R74 to R79). -/
theorem Steering.refresh_on {b : Steering} {i : RefreshInput} (h : i.railEn = true) :
    ∃ f r, f = moveAxle i.settings.slewLimit (i.railLimit < i.rail) (i.entry.hold || b.unpulsed) b.front (b.targets i).1 ∧
      r = moveAxle i.settings.slewLimit (i.railLimit < i.rail) (i.entry.hold || b.unpulsed) b.rear (b.targets i).2 ∧
      b.refresh i = { b.staged i with
        frontTarget := (b.targets i).1, rearTarget := (b.targets i).2, front := f, rear := r, unpulsed := false
        frontPulse := some (pulseWidth i.settings.front f), rearPulse := some (pulseWidth i.settings.rear r)
        published := i.entry.steer, interval := i.settings.refreshPeriod, shownRestraint := b.restraint } := by
  have kept : (b.staged i).restraint = b.restraint ∧ (b.staged i).overload = decide (i.railLimit < i.rail) ∧
      (b.staged i).unpulsed = b.unpulsed ∧ (b.staged i).front = b.front ∧ (b.staged i).rear = b.rear ∧
      (b.staged i).frontTarget = b.frontTarget ∧ (b.staged i).rearTarget = b.rearTarget := by
    rw [Steering.staged_eq]
    exact ⟨rfl, rfl, rfl, rfl, rfl, rfl, rfl⟩
  obtain ⟨restraint, overload, unpulsed, front, rear, frontTarget, rearTarget⟩ := kept
  unfold Steering.targets
  rw [← restraint, ← overload, ← unpulsed, ← front, ← rear, ← frontTarget, ← rearTarget]
  refine ⟨_, _, rfl, rfl, ?_⟩
  unfold Steering.refresh
  rw [h]
  rfl

/-- The fields of STC that a refresh sets alike with the rail powered and released. -/
theorem Steering.refresh_fields (b : Steering) (i : RefreshInput) :
    (b.refresh i).published = i.entry.steer ∧ (b.refresh i).interval = i.settings.refreshPeriod ∧
      (b.refresh i).restraint = b.restraint ∧ (b.refresh i).shownRestraint = b.restraint ∧
      (b.refresh i).overload = decide (i.railLimit < i.rail) ∧ (b.refresh i).active = (b.staged i).active ∧
      (b.refresh i).pendingMode = (b.staged i).pendingMode := by
  have staged := Steering.staged_eq b i
  cases h : i.railEn with
  | false =>
    rw [Steering.refresh_off h, staged]
    exact ⟨rfl, rfl, rfl, rfl, rfl, rfl, rfl⟩
  | true =>
    obtain ⟨f, r, _, _, run⟩ := Steering.refresh_on (b := b) h
    rw [run, staged]
    exact ⟨rfl, rfl, rfl, rfl, rfl, rfl, rfl⟩

/-- An output that neither the hold flag nor a first pulse keeps (R74, R75). -/
theorem moveAxle_moves (limit : Nat) (overload : Bool) (out target : Int) :
    (overload = false → Slewed limit out target (moveAxle limit overload false out target)) ∧
      (overload = true → ∃ v, Slewed limit out target v ∧
        (out = 0 → moveAxle limit overload false out target = 0) ∧
        (v * out < 0 → moveAxle limit overload false out target = 0) ∧
        (0 ≤ v * out → v.natAbs ≤ out.natAbs → moveAxle limit overload false out target = v) ∧
        (0 < v * out → out.natAbs ≤ v.natAbs → moveAxle limit overload false out target = out)) := by
  refine ⟨?_, ?_⟩ <;> rintro rfl
  · exact slew_slewed limit out target
  · exact ⟨_, slew_slewed limit out target, towardCentre_moves out _⟩

theorem execServoRefreshExpiry_eq {s : State} (h : s.au.steer.pending = none) :
    exec .servoRefreshExpiry s = .next s.refresh := by
  show execServoRefreshExpiry s = _
  unfold execServoRefreshExpiry
  rw [State.steerBoundary_none h]

/-- Settles O45: the stages of R67, with the rail released and powered. -/
theorem steeringRefreshes : Obligations.SteeringRefreshes := by
  refine ⟨fun s hp legal => ?_, fun s hp hl => ?_⟩
  · refine ⟨_, execServoRefreshExpiry_eq hp, rfl, ?_⟩
    obtain ⟨frontOrdered, rearOrdered⟩ := Settings.axles_ordered legal
    obtain ⟨published, interval, restraint, shown, overload, active, pending⟩ := s.stc.refresh_fields s.refreshInput
    show (s.stc.refresh s.refreshInput).published = _ ∧ _
    have stc : s.refresh.stc = s.stc.refresh s.refreshInput := rfl
    rw [stc, active, pending]
    refine ⟨published, interval, restraint, shown, ?_, fun same => ?_, fun other => ?_, fun off => ?_, fun on => ?_⟩
    · rw [overload]
      exact decide_eq_true_iff
    · exact Steering.staged_same (i := s.refreshInput) same
    · exact Steering.staged_other (i := s.refreshInput) other
    · rw [Steering.refresh_off (i := s.refreshInput) off, Steering.staged_eq]
      exact ⟨rfl, rfl, rfl, rfl, rfl, rfl, rfl⟩
    · obtain ⟨f, r, front, rear, run⟩ := Steering.refresh_on (b := s.stc) (i := s.refreshInput) on
      rw [overload, run]
      dsimp only
      refine ⟨?_, ?_, rfl, fun stays => ?_, fun hold => ?_, fun free => ⟨?_, ?_, fun pulsed out target new h => ?_⟩⟩
      · rw [← pulseWidth_eq_servoPulse frontOrdered]; rfl
      · rw [← pulseWidth_eq_servoPulse rearOrdered]; rfl
      · have stays : (s.refreshInput.entry.hold || s.stc.unpulsed) = true := Bool.or_eq_true_iff.mpr stays
        rw [front, rear, stays]
        exact ⟨rfl, rfl⟩
      · rw [Steering.targets_held (i := s.refreshInput) hold]
        exact ⟨rfl, rfl⟩
      · rw [Steering.targets_free (i := s.refreshInput) free, steerTargets_front]
        rfl
      · rw [Steering.targets_free (i := s.refreshInput) free, steerTargets_rear]
        rfl
      · have moves : (s.refreshInput.entry.hold || s.stc.unpulsed) = false := Bool.or_eq_false_iff.mpr ⟨free, pulsed⟩
        rw [moves] at front rear
        simp only [List.mem_cons, Prod.mk.injEq, List.not_mem_nil, or_false] at h
        rcases h with ⟨rfl, rfl, rfl⟩ | ⟨rfl, rfl, rfl⟩
        · rw [front]
          exact moveAxle_moves _ _ _ _
        · rw [rear]
          exact moveAxle_moves _ _ _ _
  · have radio : exec .servoRefreshExpiry (s.toRadio .steer) = .next (s.toRadio .steer).refresh :=
      execServoRefreshExpiry_eq rfl
    rw [radio]
    show execServoRefreshExpiry s = _
    unfold execServoRefreshExpiry
    rw [State.steerBoundary_radio hp hl]

end Sys2Proof.Machine
end

section
/-! The drive update (chapter 5): what governs it, the direction machine and the DRIVE boundary. -/

namespace Sys2Proof.Machine

/-! ### What a choice asks of the bridge (R86, R92, R95) -/

/-- The bridge action that a want comes to. -/
def DriveWant.bridge : DriveWant → DriveBridge
  | .forward _ => .driveForward
  | .reverse _ => .driveReverse
  | .brake strength _ => brakeAction strength
  | .opened => .opened

/-- The brake-active flag that a want comes to. -/
def DriveWant.flagged : DriveWant → Bool
  | .brake _ flagged => flagged
  | _ => false

/-- A choice drives exactly in the direction state of its want. -/
def DriveChoice.Agrees (c : DriveChoice) : Prop :=
  (c.dir = .forward ↔ ∃ t, c.want = .forward t) ∧ (c.dir = .reverse ↔ ∃ t, c.want = .reverse t)

theorem DriveChoice.Agrees.bridge {c : DriveChoice} (h : c.Agrees) :
    (c.dir = .forward → c.want.bridge = .driveForward ∧ c.want.flagged = false) ∧
      (c.dir = .reverse → c.want.bridge = .driveReverse ∧ c.want.flagged = false) := by
  refine ⟨fun hd => ?_, fun hd => ?_⟩
  · obtain ⟨t, ht⟩ := h.1.mp hd
    rw [ht]
    exact ⟨rfl, rfl⟩
  · obtain ⟨t, ht⟩ := h.2.mp hd
    rw [ht]
    exact ⟨rfl, rfl⟩

/-! ### Stages 5 and 6 (R92 to R95) -/

theorem Drive.apply_chosen (d : Drive) (c : DriveChoice) (w : DrcSettings) :
    (d.apply c w).dir = c.dir ∧ (d.apply c w).gateTimer = c.gate ∧ (d.apply c w).bridge = c.want.bridge ∧
      (d.apply c w).brakeFlag = c.want.flagged := by
  unfold Drive.apply
  split
  next h => rw [h]; exact ⟨rfl, rfl, rfl, rfl⟩
  next h => rw [h]; exact ⟨rfl, rfl, rfl, rfl⟩
  next h => rw [h]; exact ⟨rfl, rfl, rfl, rfl⟩
  next h => rw [h]; exact ⟨rfl, rfl, rfl, rfl⟩

/-- What stages 5 and 6 set; the rest of the drive stays. -/
theorem Drive.apply_eq (d : Drive) (c : DriveChoice) (w : DrcSettings) :
    d.apply c w = { d with
      dir := (d.apply c w).dir, gateTimer := (d.apply c w).gateTimer, requested := (d.apply c w).requested
      present := (d.apply c w).present, bridge := (d.apply c w).bridge, brakeFlag := (d.apply c w).brakeFlag } := by
  unfold Drive.apply
  split <;> rfl

theorem Drive.apply_idle {c : DriveChoice} (h : c.Agrees) (hf : c.dir ≠ .forward) (hr : c.dir ≠ .reverse) (d : Drive)
    (w : DrcSettings) : (d.apply c w).requested = 0 ∧ (d.apply c w).present = 0 := by
  unfold Drive.apply
  split
  next t ht => exact absurd (h.1.mpr ⟨t, ht⟩) hf
  next t ht => exact absurd (h.2.mpr ⟨t, ht⟩) hr
  · exact ⟨rfl, rfl⟩
  · exact ⟨rfl, rfl⟩

/-! ### The direction machine (R90, R91) -/

theorem DriveInput.machine_dir (i : DriveInput) (dir : DirState) (gate : Option Nat) :
    (i.machine dir gate).dir = directionAfter i.settings.gateTime dir i.entry.throttle := by
  unfold DriveInput.machine directionAfter
  dsimp only
  rcases lt_trichotomy i.entry.throttle 0 with neg | zero | pos
  · rw [if_neg (by omega), if_neg (by omega)]
    cases dir <;> simp only [neg, if_pos, if_neg (show ¬0 < i.entry.throttle by omega)]
    · rfl
    · split <;> rfl
    · rfl
  · rw [zero]
    cases dir <;> simp [DriveInput.toGate] <;> split <;> rfl
  · rw [if_pos pos]
    cases dir <;> exact (if_pos pos).symm

/-- The gate timer runs in GATE only: on, where the machine is in GATE already, and else from the gate time. -/
theorem DriveInput.machine_gate (i : DriveInput) (dir : DirState) (gate : Option Nat) :
    (i.machine dir gate).gate =
      if (i.machine dir gate).dir = .gate then (if dir = .gate then gate else some i.settings.gateTime) else none := by
  unfold DriveInput.machine
  dsimp only
  split
  · rfl
  · split
    · cases dir <;> simp [DriveInput.toGate] <;> split <;> simp
    · cases dir <;> simp [DriveInput.back]
      split <;> simp

theorem DriveInput.machine_neutral {i : DriveInput} (h : i.entry.throttle = 0) (dir : DirState) (gate : Option Nat) :
    (i.machine dir gate).want = i.drag := by
  unfold DriveInput.machine
  rw [h]
  cases dir <;> simp [DriveInput.toGate] <;> split <;> rfl

theorem DriveInput.machine_braking {i : DriveInput} (h : i.entry.throttle < 0) {dir : DirState} {gate : Option Nat}
    (hr : (i.machine dir gate).dir ≠ .reverse) : (i.machine dir gate).want = i.brakeAt := by
  unfold DriveInput.machine at hr ⊢
  dsimp only at hr ⊢
  rw [if_neg (by omega), if_neg (by omega)] at hr ⊢
  cases dir with
  | neutral => exact absurd rfl hr
  | forward =>
    dsimp only at hr ⊢
    split
    next zero => rw [if_pos zero] at hr; exact absurd rfl hr
    · rfl
  | brake => rfl
  | gate => rfl
  | reverse => exact absurd rfl hr

theorem DriveInput.back_agrees (i : DriveInput) : i.back.Agrees := by simp [DriveChoice.Agrees, DriveInput.back]
theorem DriveInput.ahead_agrees (i : DriveInput) : i.ahead.Agrees := by simp [DriveChoice.Agrees, DriveInput.ahead]

/-- A choice that brakes in a direction state that does not drive. -/
theorem DriveChoice.agrees_brake {dir : DirState} (hf : dir ≠ .forward) (hr : dir ≠ .reverse) (gate : Option Nat)
    (strength : Nat) (flagged : Bool) : DriveChoice.Agrees ⟨dir, gate, .brake strength flagged⟩ := by
  simp [DriveChoice.Agrees, hf, hr]

theorem DriveInput.toGate_agrees (i : DriveInput) : i.toGate.Agrees := by
  unfold DriveInput.toGate
  split <;> exact DriveChoice.agrees_brake (by decide) (by decide) _ _ _

theorem DriveInput.machine_agrees (i : DriveInput) (dir : DirState) (gate : Option Nat) :
    (i.machine dir gate).Agrees := by
  unfold DriveInput.machine
  dsimp only
  split
  · exact i.ahead_agrees
  split
  · cases dir with
    | forward => exact i.toGate_agrees
    | brake => exact i.toGate_agrees
    | _ => exact DriveChoice.agrees_brake (by decide) (by decide) _ _ _
  · cases dir with
    | neutral => exact i.back_agrees
    | reverse => exact i.back_agrees
    | forward =>
      dsimp only
      split
      · exact i.back_agrees
      · exact DriveChoice.agrees_brake (by decide) (by decide) _ _ _
    | _ => exact DriveChoice.agrees_brake (by decide) (by decide) _ _ _

theorem DriveInput.assist_agrees (i : DriveInput) : i.assist.Agrees := by
  unfold DriveInput.assist
  split
  · simp [DriveChoice.Agrees]
  · exact DriveChoice.agrees_brake (by decide) (by decide) _ _ _

/-! ### The governing condition (R86) -/

theorem DriveInput.govern_agrees (i : DriveInput) (d : Drive) : (i.govern d).Agrees := by
  have stopped := fun b f => DriveChoice.agrees_brake (dir := .neutral) (by decide) (by decide) none b f
  unfold DriveInput.govern
  split
  · simp [DriveChoice.Agrees]
  split
  · exact stopped _ _
  split
  · exact stopped _ _
  split
  · exact stopped _ _
  split
  · exact stopped _ _
  split
  · exact i.assist_agrees
  · exact i.machine_agrees _ _

theorem DriveInput.govern_shutdown {i : DriveInput} (h : i.power = .shutdown) (d : Drive) :
    i.govern d = ⟨.neutral, none, .opened⟩ := if_pos h

theorem DriveInput.govern_parked {i : DriveInput} (h : i.power = .parked) (d : Drive) :
    i.govern d = ⟨.neutral, none, .brake 1000 false⟩ := by
  unfold DriveInput.govern
  rw [if_neg (by simp [h]), if_pos h]

theorem stage_stops_iff (g : Stage) : g ∈ [Stage.ident, .cut, .fault] ↔ g = .ident ∨ g = .cut ∨ g = .fault := by simp

/-- The stages and the entry that stop the drive in ACTIVE with the brake flagged. -/
theorem DriveInput.govern_stopped {i : DriveInput} (h : i.power = .active)
    (hs : i.stage ∈ [Stage.ident, .cut, .fault] ∨ i.entry.kind = .fullBrake) (d : Drive) :
    i.govern d = ⟨.neutral, none, .brake 1000 true⟩ := by
  rw [stage_stops_iff] at hs
  unfold DriveInput.govern
  rw [if_neg (by simp [h]), if_neg (by simp [h])]
  by_cases stage : i.stage = .ident ∨ i.stage = .cut ∨ i.stage = .fault
  · exact if_pos stage
  · rw [if_neg stage, if_pos (hs.resolve_left stage)]

theorem DriveInput.govern_running {i : DriveInput} (h : i.power = .active) (hs : i.stage ∉ [Stage.ident, .cut, .fault])
    (hk : i.entry.kind ≠ .fullBrake) (d : Drive) :
    i.govern d =
      if d.armed = false then ⟨.neutral, none, i.drag⟩
      else if i.entry.kind = .assist then i.assist
      else i.machine d.dir d.gateTimer := by
  rw [stage_stops_iff] at hs
  unfold DriveInput.govern
  rw [if_neg (by simp [h]), if_neg (by simp [h]), if_neg hs, if_neg hk]

/-! ### The whole update (R85) -/

/-- The drive after the grant and the arming count (R62, R87). -/
def Drive.readied (d : Drive) (grant : Nat) (i : DriveInput) : Drive :=
  (d.applyGrant grant i.settings.stallCurrent).arm i.power i.entry.throttle

/-- The choice of an update. -/
def Drive.choice (d : Drive) (grant : Nat) (i : DriveInput) : DriveChoice := i.govern (d.readied grant i)

theorem Drive.update_eq (d : Drive) (grant : Nat) (i : DriveInput) :
    d.update grant i = ((d.readied grant i).apply (d.choice grant i) i.settings).count.showDrive := rfl

theorem Drive.update_chosen (d : Drive) (grant : Nat) (i : DriveInput) :
    (d.update grant i).dir = (d.choice grant i).dir ∧ (d.update grant i).gateTimer = (d.choice grant i).gate ∧
      (d.update grant i).bridge = (d.choice grant i).want.bridge ∧
      (d.update grant i).brakeFlag = (d.choice grant i).want.flagged :=
  Drive.apply_chosen _ _ _

theorem Drive.showDrive_current (d : Drive) : d.showDrive.ShownCurrent := by
  unfold Drive.ShownCurrent Drive.showDrive
  cases d.gateTimer <;> simp

theorem execDriveUpdateExpiry_eq {s : State} (h : s.au.drive.pending = none ∨ s.drc.dir = .gate) :
    exec .driveUpdateExpiry s = .next s.driveUpdate := by
  show execDriveUpdateExpiry s = _
  unfold execDriveUpdateExpiry
  split
  · rfl
  next hd => rw [State.driveBoundary_none (h.resolve_right hd)]

/-- The update acts on the state that its boundary makes (R6). -/
theorem execDriveUpdateExpiry_boundary {s u : State} (hd : s.drc.dir ≠ .gate) (hb : s.driveBoundary = u)
    (hu : u.au.drive.pending = none) : exec .driveUpdateExpiry s = exec .driveUpdateExpiry u := by
  rw [execDriveUpdateExpiry_eq (.inl hu), ← hb]
  exact if_neg hd

/-- What an update leaves of the drive, whatever governs it, and what its counts come to (R62, R87, R95). -/
theorem Drive.update_fields (d : Drive) (grant : Nat) (i : DriveInput) :
    d.update grant i = { d with
      grant := grant
      cap := dutyCap grant i.settings.stallCurrent
      armed := (d.readied grant i).armed
      armCount := (d.readied grant i).armCount
      dir := (d.update grant i).dir
      gateTimer := (d.update grant i).gateTimer
      requested := (d.update grant i).requested
      present := (d.update grant i).present
      bridge := (d.update grant i).bridge
      brakeFlag := (d.update grant i).brakeFlag
      reverseFlag := decide ((d.update grant i).dir = .reverse)
      neutralCount := if (d.update grant i).dir = .neutral then min 100 (d.neutralCount + 1) else 0
      shownDrive := (d.update grant i).shownDrive } := by
  rw [Drive.update_eq, Drive.apply_eq]
  rfl

theorem Drive.readied_armed (d : Drive) (grant : Nat) (i : DriveInput) :
    (d.readied grant i).armed = true ↔ d.armed = true ∨ (d.readied grant i).armCount = 250 := by
  unfold Drive.readied Drive.arm
  dsimp only
  rw [Bool.or_eq_true, decide_eq_true_iff]
  rfl

/-- An update whose governing condition is known, and does not drive. -/
theorem Drive.update_stopped {d : Drive} {grant : Nat} {i : DriveInput} {want : DriveWant}
    (h : d.choice grant i = ⟨.neutral, none, want⟩) :
    (d.update grant i).dir = .neutral ∧ (d.update grant i).gateTimer = none ∧
      (d.update grant i).bridge = want.bridge ∧ (d.update grant i).brakeFlag = want.flagged := by
  have chosen := d.update_chosen grant i
  rw [h] at chosen
  exact chosen

/-- An update under the direction machine (R90, R91). -/
theorem Drive.update_machine {d : Drive} {grant : Nat} {i : DriveInput}
    (h : d.choice grant i = i.machine d.dir d.gateTimer) (u : Drive) (hu : u = d.update grant i) :
    u.dir = directionAfter i.settings.gateTime d.dir i.entry.throttle ∧
      (u.dir = .gate → d.dir = .gate → u.gateTimer = d.gateTimer) ∧
      (u.dir = .gate → d.dir ≠ .gate → u.gateTimer = some i.settings.gateTime) ∧
      (u.dir ≠ .gate → u.gateTimer = none) ∧
      (u.dir = .forward → u.bridge = .driveForward ∧ u.brakeFlag = false) ∧
      (u.dir = .reverse → u.bridge = .driveReverse ∧ u.brakeFlag = false) ∧
      (i.entry.throttle = 0 → u.bridge = dragAction i.settings.dragStrength ∧ u.brakeFlag = false) ∧
      (i.entry.throttle < 0 → u.dir ≠ .reverse →
        u.bridge = .brake i.entry.throttle.natAbs ∧ u.brakeFlag = true) := by
  obtain ⟨dir, gate, bridge, flag⟩ := d.update_chosen grant i
  have agrees := (i.machine_agrees d.dir d.gateTimer).bridge
  subst hu
  rw [dir, gate, bridge, flag, h, i.machine_gate d.dir d.gateTimer]
  refine ⟨i.machine_dir _ _, fun g b => ?_, fun g b => ?_, fun g => if_neg g, agrees.1, agrees.2, fun zero => ?_,
    fun neg hr => ?_⟩
  · rw [if_pos g, if_pos b]
  · rw [if_pos g, if_neg b]
  · rw [DriveInput.machine_neutral zero]
    exact ⟨rfl, rfl⟩
  · rw [DriveInput.machine_braking neg hr]
    exact ⟨if_neg (by omega), rfl⟩

/-- Settles O46. -/
theorem driveGovernedByTable : Obligations.DriveGovernedByTable := by
  refine ⟨fun s h => ?_, fun s hd => ⟨fun hp hl hh => ?_, fun hp hl hh => ?_, fun hp => ?_, fun hp => ?_⟩, fun d => ?_⟩
  · refine ⟨_, execDriveUpdateExpiry_eq h, rfl, ?_⟩
    have drc : s.driveUpdate.drc = s.drc.update s.bga.drive.grant s.driveInput := rfl
    have fields := s.drc.update_fields s.bga.drive.grant s.driveInput
    have armed : (s.drc.update s.bga.drive.grant s.driveInput).armed =
        (s.drc.readied s.bga.drive.grant s.driveInput).armed := by rw [fields]
    have armCount : (s.drc.update s.bga.drive.grant s.driveInput).armCount =
        (s.drc.readied s.bga.drive.grant s.driveInput).armCount := by rw [fields]
    rw [drc, armed, armCount]
    refine ⟨by rw [fields], by rw [fields]; rfl, rfl, Drive.readied_armed _ _ _, by rw [fields]; simp, by rw [fields],
      by rw [fields], by rw [fields], by rw [fields], by rw [fields], by rw [fields], by rw [fields], by rw [fields],
      Drive.showDrive_current _, fun hf hr => ?_, fun off => ?_, fun parked => ?_,
      fun active => ⟨fun stop => ?_, fun hs hk ha => ?_, fun hs hk ha => ?_⟩⟩
    · obtain ⟨dir, -⟩ := s.drc.update_chosen s.bga.drive.grant s.driveInput
      rw [dir] at hf hr
      exact Drive.apply_idle (s.driveInput.govern_agrees _) hf hr _ _
    · exact Drive.update_stopped (s.driveInput.govern_shutdown off _)
    · exact Drive.update_stopped (s.driveInput.govern_parked parked _)
    · exact Drive.update_stopped (s.driveInput.govern_stopped active stop _)
    · obtain ⟨dir, gate, bridge, flag⟩ :=
        Drive.update_stopped ((s.driveInput.govern_running active hs hk _).trans (if_pos ha))
      exact ⟨dir, gate, flag, bridge⟩
    · have command : s.driveInput.entry.kind = .command := hk
      refine Drive.update_machine ?_ _ rfl
      refine (s.driveInput.govern_running active hs (by rw [command]; decide) _).trans ?_
      rw [if_neg (by simp [ha]), if_neg (by rw [command]; decide)]
      rfl
  · refine execDriveUpdateExpiry_boundary hd ?_ rfl
    unfold State.driveBoundary
    rw [hp]
    refine s.giveDrive_radio hl ?_
    simp only [List.mem_cons, List.not_mem_nil, or_false] at hh
    rcases hh with hh | hh | hh <;> simp [disarms, hh]
  · refine execDriveUpdateExpiry_boundary hd ?_ rfl
    obtain ⟨v, hv⟩ := Option.ne_none_iff_exists'.mp hl
    unfold State.driveBoundary
    rw [hp]
    simp [PendingHolder.holder, State.giveDrive, disarms, hh, hv, State.toRadio, State.disarmedNow, State.drawnIf,
      State.setAu, State.setDrc, radioCommand, driveEntry, AuthRow.taken]
  · refine execDriveUpdateExpiry_boundary hd ?_ rfl
    unfold State.driveBoundary
    rw [hp]
    exact s.giveDrive_noParty none
  · refine execDriveUpdateExpiry_boundary hd ?_ rfl
    unfold State.driveBoundary
    rw [hp]
    rfl
  · unfold Drive.pins
    split <;> simp_all

end Sys2Proof.Machine
end

section
/-! The nine sections of REPORT STATUS (R166), field by field. -/

namespace Sys2Proof.Machine

/-! ### Fields (R166) -/

theorem flagByte_eq (b : Bool) : flagByte b = flagOf b := by cases b <;> rfl

theorem le16_eq (n : Nat) : le16 n = quantity n := rfl

theorem le16Opt_eq (n : Option Nat) : le16Opt n = quantityOr n := by cases n <;> rfl

/-- The low bytes of a signed quantity are those of its residue. -/
theorem leSigned_eq (v : Int) : leSigned v = signedQuantity v := by
  have value : (BitVec.ofInt 16 v).toNat = (v % 65536).toNat := BitVec.toNat_ofInt v
  have small : (v % 65536).toNat < 65536 := by omega
  unfold leSigned le16 signedQuantity byteOf
  congr 1
  · apply BitVec.eq_of_toNat_eq
    rw [BitVec.toNat_ofNat, BitVec.truncate_eq_setWidth, BitVec.toNat_setWidth, value]
    omega
  · congr 1
    apply BitVec.eq_of_toNat_eq
    rw [BitVec.toNat_ofNat, BitVec.truncate_eq_setWidth, BitVec.toNat_setWidth, BitVec.toNat_ushiftRight, value,
      Nat.shiftRight_eq_div_pow]

theorem leSignedOpt_eq (v : Option Int) : leSignedOpt v = signedOr v := by
  cases v with
  | none => rfl
  | some v => exact leSigned_eq v

theorem le16_length (n : Nat) : (le16 n).length = 2 := rfl
theorem le16Opt_length (n : Option Nat) : (le16Opt n).length = 2 := rfl
theorem leSignedOpt_length (v : Option Int) : (leSignedOpt v).length = 2 := by cases v <;> rfl

theorem placeByte_map {α : Type} [BEq α] {names : List α} {place : α → Nat}
    (h : ∀ x, byteOf (place x) = placeIn names x) (o : Option α) : placeByte (o.map place) = placeOr names o := by
  cases o with
  | none => rfl
  | some x => exact h x

/-! ### Named values, in the order of the lists that name them -/

theorem LinkState.place_eq (x : LinkState) :
    byteOf x.place = placeIn [.absent, .live, .hold, .lost, .recovering] x := by cases x <;> rfl
theorem Stage.place_eq (x : Stage) :
    byteOf x.place = placeIn [.ident, .normal, .warn, .limit, .cut, .shutdown, .fault] x := by cases x <;> rfl
theorem PowerState.place_eq (x : PowerState) : byteOf x.place = placeIn [.active, .parked, .shutdown] x := by
  cases x <;> rfl
theorem ResetCause.place_eq (x : ResetCause) : byteOf x.place = placeIn [.powerOn, .brownout, .request] x := by
  cases x <;> rfl
theorem GrantState.place_eq (x : GrantState) : byteOf x.place = placeIn [.full, .partly, .starved] x := by
  cases x <;> rfl
theorem SteerMode.place_eq (x : SteerMode) : byteOf x.place = placeIn [.front, .rear, .counter, .crab] x := by
  cases x <;> rfl
theorem DirState.place_eq (x : DirState) :
    byteOf x.place = placeIn [.neutral, .forward, .brake, .gate, .reverse] x := by cases x <;> rfl
theorem Gear.place_eq (x : Gear) : byteOf x.place = placeIn [.high, .low, .dig] x := by cases x <;> rfl
theorem OpKind.place_eq (x : OpKind) :
    byteOf x.place = placeIn [.payOut, .haulIn, .haulToTension, .home, .assistHaul] x := by cases x <;> rfl
theorem WinchMode.place_eq (x : WinchMode) :
    byteOf x.place = placeIn [.hold, .driven, .operation, .freespool, .jammed] x := by cases x <;> rfl
theorem Overlay.place_eq (x : Overlay) :
    byteOf x.place = placeIn [.fault, .cut, .hazard, .warn, .turn, .brake, .reverse, .beacon, .scene, .off] x := by
  cases x <;> rfl
theorem Attention.place_eq (x : Attention) :
    byteOf x.place = placeIn [.resetOccurred, .packChanged, .defaultsLoaded] x := by cases x <;> rfl
theorem PendingHolder.place_eq (x : PendingHolder) : byteOf x.place = placeIn [.radio, .noParty, .assist] x := by
  cases x <;> rfl
theorem Engine.place_eq (x : Engine) : byteOf x.place = if x = .idle then 0 else 1 := by
  cases x <;> simp [Engine.place, byteOf]

/-! ### Sections -/

theorem AuthRow.report_eq (r : AuthRow) (left : Option Nat) : r.report left = r.fields left := by
  unfold AuthRow.report AuthRow.fields
  rw [placeByte_map PendingHolder.place_eq, le16Opt_eq]
  cases r.holder with
  | auto k => cases k <;> rfl
  | _ => rfl

theorem Receiver.report_eq (b : Receiver) : b.report = b.fields := by
  have slots : b.slots.flatMap le16Opt = b.slots.flatMap quantityOr := congrArg (b.slots.flatMap ·) (funext le16Opt_eq)
  unfold Receiver.report Receiver.fields
  simp only [slots, LinkState.place_eq, le16_eq, le16Opt_eq, leSignedOpt_eq, List.flatten_cons, List.flatten_nil,
    List.append_nil, List.append_assoc]

theorem Battery.report_eq (b : Battery) : b.report = b.fields := by
  unfold Battery.report Battery.fields
  simp only [Stage.place_eq, PowerState.place_eq, ResetCause.place_eq, flagByte_eq, le16_eq, le16Opt_eq]
  simp [Four.get, Battery.used]

theorem Budget.report_eq (b : Budget) : b.report = b.fields := by
  unfold Budget.report Budget.fields BudgetRow.report
  simp only [GrantState.place_eq, flagByte_eq, le16_eq]
  simp

theorem Steering.report_eq (b : Steering) : b.report = b.fields := by
  unfold Steering.report Steering.fields
  simp only [placeByte_map SteerMode.place_eq, SteerMode.place_eq, flagByte_eq, leSigned_eq, le16Opt_eq]
  simp

theorem Drive.report_eq (d : Drive) : d.report = d.fields := by
  have disarmed (b : Bool) : flagOf (!b) = if b then 0 else 1 := by cases b <;> rfl
  unfold Drive.report Drive.fields DriveShown.report ShiftShown.report
  simp only [placeByte_map Gear.place_eq, Gear.place_eq, DirState.place_eq, flagByte_eq, le16_eq, disarmed]
  simp

theorem OpRecord.report_eq (r : OpRecord) : r.report = r.fields := by
  unfold OpRecord.report OpRecord.fields OpRecord.residual
  simp only [OpKind.place_eq, flagByte_eq, le16_eq, le16Opt_eq]
  by_cases tension : r.kind = .haulToTension <;> simp [tension, quantityOr]

theorem WinchShown.report_eq (b : WinchShown) : b.report = b.fields := by
  have unknown : flagOf b.position.isNone = if b.position = none then 1 else 0 := by cases b.position <;> rfl
  have away : flagOf (!b.hookHome) = if b.hookHome then 0 else 1 := by cases b.hookHome <;> rfl
  unfold WinchShown.report WinchShown.fields
  simp only [WinchMode.place_eq, flagByte_eq, le16_eq, le16Opt_eq, unknown, away]
  cases b.record with
  | none => simp [noRecordReport]
  | some r => simp [r.report_eq]

theorem Lights.report_eq (b : Lights) : b.report = b.fields := by
  unfold Lights.report Lights.fields LightOut.report
  simp only [Overlay.place_eq, flagByte_eq, le16_eq, le16Opt_eq]
  simp [Eight.toList, Eight.get]

theorem State.linkReport_eq (s : State) : s.linkReport = s.linkFields := by
  have waits : flagOf s.pli.deferred.isSome = flagOf (s.pli.deferred ≠ none) := by cases s.pli.deferred <;> rfl
  unfold State.linkReport State.linkFields attentionReport
  simp only [placeByte_map Attention.place_eq, Engine.place_eq, flagByte_eq, le16_eq, waits]
  simp

/-! ### The whole answer -/

/-- The time shown on a pit hold deadline of DRIVE, and of STEER in the draw behind it (entry 5). -/
def State.driveLeft (s : State) : Nat := Config.freeBelow 501 s.free
def State.steerLeft (s : State) : Nat := Config.freeBelow 501 (s.free + flagNat s.au.drive.deadline)

theorem Config.freeBelow_le (n k : Nat) : Config.freeBelow (n + 1) k ≤ n :=
  Nat.lt_succ_iff.mp (Nat.mod_lt _ n.succ_pos)

theorem State.report_eq (s : State) {k : Nat} (h : k ≤ 8) :
    s.report k = s.sectionFields s.driveLeft s.steerLeft k := by
  have cases : k = 0 ∨ k = 1 ∨ k = 2 ∨ k = 3 ∨ k = 4 ∨ k = 5 ∨ k = 6 ∨ k = 7 ∨ k = 8 := by omega
  rcases cases with rfl | rfl | rfl | rfl | rfl | rfl | rfl | rfl | rfl
  · show s.au.report s.free = _
    unfold Authority.report
    simp only [AuthRow.report_eq, List.flatten_cons, List.flatten_nil, List.append_nil]
    simp [State.sectionFields, timeLeft, State.driveLeft, State.steerLeft]
  · exact s.rxl.report_eq
  · exact s.bsv.report_eq
  · exact s.bga.report_eq
  · exact s.stc.report_eq
  · exact s.drc.report_eq
  · exact s.wnc.shown.report_eq
  · exact s.ltc.report_eq
  · exact s.linkReport_eq

theorem OpRecord.report_length (r : OpRecord) : r.report.length = 18 := rfl

theorem WinchShown.report_length (b : WinchShown) : b.report.length = 37 := by
  unfold WinchShown.report
  cases b.record <;> rfl

theorem flatMap_length_const {α : Type} {f : α → List Byte} {n : Nat} (h : ∀ x, (f x).length = n) (l : List α) :
    (l.flatMap f).length = l.length * n := by
  rw [List.length_flatMap, List.map_congr_left fun x _ => h x, List.map_const', List.sum_replicate, smul_eq_mul]

/-- Section 1 with the twelve slots of the channel table. -/
theorem Receiver.report_length {b : Receiver} (h : b.slots.length = 12) : b.report.length = 43 := by
  unfold Receiver.report
  simp [flatMap_length_const le16Opt_length, leSignedOpt_length, le16_length, le16Opt_length, h]

/-- The lengths of the sections, in their order. -/
theorem State.report_length {s : State} (h : s.rxl.slots.length = 12) {k : Nat} (hk : k ≤ 8) :
    (s.report k).length = [20, 43, 35, 29, 14, 18, 37, 54, 14].getD k 0 := by
  have cases : k = 0 ∨ k = 1 ∨ k = 2 ∨ k = 3 ∨ k = 4 ∨ k = 5 ∨ k = 6 ∨ k = 7 ∨ k = 8 := by omega
  rcases cases with rfl | rfl | rfl | rfl | rfl | rfl | rfl | rfl | rfl
  · rfl
  · exact Receiver.report_length h
  · rfl
  · rfl
  · rfl
  · rfl
  · exact s.wnc.shown.report_length
  · rfl
  · rfl

/-- A report draws at most the times left; a section other than 0 draws nothing. -/
theorem State.reportDraws_eq (s : State) (k : Nat) :
    ∃ n, s.reportDraws k = { s with free := n } ∧ (k ≠ 0 → n = s.free) := by
  unfold State.reportDraws
  split
  next zero =>
    refine ⟨(State.drawnIf (s.drawnIf s.au.drive.deadline) s.au.steer.deadline).free, ?_, absurd zero⟩
    cases s.au.drive.deadline <;> cases s.au.steer.deadline <;> rfl
  · exact ⟨s.free, rfl, fun _ => rfl⟩

/-- Settles O18. -/
theorem reportStatusAnswers : Obligations.ReportStatusAnswers := by
  intro b k s hg hf slots hp hk
  obtain ⟨n, draws, kept⟩ := s.reportDraws_eq k.toNat
  have answer : reportStatusAnswer b (isLastBlock s.pli.currentBatch b) s =
      .good { s with free := n } (s.report k.toNat) := by
    unfold reportStatusAnswer
    rw [hp, byteParam_eq (Nat.zero_le _) hk, ← draws]
    rfl
  have lengths : (s.report k.toNat).length ≤ 96 := by
    rw [State.report_length slots hk]
    generalize k.toNat = m at hk
    interval_cases m <;> decide
  refine ⟨n, s.report k.toNat, s.driveLeft, s.steerLeft, ?_, State.report_length slots hk, lengths,
    fun h => kept fun zero => h (BitVec.eq_of_toNat_eq zero), Config.freeBelow_le _ _, Config.freeBelow_le _ _,
    s.report_eq hk⟩
  show Host.Outcome.next _ = Host.Outcome.next _
  rw [State.runRequest_exempt (r := .reportStatus) hg (.inr rfl) hf rfl, answer]
  exact congrArg Host.Outcome.next (State.answerBlock_eq { s with free := n } b _ hg)

end Sys2Proof.Machine
end

section
/-! A published frame (R154): what it forms, and what it does to the lights, to a parked part and to each row of AU. -/

namespace Sys2Proof.Machine

/-! ### The commands formed from the channel table (R154 to R156) -/

/-- The dead band of a limited command, taken from its magnitude and its sign (R156, steps 3 and 4). -/
theorem applyDeadBand_clamp (d : Nat) (c : Int) :
    applyDeadBand d (clampCommand c) =
      if min 1000 c.natAbs ≤ d then 0 else c.sign * ((min 1000 c.natAbs - d) * 1000 / (1000 - d) : Nat) := by
  have limited : (max (-1000) (min 1000 c)).natAbs = min 1000 c.natAbs := by omega
  unfold applyDeadBand clampCommand
  rw [limited]
  split
  · rfl
  next beyond =>
    rcases lt_trichotomy c 0 with neg | zero | pos
    · rw [if_pos (by omega), Int.sign_eq_neg_one_of_neg neg, neg_one_mul]
    · subst zero
      exact absurd (Nat.zero_le _) beyond
    · rw [if_neg (by omega), Int.sign_eq_one_of_pos pos, one_mul]

theorem Binding.normalize_eq (b : Binding) (raw : Nat) : b.normalize raw = normalCommand b raw :=
  applyDeadBand_clamp _ _

theorem Receiver.channel_eq (b : Receiver) (x : Binding) : b.channel x.channel = x.raw b.slots b.channels := by
  unfold Receiver.channel Binding.raw Binding.live
  by_cases live : 1 ≤ x.channel ∧ x.channel ≤ b.channels <;> simp [live]

/-! ### The rows in their order, and what stands around them -/

/-- AU's share of a published frame: DRIVE, STEER, GEAR and WINCH (R154). -/
def State.rowsPublished (s : State) (before : Option Int) : State :=
  s.drivePublished.steerPublished.gearPublished.winchPublished before

/-- The lights and the wake follow the rows. -/
theorem State.publish_eq (s : State) (before : Option Int) :
    s.publish before =
      if radioWakes (s.rowsPublished before).w.bsv (s.rowsPublished before).rxl.published then
        ((s.rowsPublished before).setLtc ((s.rowsPublished before).ltc.takePosition
          (s.rowsPublished before).w.ltc.sceneList (s.rowsPublished before).rxl.published.lights)).wake
      else (s.rowsPublished before).setLtc ((s.rowsPublished before).ltc.takePosition
          (s.rowsPublished before).w.ltc.sceneList (s.rowsPublished before).rxl.published.lights) := rfl

/-- What the rows' operations at a frame leave to the lights, to BSV and to the servos. -/
structure State.RowsOnly (s t : State) : Prop where
  rxl : t.rxl = s.rxl
  bsv : t.bsv = s.bsv
  bga : t.bga = s.bga
  ltc : t.ltc = s.ltc
  pst : t.pst = s.pst
  drc : t.drc = s.drc ∨ t.drc = s.drc.disarmed
  unpulsed : t.stc.unpulsed = s.stc.unpulsed

theorem State.RowsOnly.trans {s t u : State} (h : s.RowsOnly t) (k : t.RowsOnly u) : s.RowsOnly u where
  rxl := k.rxl.trans h.rxl
  bsv := k.bsv.trans h.bsv
  bga := k.bga.trans h.bga
  ltc := k.ltc.trans h.ltc
  pst := k.pst.trans h.pst
  drc := by
    rcases k.drc with k | k <;> rcases h.drc with h | h <;> rw [k, h]
    · exact .inl rfl
    · exact .inr rfl
    · exact .inr rfl
    · exact .inr rfl
  unpulsed := k.unpulsed.trans h.unpulsed

theorem State.SteerOnly.rowsOnly {s t : State} (h : s.SteerOnly t) : s.RowsOnly t :=
  ⟨h.rxl, h.bsv, h.bga, h.ltc, h.pst, .inl h.drc, by rw [h.stc]⟩

theorem State.GearOnly.rowsOnly {s t : State} (h : s.GearOnly t) : s.RowsOnly t :=
  ⟨h.rxl, h.bsv, h.bga, h.ltc, h.pst, .inl h.drc, by rw [h.stc]⟩

theorem State.DriveOnly.rowsOnly {s t : State} (h : s.DriveOnly t) (hd : t.drc = s.drc ∨ t.drc = s.drc.disarmed) :
    s.RowsOnly t :=
  ⟨h.rxl, h.bsv, h.bga, h.ltc, h.pst, hd, by rw [h.stc]⟩

theorem State.EndingOnly.rowsOnly {s t : State} (h : s.EndingOnly t) (hu : t.stc.unpulsed = s.stc.unpulsed) :
    s.RowsOnly t :=
  ⟨h.rxl, h.bsv, h.bga, h.ltc, h.pst, .inl h.drc, hu⟩

theorem State.giveDrive_disarms (s : State) (h : Holder) (p : Option PendingHolder) :
    (s.giveDrive h p).drc = s.drc ∨ (s.giveDrive h p).drc = s.drc.disarmed := by
  rw [State.giveDrive_drc]
  split
  · exact .inr rfl
  · exact .inl rfl

theorem State.driveLive_rowsOnly (s : State) : s.RowsOnly s.driveLive := by
  refine s.driveLive_only.rowsOnly ?_
  unfold State.driveLive
  split
  · split
    · exact s.giveDrive_disarms _ _
    · exact .inl rfl
  · exact .inl rfl
  · exact .inl rfl
  · exact .inl rfl

theorem State.drivePublished_rowsOnly (s : State) : s.RowsOnly s.drivePublished := by
  refine s.drivePublished_only.rowsOnly ?_
  unfold State.drivePublished
  split
  · exact s.giveDrive_disarms _ _
  · exact .inl rfl
  · split
    · exact s.giveDrive_disarms _ _
    · exact .inl rfl
  · split <;> exact .inl rfl
  · exact .inl rfl

theorem State.endOperation_unpulsed (s : State) (o : Option SenseKind) :
    (s.endOperation o).stc.unpulsed = s.stc.unpulsed := by
  cases h : s.wnc.record with
  | none => rw [s.endOperation_none o h]
  | some r =>
    rw [State.endOperation_stc o h]
    unfold Steering.recordRemoved
    split <;> rfl

theorem State.radioTakesWinch_unpulsed (s : State) : s.radioTakesWinch.stc.unpulsed = s.stc.unpulsed :=
  State.endOperation_unpulsed _ _

theorem State.winchLive_rowsOnly (s : State) : s.RowsOnly s.winchLive := by
  refine s.winchLive_only.rowsOnly ?_
  unfold State.winchLive
  split
  · split
    · simp
    · rfl
  · exact s.radioTakesWinch_unpulsed
  · exact s.radioTakesWinch_unpulsed
  · rfl

theorem State.winchPublished_rowsOnly (s : State) (before : Option Int) : s.RowsOnly (s.winchPublished before) := by
  refine (s.winchPublished_only before).rowsOnly ?_
  unfold State.winchPublished
  split
  · simp
  · rfl
  · split
    · simp
    · rfl
  · split
    · exact s.radioTakesWinch_unpulsed
    · rfl
  · rfl

theorem State.rowsPublished_only (s : State) (before : Option Int) : s.RowsOnly (s.rowsPublished before) :=
  s.drivePublished_rowsOnly.trans <| (State.steerPublished_only _).rowsOnly.trans <|
    (State.gearPublished_only _).rowsOnly.trans <| State.winchPublished_rowsOnly _ before

theorem State.enterLive_only (s : State) : s.RowsOnly s.enterLive :=
  s.driveLive_rowsOnly.trans <| (State.steerLive_only _).rowsOnly.trans <|
    (State.gearLive_only _).rowsOnly.trans <| State.winchLive_rowsOnly _

/-! ### The lights and the wake (R43, R136) -/

theorem State.publish_ltc (s : State) (before : Option Int) :
    (s.publish before).ltc = s.ltc.takePosition s.w.ltc.sceneList s.rxl.published.lights := by
  have rows := s.rowsPublished_only before
  have w : (s.rowsPublished before).w = s.w := by simp only [State.w, rows.pst]
  rw [State.publish_eq]
  split <;> simp [rows.ltc, rows.rxl, w]

theorem magnitude_lt_iff (n : Nat) (c : Option Int) : n < magnitude c ↔ ∃ v, c = some v ∧ n < v.natAbs := by
  cases c <;> simp [magnitude]

/-- The wake sources of a published frame (R43). -/
theorem radioWakes_iff (b : BsvSettings) (c : Commands) :
    radioWakes b c = true ↔
      b.wakeRadio = true ∧ ((∃ v, c.throttle = some v ∧ 200 < v.natAbs) ∨ ∃ v, c.steer = some v ∧ 200 < v.natAbs) ∨
        b.wakeWinch = true ∧ ∃ v, c.winch = some v ∧ v ≠ 0 := by
  have winch : 0 < magnitude c.winch ↔ ∃ v, c.winch = some v ∧ v ≠ 0 := by
    rw [magnitude_lt_iff]
    simp only [Int.natAbs_pos]
  simp only [radioWakes, Bool.or_eq_true, Bool.and_eq_true, decide_eq_true_eq, magnitude_lt_iff 200, winch]

/-- What a wake leaves of BSV, DRC and STC, stated on the part before the rows moved (R44, R80, R88, R100). -/
theorem State.wake_woken {s t : State} (bsv : t.bsv = s.bsv) (pst : t.pst = s.pst)
    (drc : t.drc = s.drc ∨ t.drc = s.drc.disarmed) (hp : s.bsv.power = .parked) :
    t.wake.bsv = s.woken.bsv ∧ t.wake.drc = s.woken.drc ∧ t.wake.stc.unpulsed = true := by
  have parked : t.bsv.power = .parked := by rw [bsv, hp]
  have w : t.w = s.w := congrArg Store.working pst
  rw [t.wake_bsv, t.wake_drc, t.wake_stc, if_pos parked, if_pos parked, if_pos parked, bsv, w]
  refine ⟨rfl, ?_, rfl⟩
  rcases drc with drc | drc <;> rw [drc] <;> rfl

theorem State.wake_awake {s : State} (h : s.bsv.power ≠ .parked) : s.wake = s := if_neg h

/-- The rows and the lights of a published frame. -/
def State.litPublished (s : State) (before : Option Int) : State :=
  (s.rowsPublished before).setLtc ((s.rowsPublished before).ltc.takePosition
    (s.rowsPublished before).w.ltc.sceneList (s.rowsPublished before).rxl.published.lights)

theorem State.publish_wakes (s : State) (before : Option Int) :
    s.publish before =
      if radioWakes s.w.bsv s.rxl.published then (s.litPublished before).wake else s.litPublished before := by
  have rows := s.rowsPublished_only before
  have w : (s.rowsPublished before).w = s.w := by simp only [State.w, rows.pst]
  rw [State.publish_eq, w, rows.rxl]
  unfold State.litPublished
  rw [w, rows.rxl]

/-- What a published frame does beside the rows, from a part whose rows may have moved at the entry to LIVE. -/
theorem State.publish_framePublished {s u : State} {b : Receiver} (rows : (s.setRxl b).RowsOnly u)
    (formed : b.published = formCommands s.w.rxl b.slots b.channels) (before : Option Int) :
    s.FramePublished (u.publish before) := by
  have rxl : (u.publish before).rxl = b := (u.publish_rxl before).trans rows.rxl
  have w : u.w = s.w := congrArg Store.working rows.pst
  have settings : s.pst.working = s.w := rfl
  have lit := rows.trans (u.rowsPublished_only before)
  have bsv : (u.litPublished before).bsv = s.bsv := lit.bsv
  have unpulsed : (u.litPublished before).stc.unpulsed = s.stc.unpulsed := lit.unpulsed
  have published := u.publish_wakes before
  rw [w, rows.rxl, State.setRxl_rxl] at published
  unfold State.FramePublished
  rw [rxl, settings]
  refine ⟨?_, ?_, fun hl => ?_, fun i hl => ?_, fun hp => ?_, fun hp => ?_, ?_, ?_⟩
  · intro x now h
    simp only [List.mem_cons, Prod.mk.injEq, List.not_mem_nil, or_false] at h
    rw [← funext fun raw => x.normalize_eq raw, Receiver.channel_eq]
    rcases h with ⟨rfl, rfl⟩ | ⟨rfl, rfl⟩ | ⟨rfl, rfl⟩ <;> rw [formed] <;> rfl
  · intro x now h
    simp only [List.mem_cons, Prod.mk.injEq, List.not_mem_nil, or_false] at h
    simp only [← x.normalize_eq, Receiver.channel_eq]
    rcases h with ⟨rfl, rfl⟩ | ⟨rfl, rfl⟩ | ⟨rfl, rfl⟩ <;> rw [formed] <;> rfl
  · rw [State.publish_ltc, rows.rxl, rows.ltc, State.setRxl_rxl, hl]
    rfl
  · rw [State.publish_ltc, rows.rxl, rows.ltc, State.setRxl_rxl, hl, w]
    rfl
  · rw [← radioWakes_iff, published]
    by_cases wakes : radioWakes s.w.bsv b.published = true
    · obtain ⟨wokenBsv, wokenDrc, first⟩ := State.wake_woken (t := u.litPublished before) bsv lit.pst lit.drc hp
      rw [if_pos wakes, wokenBsv]
      exact ⟨⟨fun _ => wakes, fun _ => rfl⟩, fun _ => ⟨rfl, wokenDrc, first⟩⟩
    · rw [if_neg wakes, bsv, hp]
      exact ⟨⟨fun h => absurd h (by decide), fun h => absurd h wakes⟩, fun h => absurd h (by decide)⟩
  · have awake : (u.litPublished before).wake = u.litPublished before := State.wake_awake (by rwa [bsv])
    rw [published, awake, ite_self]
    exact ⟨bsv, unpulsed⟩
  · rw [published]
    split
    · exact (State.wake_bga _).trans lit.bga
    · exact lit.bga
  · rw [published]
    split
    · exact (State.wake_pst _).trans lit.pst
    · exact lit.pst

end Sys2Proof.Machine
end

section
/-! Each row of AU at a published frame, by its holder (R3, R9, R16 to R18). -/

namespace Sys2Proof.Machine

/-! ### DRIVE -/

/-- The DRIVE row at the end of an assisted haul, if it ends (R18). -/
def AuthRow.cutShort (r : AuthRow) (cut ready : Bool) : AuthRow := if cut then r.afterAssist ready else r

theorem AuthRow.cutShort_other {r : AuthRow} (h : r.holder ≠ .auto .assist) (cut ready : Bool) :
    r.cutShort cut ready = { r with pending := if r.pending = some .assist ∧ cut = true then none else r.pending } := by
  unfold AuthRow.cutShort AuthRow.afterAssist
  rw [if_neg h]
  cases cut <;> simp

/-- An AUTO(ASSIST) row that has a pending holder keeps it (R18). -/
theorem AuthRow.cutShort_owed {r : AuthRow} (h : r.holder = .auto .assist) (hp : r.pending ≠ none) (cut ready : Bool) :
    r.cutShort cut ready = r := by
  unfold AuthRow.cutShort AuthRow.afterAssist
  rw [if_pos h, if_neg hp]
  exact ite_self r

theorem State.drivePublished_dark {s : State} (hh : s.au.drive.holder = .radio) (hc : s.rxl.published.throttle = none) :
    s.drivePublished = s.toNone .drive s.au.drive.pending := by
  unfold State.drivePublished
  rw [hh, hc]
  exact s.giveDrive_noParty _

theorem State.drivePublished_heard {s : State} {v : Int} (hh : s.au.drive.holder = .radio)
    (hc : s.rxl.published.throttle = some v) :
    s.drivePublished.au.drive =
        { s.au.drive with
          pending := if v ≠ 0 ∧ s.au.drive.pending = some .assist then none else s.au.drive.pending } ∧
      s.drivePublished.au.image.drive = ⟨.command, v⟩ := by
  unfold State.drivePublished
  rw [hc]
  simp only [hh]
  refine ⟨?_, rfl⟩
  split
  · rfl
  · exact congrArg (fun h => (⟨h, s.au.drive.pending, s.au.drive.deadline⟩ : AuthRow)) hh

theorem State.drivePublished_heardDrc {s : State} {v : Int} (hh : s.au.drive.holder = .radio)
    (hc : s.rxl.published.throttle = some v) : s.drivePublished.drc = s.drc := by
  unfold State.drivePublished
  rw [hh, hc]
  rfl

theorem State.drivePublished_adopted {s : State} {v : Int} (hh : s.au.drive.holder = .noParty)
    (hp : s.au.drive.pending = none) (hc : s.rxl.published.throttle = some v) :
    s.drivePublished = s.toRadio .drive := by
  unfold State.drivePublished
  rw [hh, hc, hp]
  exact s.giveDrive_radio (by simp [hc]) (by simp [disarms, hh])

theorem State.drivePublished_idle {s : State} (hh : s.au.drive.holder = .noParty)
    (hc : s.au.drive.pending ≠ none ∨ s.rxl.published.throttle = none) : s.drivePublished = s := by
  unfold State.drivePublished
  rw [hh]
  cases hv : s.rxl.published.throttle with
  | none => rfl
  | some v => exact if_neg (by simpa [hv] using hc)

theorem State.drivePublished_held {s : State} (hh : s.au.drive.holder ∈ [Holder.pit, .auto .failsafe]) :
    s.drivePublished = s := by
  simp only [List.mem_cons, List.not_mem_nil, or_false] at hh
  unfold State.drivePublished
  rcases hh with hh | hh <;> rw [hh]

/-- The throttle beyond 300 takes an assist back (R17). -/
theorem State.drivePublished_beyond {s : State} {v : Int} (hh : s.au.drive.holder = .auto .assist)
    (hc : s.rxl.published.throttle = some v) (hv : 300 < v.natAbs) :
    s.drivePublished = s.setAu { s.au with drive := { s.au.drive with pending := some .radio } } := by
  unfold State.drivePublished
  rw [hh, hc]
  exact if_pos hv

theorem State.drivePublished_within {s : State} (hh : s.au.drive.holder = .auto .assist)
    (hc : ∀ v, s.rxl.published.throttle = some v → v.natAbs ≤ 300) : s.drivePublished = s := by
  unfold State.drivePublished
  rw [hh]
  cases hv : s.rxl.published.throttle with
  | none => rfl
  | some v => exact if_neg (Nat.not_lt.mpr (hc v hv))

/-- The entry of an AUTO(ASSIST) row stays (R17). -/
theorem State.drivePublished_imageAssist {s : State} (hh : s.au.drive.holder = .auto .assist) :
    s.drivePublished.au.image.drive = s.au.image.drive := by
  unfold State.drivePublished
  rw [hh]
  cases s.rxl.published.throttle with
  | none => rfl
  | some v =>
    dsimp only
    split <;> rfl

/-! ### STEER -/

theorem State.steerPublished_dark {s : State} (hh : s.au.steer.holder = .radio) (hc : s.rxl.published.steer = none) :
    s.steerPublished = s.toNone .steer s.au.steer.pending := by
  unfold State.steerPublished
  rw [hh, hc]
  exact s.giveSteer_noParty _

theorem State.steerPublished_heard {s : State} {v : Int}
    (hh : s.au.steer.holder = .radio ∨ s.au.steer.holder = .noParty ∧ s.au.steer.pending = none)
    (hc : s.rxl.published.steer = some v) :
    s.steerPublished.au.steer.holder = .radio ∧
      s.steerPublished.au.image.steer = ⟨v, false, match s.rxl.published.steerMode with
        | some i => s.pst.working.stc.modeList.get i
        | none => s.au.image.steer.mode⟩ := by
  unfold State.steerPublished
  rcases hh with hh | ⟨hh, hp⟩
  · simp only [hh, hc]
    refine ⟨hh, ?_⟩
    cases s.rxl.published.steerMode <;> rfl
  · simp only [hh, hc, hp, Option.isNone_none, if_true, s.giveSteer_radio (by simp [hc])]
    refine ⟨rfl, ?_⟩
    unfold State.toRadio
    rw [hc]
    cases s.rxl.published.steerMode <;> rfl

theorem State.steerPublished_held {s : State} (hh : s.au.steer.holder ∈ [Holder.pit, .auto .failsafe]) :
    s.steerPublished = s := by
  simp only [List.mem_cons, List.not_mem_nil, or_false] at hh
  unfold State.steerPublished
  rcases hh with hh | hh <;> rw [hh]

theorem State.steerPublished_idle {s : State} (hh : s.au.steer.holder = .noParty) (hc : s.rxl.published.steer = none) :
    s.steerPublished = s := by
  unfold State.steerPublished
  rw [hh, hc]

/-! ### GEAR -/

theorem State.gearPublished_dark {s : State} (hh : s.au.gear.holder = .radio) (hc : s.rxl.published.gear = none) :
    s.gearPublished = s.toNone .gear s.au.gear.pending := by
  unfold State.gearPublished
  rw [hh, hc]
  exact s.giveGear_noParty _

theorem gearOf_eq (i : SwitchPos) : gearOf i = if i = 0 then .high else if i = 1 then .low else .dig := by
  fin_cases i <;> rfl

theorem State.gearPublished_heard {s : State} {i : SwitchPos}
    (hh : s.au.gear.holder = .radio ∨ s.au.gear.holder = .noParty ∧ s.au.gear.pending = none)
    (hc : s.rxl.published.gear = some i) :
    s.gearPublished.au.gear.holder = .radio ∧
      s.gearPublished.au.image.gear = some (if i = 0 then .high else if i = 1 then .low else .dig) := by
  rw [← gearOf_eq]
  unfold State.gearPublished
  rcases hh with hh | ⟨hh, hp⟩
  · simp only [hh, hc]
    exact ⟨hh, rfl⟩
  · simp only [hh, hc, hp, Option.isNone_none, if_true, State.giveGear_au]
    exact ⟨rfl, rfl⟩

theorem State.gearPublished_held {s : State} (hh : s.au.gear.holder ∈ [Holder.pit, .auto .failsafe]) :
    s.gearPublished = s := by
  simp only [List.mem_cons, List.not_mem_nil, or_false] at hh
  unfold State.gearPublished
  rcases hh with hh | hh <;> rw [hh]

theorem State.gearPublished_idle {s : State} (hh : s.au.gear.holder = .noParty) (hc : s.rxl.published.gear = none) :
    s.gearPublished = s := by
  unfold State.gearPublished
  rw [hh, hc]

/-! ### WINCH -/

theorem leavesNeutral_iff (before now : Option Int) :
    leavesNeutral before now = true ↔ before = some 0 ∧ ∃ v, now = some v ∧ v ≠ 0 := by
  unfold leavesNeutral
  split
  · simp
  next h =>
    refine ⟨fun k => absurd k (by simp), fun ⟨hb, v, hn, _⟩ => ?_⟩
    exact absurd hn (h v hb)

/-- The stick's leaving neutral takes the winch from the pit (R16). -/
def State.takesWinch (s : State) (before : Option Int) : Bool :=
  s.au.winch.holder = .pit && s.au.winch.pending = none && leavesNeutral before s.rxl.published.winch

theorem State.takesWinch_iff (s : State) (before : Option Int) :
    s.takesWinch before = true ↔
      s.au.winch.holder = .pit ∧ s.au.winch.pending = none ∧ before = some 0 ∧
        ∃ v, s.rxl.published.winch = some v ∧ v ≠ 0 := by
  simp only [State.takesWinch, Bool.and_eq_true, decide_eq_true_eq, leavesNeutral_iff, and_assoc]

theorem State.winchPublished_taken {s : State} {before : Option Int} (h : s.takesWinch before = true) :
    s.winchPublished before = s.radioTakesWinch := by
  simp only [State.takesWinch, Bool.and_eq_true, decide_eq_true_eq] at h
  obtain ⟨⟨hh, hp⟩, leaves⟩ := h
  unfold State.winchPublished
  rw [hh]
  cases hw : s.rxl.published.winch <;> exact if_pos ⟨hw ▸ leaves, by rw [hp]; rfl⟩

theorem State.winchPublished_pit {s : State} {before : Option Int} (hh : s.au.winch.holder = .pit)
    (h : s.takesWinch before = false) : s.winchPublished before = s := by
  have stays : ¬(leavesNeutral before s.rxl.published.winch = true ∧ s.au.winch.pending.isNone = true) := by
    rintro ⟨leaves, hp⟩
    rw [State.takesWinch, hh, Option.isNone_iff_eq_none.mp hp, leaves] at h
    exact absurd h (by decide)
  unfold State.winchPublished
  rw [hh]
  cases hw : s.rxl.published.winch <;> exact if_neg (hw ▸ stays)

/-- Unless the radio takes the winch, WNC and PLI and the DRIVE row do not hear of the frame. -/
theorem State.winchPublished_keeps {s : State} {before : Option Int} (h : s.takesWinch before = false) :
    (s.winchPublished before).au.drive = s.au.drive ∧ (s.winchPublished before).wnc = s.wnc ∧
      (s.winchPublished before).pli = s.pli := by
  by_cases hh : s.au.winch.holder = .pit
  · rw [State.winchPublished_pit hh h]
    exact ⟨rfl, rfl, rfl⟩
  · unfold State.winchPublished
    split
    · simp [State.giveWinch_au]
    · exact ⟨rfl, rfl, rfl⟩
    · split
      · simp [State.giveWinch_au]
      · exact ⟨rfl, rfl, rfl⟩
    next pit => exact absurd pit hh
    · exact ⟨rfl, rfl, rfl⟩

theorem State.winchPublished_dark {s : State} (hh : s.au.winch.holder = .radio) (hc : s.rxl.published.winch = none)
    (before : Option Int) : s.winchPublished before = s.toNone .winch none := by
  unfold State.winchPublished
  rw [hh, hc]
  exact s.giveWinch_noParty

theorem State.winchPublished_heard {s : State} {v : Int}
    (hh : s.au.winch.holder = .radio ∨ s.au.winch.holder = .noParty ∧ s.au.winch.pending = none)
    (hc : s.rxl.published.winch = some v) (before : Option Int) :
    (s.winchPublished before).au.winch.holder = .radio ∧ (s.winchPublished before).au.image.winch = ⟨.speed, v⟩ := by
  unfold State.winchPublished
  rcases hh with hh | ⟨hh, hp⟩
  · simp only [hh, hc]
    exact ⟨hh, rfl⟩
  · simp only [hh, hc, hp, Option.isNone_none, if_true, State.giveWinch_au]
    exact ⟨rfl, rfl⟩

theorem State.winchPublished_failsafe {s : State} (hh : s.au.winch.holder = .auto .failsafe) (before : Option Int) :
    s.winchPublished before = s := by
  unfold State.winchPublished
  rw [hh]

theorem State.winchPublished_idle {s : State} (hh : s.au.winch.holder = .noParty) (hc : s.rxl.published.winch = none)
    (before : Option Int) : s.winchPublished before = s := by
  unfold State.winchPublished
  rw [hh, hc]

/-- The DRIVE row at an ending: that of an assisted haul gives it its pending holder (R18). -/
theorem State.endOperation_drive (s : State) (o : Option SenseKind) :
    (s.endOperation o).au.drive = s.au.drive.cutShort s.wnc.assisting s.throttleReady := by
  unfold AuthRow.cutShort Winch.assisting
  cases hr : s.wnc.record with
  | none => rw [State.endOperation_none _ _ hr]; rfl
  | some r =>
    rw [State.endOperation_au _ hr, Authority.recordRemoved_drive, AuthRow.assistOver_eq]
    by_cases kind : r.kind = .assistHaul <;> simp [kind]

theorem State.radioTakesWinch_drive (s : State) :
    s.radioTakesWinch.au.drive = s.au.drive.cutShort s.wnc.assisting s.throttleReady :=
  State.endOperation_drive _ _

theorem State.winchPublished_drive (s : State) (before : Option Int) :
    (s.winchPublished before).au.drive =
      s.au.drive.cutShort (s.takesWinch before && s.wnc.assisting) s.throttleReady := by
  cases h : s.takesWinch before with
  | true => rw [State.winchPublished_taken h, State.radioTakesWinch_drive, Bool.true_and]
  | false => exact (State.winchPublished_keeps h).1

/-! ### The rows of the whole frame -/

/-- The part when a published frame comes to its WINCH row. -/
def State.beforeWinch (s : State) : State := s.drivePublished.steerPublished.gearPublished

/-- What WINCH at a published frame reads is as it was before the other rows moved. -/
theorem State.beforeWinch_only (s : State) :
    s.beforeWinch.rxl = s.rxl ∧ s.beforeWinch.wnc = s.wnc ∧ s.beforeWinch.pli = s.pli ∧ s.beforeWinch.stc = s.stc ∧
      s.beforeWinch.bsv = s.bsv ∧ s.beforeWinch.au.winch = s.au.winch ∧ s.beforeWinch.au.winchTimer = s.au.winchTimer ∧
      s.beforeWinch.au.image.winch = s.au.image.winch := by
  have drive := s.drivePublished_only
  have steer := s.drivePublished.steerPublished_only
  have gear := s.drivePublished.steerPublished.gearPublished_only
  unfold State.beforeWinch
  rw [gear.rxl, gear.wnc, gear.pli, gear.stc, gear.bsv, gear.winch, gear.winchTimer, gear.imageWinch, steer.rxl,
    steer.wnc, steer.pli, steer.stc, steer.bsv, steer.winch, steer.winchTimer, steer.imageWinch]
  exact ⟨drive.rxl, drive.wnc, drive.pli, drive.stc, drive.bsv, drive.winch, drive.winchTimer, drive.imageWinch⟩

theorem State.beforeWinch_takesWinch (s : State) (before : Option Int) :
    s.beforeWinch.takesWinch before = s.takesWinch before := by
  obtain ⟨rxl, -, -, -, -, winch, -, -⟩ := s.beforeWinch_only
  unfold State.takesWinch
  rw [rxl, winch]

theorem State.publish_winchRow (s : State) (before : Option Int) :
    (s.publish before).au = (s.beforeWinch.winchPublished before).au := s.publish_au before

theorem State.publish_drive (s : State) (before : Option Int) :
    (s.publish before).au.drive =
        s.drivePublished.au.drive.cutShort (s.takesWinch before && s.wnc.assisting) s.throttleReady ∧
      (s.publish before).au.image.drive = s.drivePublished.au.image.drive := by
  obtain ⟨rxl, wnc, -⟩ := s.beforeWinch_only
  have row : s.beforeWinch.au.drive = s.drivePublished.au.drive :=
    (State.gearPublished_only _).drive.trans (State.steerPublished_only _).drive
  have ready : s.beforeWinch.throttleReady = s.throttleReady := by
    unfold State.throttleReady
    rw [rxl]
  rw [State.publish_winchRow]
  refine ⟨?_, ?_⟩
  · rw [State.winchPublished_drive, row, s.beforeWinch_takesWinch, wnc, ready]
  · rw [(State.winchPublished_only _ _).imageDrive]
    exact (State.gearPublished_only _).imageDrive.trans (State.steerPublished_only _).imageDrive

theorem State.publish_steer (s : State) (before : Option Int) :
    (s.publish before).au.steer = s.drivePublished.steerPublished.au.steer ∧
      (s.publish before).au.image.steer = s.drivePublished.steerPublished.au.image.steer := by
  rw [State.publish_winchRow, (State.winchPublished_only _ _).steer, (State.winchPublished_only _ _).imageSteer]
  exact ⟨(State.gearPublished_only _).steer, (State.gearPublished_only _).imageSteer⟩

/-- Without a live binding the radio's STEER row goes to nobody (R9). -/
theorem State.publish_steerDark {s : State} (hh : s.au.steer.holder = .radio) (hc : s.rxl.published.steer = none)
    (before : Option Int) :
    (s.publish before).au.steer = ⟨.noParty, s.au.steer.pending, false⟩ ∧
      (s.publish before).au.image.steer = ⟨0, false, s.au.image.steer.mode⟩ := by
  have drive := s.drivePublished_only
  obtain ⟨row, entry⟩ := s.publish_steer before
  rw [row, entry, State.steerPublished_dark (by rw [drive.steer]; exact hh) (by rw [drive.rxl]; exact hc), ← drive.steer,
    ← drive.imageSteer]
  exact ⟨rfl, rfl⟩

/-- The radio's steer reaches its own row, and one that nobody holds or waits for (R3, R9). -/
theorem State.publish_steerHeard {s : State} {v : Int}
    (hh : s.au.steer.holder = .radio ∨ s.au.steer.holder = .noParty ∧ s.au.steer.pending = none)
    (hc : s.rxl.published.steer = some v) (before : Option Int) :
    (s.publish before).au.steer.holder = .radio ∧
      (s.publish before).au.image.steer = ⟨v, false, match s.rxl.published.steerMode with
        | some i => s.pst.working.stc.modeList.get i
        | none => s.au.image.steer.mode⟩ := by
  have drive := s.drivePublished_only
  have heard := State.steerPublished_heard (s := s.drivePublished) (by rw [drive.steer]; exact hh)
    (by rw [drive.rxl]; exact hc)
  obtain ⟨row, entry⟩ := s.publish_steer before
  rw [drive.rxl, drive.imageSteer, drive.pst] at heard
  rw [row, entry]
  exact heard

theorem State.publish_steerKept {s : State}
    (hh : s.au.steer.holder ∈ [Holder.pit, .auto .failsafe] ∨
      s.au.steer.holder = .noParty ∧ s.rxl.published.steer = none) (before : Option Int) :
    (s.publish before).au.steer = s.au.steer ∧ (s.publish before).au.image.steer = s.au.image.steer := by
  have drive := s.drivePublished_only
  have kept : s.drivePublished.steerPublished = s.drivePublished := by
    rcases hh with hh | ⟨hh, hc⟩
    · exact State.steerPublished_held (by rw [drive.steer]; exact hh)
    · exact State.steerPublished_idle (by rw [drive.steer]; exact hh) (by rw [drive.rxl]; exact hc)
  obtain ⟨row, entry⟩ := s.publish_steer before
  rw [row, entry, kept]
  exact ⟨drive.steer, drive.imageSteer⟩

/-- The part when a published frame comes to its GEAR row. -/
def State.beforeGear (s : State) : State := s.drivePublished.steerPublished

/-- What GEAR at a published frame reads is as it was before DRIVE and STEER moved. -/
theorem State.beforeGear_only (s : State) :
    s.beforeGear.rxl = s.rxl ∧ s.beforeGear.au.gear = s.au.gear ∧ s.beforeGear.au.image.gear = s.au.image.gear := by
  have drive := s.drivePublished_only
  have steer := s.drivePublished.steerPublished_only
  exact ⟨steer.rxl.trans drive.rxl, steer.gear.trans drive.gear, steer.imageGear.trans drive.imageGear⟩

theorem State.publish_gear (s : State) (before : Option Int) :
    (s.publish before).au.gear = s.beforeGear.gearPublished.au.gear ∧
      (s.publish before).au.image.gear = s.beforeGear.gearPublished.au.image.gear := by
  rw [State.publish_winchRow]
  exact ⟨(State.winchPublished_only _ _).gear, (State.winchPublished_only _ _).imageGear⟩

theorem State.publish_gearDark {s : State} (hh : s.au.gear.holder = .radio) (hc : s.rxl.published.gear = none)
    (before : Option Int) :
    (s.publish before).au.gear = ⟨.noParty, s.au.gear.pending, false⟩ ∧ (s.publish before).au.image.gear = none := by
  obtain ⟨rxl, gear, -⟩ := s.beforeGear_only
  obtain ⟨row, entry⟩ := s.publish_gear before
  rw [row, entry, State.gearPublished_dark (by rw [gear]; exact hh) (by rw [rxl]; exact hc), ← gear]
  exact ⟨rfl, rfl⟩

theorem State.publish_gearHeard {s : State} {i : SwitchPos}
    (hh : s.au.gear.holder = .radio ∨ s.au.gear.holder = .noParty ∧ s.au.gear.pending = none)
    (hc : s.rxl.published.gear = some i) (before : Option Int) :
    (s.publish before).au.gear.holder = .radio ∧
      (s.publish before).au.image.gear = some (if i = 0 then .high else if i = 1 then .low else .dig) := by
  obtain ⟨rxl, gear, -⟩ := s.beforeGear_only
  obtain ⟨row, entry⟩ := s.publish_gear before
  rw [row, entry]
  exact State.gearPublished_heard (by rw [gear]; exact hh) (by rw [rxl]; exact hc)

theorem State.publish_gearKept {s : State}
    (hh : s.au.gear.holder ∈ [Holder.pit, .auto .failsafe] ∨ s.au.gear.holder = .noParty ∧ s.rxl.published.gear = none)
    (before : Option Int) :
    (s.publish before).au.gear = s.au.gear ∧ (s.publish before).au.image.gear = s.au.image.gear := by
  obtain ⟨rxl, gear, imageGear⟩ := s.beforeGear_only
  obtain ⟨row, entry⟩ := s.publish_gear before
  have kept : s.beforeGear.gearPublished = s.beforeGear := by
    rcases hh with hh | ⟨hh, hc⟩
    · exact State.gearPublished_held (by rw [gear]; exact hh)
    · exact State.gearPublished_idle (by rw [gear]; exact hh) (by rw [rxl]; exact hc)
  rw [row, entry, kept]
  exact ⟨gear, imageGear⟩

theorem State.publish_winchDark {s : State} (hh : s.au.winch.holder = .radio) (hc : s.rxl.published.winch = none)
    (before : Option Int) :
    (s.publish before).au.winch = ⟨.noParty, none, false⟩ ∧ (s.publish before).au.image.winch = ⟨.hold, 0⟩ := by
  obtain ⟨rxl, -, -, -, -, winch, -, -⟩ := s.beforeWinch_only
  rw [State.publish_winchRow, State.winchPublished_dark (by rw [winch]; exact hh) (by rw [rxl]; exact hc)]
  exact ⟨rfl, rfl⟩

theorem State.publish_winchHeard {s : State} {v : Int}
    (hh : s.au.winch.holder = .radio ∨ s.au.winch.holder = .noParty ∧ s.au.winch.pending = none)
    (hc : s.rxl.published.winch = some v) (before : Option Int) :
    (s.publish before).au.winch.holder = .radio ∧ (s.publish before).au.image.winch = ⟨.speed, v⟩ := by
  obtain ⟨rxl, -, -, -, -, winch, -, -⟩ := s.beforeWinch_only
  rw [State.publish_winchRow]
  exact State.winchPublished_heard (by rw [winch]; exact hh) (by rw [rxl]; exact hc) _

/-- DRC after a published frame, whose wake disarms it (R88). -/
theorem State.publish_disarmed {s : State} (h : s.drivePublished.drc.armed = false) (before : Option Int) :
    (s.publish before).drc.armed = false := by
  have rows : (s.litPublished before).drc = s.drivePublished.drc :=
    (State.winchPublished_only _ _).drc.trans <| (State.gearPublished_only _).drc.trans (State.steerPublished_only _).drc
  rw [State.publish_wakes]
  split
  · rw [State.wake_drc]
    split
    · rfl
    · rw [rows]; exact h
  · rw [rows]; exact h

end Sys2Proof.Machine
end

section
/-! A new frame in LIVE and its rows (R9, R153 to R156). -/

namespace Sys2Proof.Machine

theorem State.publish_pli (s : State) (before : Option Int) :
    (s.publish before).pli = (s.beforeWinch.winchPublished before).pli := by
  rw [State.publish_wakes]
  split
  · exact State.wake_pli _
  · rfl

/-- A wake leaves the assist restraint (R72, R80). -/
theorem State.publish_restraint (s : State) (before : Option Int) :
    (s.publish before).stc.restraint = (s.beforeWinch.winchPublished before).stc.restraint := by
  rw [State.publish_wakes]
  split
  · rw [State.wake_stc]
    split <;> rfl
  · rfl

/-- The operation in flight when the radio takes the winch (R119, R127). -/
theorem State.radioTakesWinch_ended {s : State} {r : OpRecord} (hr : s.wnc.record = some r) :
    s.radioTakesWinch.wnc.present = 0 ∧ s.radioTakesWinch.pli = s.pli.withResult r (some .radioTakeover) ∧
      (r.kind = .assistHaul → s.radioTakesWinch.stc.restraint = false) := by
  unfold State.radioTakesWinch
  rw [State.endOperation_wnc (r := r) _ (by exact hr), State.endOperation_pli (r := r) _ (by exact hr),
    State.endOperation_stc (r := r) _ (by exact hr), PitLink.operationEnded_eq, Winch.homed_of_outcome]
  refine ⟨rfl, rfl, fun kind => ?_⟩
  unfold Steering.recordRemoved
  rw [if_pos kind]

/-- A WINCH row that the frame neither takes nor moves. -/
theorem State.publish_winchKept {s : State} {before : Option Int}
    (hh : s.au.winch.holder ∈ [Holder.pit, .auto .failsafe] ∨
      s.au.winch.holder = .noParty ∧ s.rxl.published.winch = none) (h : s.takesWinch before = false) :
    (s.publish before).au.winch = s.au.winch ∧ (s.publish before).au.winchTimer = s.au.winchTimer ∧
      (s.publish before).au.image.winch = s.au.image.winch ∧ (s.publish before).wnc = s.wnc ∧
      (s.publish before).pli = s.pli := by
  obtain ⟨rxl, wnc, pli, -, -, winch, timer, entry⟩ := s.beforeWinch_only
  have kept : s.beforeWinch.winchPublished before = s.beforeWinch := by
    simp only [List.mem_cons, List.not_mem_nil, or_false] at hh
    rcases hh with (hh | hh) | ⟨hh, hc⟩
    · exact State.winchPublished_pit (by rw [winch]; exact hh) ((s.beforeWinch_takesWinch before).trans h)
    · exact State.winchPublished_failsafe (by rw [winch]; exact hh) _
    · exact State.winchPublished_idle (by rw [winch]; exact hh) (by rw [rxl]; exact hc) _
  have publishWnc : (s.publish before).wnc = (s.beforeWinch.winchPublished before).wnc := s.publish_wnc before
  rw [State.publish_winchRow, publishWnc, State.publish_pli, kept]
  exact ⟨winch, timer, entry, wnc, pli⟩

/-- A published frame that takes the winch from the pit (R16, R127). -/
theorem State.publish_winchTaken {s : State} {before : Option Int} (h : s.takesWinch before = true) :
    (s.publish before).au.winch = { s.au.winch with pending := some .radio } ∧
      (s.publish before).au.winchTimer = true ∧ (s.publish before).wnc.record = none ∧
      (s.wnc.record ≠ none →
        (s.publish before).au.image.winch = ⟨.hold, 0⟩ ∧ (s.publish before).wnc.present = 0) ∧
      ∀ r, s.wnc.record = some r → (s.publish before).pli = s.pli.withResult r (some .radioTakeover) ∧
        (r.kind = .assistHaul → (s.publish before).stc.restraint = false) := by
  obtain ⟨-, wnc, pli, -, -, winch, -, -⟩ := s.beforeWinch_only
  obtain ⟨pit, empty, -⟩ := (s.takesWinch_iff before).mp h
  have publishWnc : (s.publish before).wnc = (s.beforeWinch.winchPublished before).wnc := s.publish_wnc before
  rw [State.publish_winchRow, publishWnc, State.publish_pli, State.publish_restraint,
    State.winchPublished_taken ((s.beforeWinch_takesWinch before).trans h), State.radioTakesWinch_winch,
    State.radioTakesWinch_winchTimer, State.radioTakesWinch_imageWinch, winch, wnc, ← pli]
  refine ⟨rfl, by rw [empty]; simp, State.radioTakesWinch_record _, fun hr => ⟨if_pos ⟨hr, pit⟩, ?_⟩, fun r hr => ?_⟩
  · obtain ⟨r, hr⟩ := Option.ne_none_iff_exists'.mp hr
    exact (State.radioTakesWinch_ended (wnc ▸ hr)).1
  · exact (State.radioTakesWinch_ended (wnc ▸ hr)).2

/-- A new frame that takes the link to LIVE, or finds it there, is published from the part that AU's report leaves. -/
theorem State.takeFrame_published {s : State} {f : ReceiverFrame} (h : s.rxl.classify f = .fresh)
    (hp : (s.rxl.move .fresh).publish = true) :
    ∃ b : Receiver, b.link = .live ∧ b.published = formCommands s.w.rxl b.slots b.channels ∧
      s.takeFrame f = ((s.setRxl b).reportLink s.rxl.link).publish s.rxl.published.winch := by
  refine ⟨s.rxl.afterFrame s.w.rxl f, ?_, ?_, ?_⟩
  · rw [Receiver.afterFrame_fresh h]
    exact Receiver.move_publish _ _ hp
  · rw [Receiver.afterFrame_fresh h]
    exact if_pos hp
  · unfold State.takeFrame
    rw [h]
    exact if_pos hp

theorem State.RowsOnly.refl (s : State) : s.RowsOnly s := ⟨rfl, rfl, rfl, rfl, rfl, .inl rfl, rfl⟩

theorem State.throttleReady_live {s : State} (h : s.rxl.link = .live) :
    s.throttleReady = s.rxl.published.throttle.isSome := by
  simp [State.throttleReady, h]

/-- The end of an assisted haul at a frame in LIVE, in the words of the statements. -/
theorem State.assistTakenOver_eq (s : State) (b : Receiver) :
    s.assistTakenOver b.published.winch =
      ((s.setRxl b).takesWinch s.rxl.published.winch && (s.setRxl b).wnc.assisting) := by
  have leaves : leavesNeutral s.rxl.published.winch b.published.winch =
      (s.rxl.published.winch = some 0 && b.published.winch ≠ none && b.published.winch ≠ some 0 : Bool) := by
    rw [Bool.eq_iff_iff, leavesNeutral_iff]
    cases b.published.winch <;> simp
  unfold State.assistTakenOver State.takesWinch Winch.assisting
  rw [State.setRxl_rxl, leaves]
  simp only [State.setRxl_au, State.setRxl_wnc, Bool.and_assoc]
  rfl

theorem AuthRow.ne_assist_of_mem {r : AuthRow} (h : r.holder ∈ [Holder.pit, .auto .failsafe]) :
    r.holder ≠ .auto .assist := by
  intro assist
  rw [assist] at h
  exact absurd h (by decide)

/-- Settles O58, row by row. -/
theorem publishedFrameReachesRows : Obligations.PublishedFrameReachesRows := by
  intro bytes f s hf good plain new live
  have fresh := Receiver.classify_fresh (b := s.rxl) good plain new
  obtain ⟨b, linked, formed, run⟩ := State.takeFrame_published fresh (by unfold Receiver.move; rw [live])
  rw [State.reportLink_same (linked.trans live.symm)] at run
  have rxl : ((s.setRxl b).publish s.rxl.published.winch).rxl = b := State.publish_rxl _ _
  obtain ⟨drive, imageDrive⟩ := (s.setRxl b).publish_drive s.rxl.published.winch
  rw [← State.assistTakenOver_eq, State.throttleReady_live linked, State.setRxl_rxl] at drive
  refine ⟨_, by rw [exec_channelFrame hf, run], State.publish_framePublished (.refl _) formed _, ?_⟩
  rw [rxl, drive, imageDrive]
  refine ⟨fun kept hk => ⟨fun hh hc => ?_, fun v hh hc => ?_, fun hh hc => ?_, fun hh => ?_⟩, fun v hh hp hc => ?_,
    fun hh => ⟨?_, fun v hc hv => ?_, fun hv => ⟨fun intact => ?_, fun ended => ?_⟩⟩,
    fun hh hc => ?_, fun v hh hc => ?_, fun hh => ?_, fun hh hc => ?_, fun i hh hc => ?_, fun hh => ?_,
    fun hh hc => ?_, fun v hh hc => ?_, fun hh takes ht => ?_⟩
  · subst hk
    rw [State.drivePublished_dark (s := s.setRxl b) hh hc, AuthRow.cutShort_other (by simp [State.toNone])]
    exact ⟨rfl, rfl⟩
  · subst hk
    obtain ⟨row, entry⟩ := State.drivePublished_heard (s := s.setRxl b) hh hc
    rw [State.setRxl_au] at row
    rw [row, entry, AuthRow.cutShort_other (by show s.au.drive.holder ≠ _; rw [hh]; decide)]
    refine ⟨hh, rfl, ?_⟩
    dsimp only
    by_cases clears : v ≠ 0 ∧ s.au.drive.pending = some .assist
    · rw [if_pos clears, if_pos clears]
      rfl
    · rw [if_neg clears, if_neg clears]
  · subst hk
    rw [State.drivePublished_idle (s := s.setRxl b) hh hc, State.setRxl_au,
      AuthRow.cutShort_other (by show s.au.drive.holder ≠ _; rw [hh]; decide)]
    exact ⟨rfl, rfl⟩
  · subst hk
    rw [State.drivePublished_held (s := s.setRxl b) hh, State.setRxl_au,
      AuthRow.cutShort_other (AuthRow.ne_assist_of_mem hh)]
    exact ⟨rfl, rfl⟩
  · have adopted := State.drivePublished_adopted (s := s.setRxl b) hh hp hc
    refine ⟨?_, ?_, State.publish_disarmed (by rw [adopted]; rfl) _⟩
    · rw [adopted, AuthRow.cutShort_other (by simp [State.toRadio, State.disarmedNow])]
      rfl
    · rw [adopted]
      show (⟨.command, b.published.throttle.getD 0⟩ : DriveEntry) = _
      rw [hc]
      rfl
  · exact State.drivePublished_imageAssist (s := s.setRxl b) hh
  · rw [State.drivePublished_beyond (s := s.setRxl b) hh hc hv]
    exact AuthRow.cutShort_owed (r := { s.au.drive with pending := some .radio }) hh (by simp) _ _
  · rw [State.drivePublished_within (s := s.setRxl b) hh hv, intact]
    rfl
  · rw [State.drivePublished_within (s := s.setRxl b) hh hv, ended]
    rfl
  · exact State.publish_steerDark (s := s.setRxl b) hh hc _
  · exact State.publish_steerHeard (s := s.setRxl b) hh hc _
  · exact State.publish_steerKept (s := s.setRxl b) (.inl hh) _
  · exact State.publish_gearDark (s := s.setRxl b) hh hc _
  · exact State.publish_gearHeard (s := s.setRxl b) hh hc _
  · exact State.publish_gearKept (s := s.setRxl b) (.inl hh) _
  · exact State.publish_winchDark (s := s.setRxl b) hh hc _
  · exact State.publish_winchHeard (s := s.setRxl b) hh hc _
  · have decided : (s.setRxl b).takesWinch s.rxl.published.winch = true ↔ takes := by
      rw [State.takesWinch_iff, ht]
      exact and_iff_right hh
    have pit : s.au.winch.holder ∈ [Holder.pit, .auto .failsafe] := by simp [hh]
    exact ⟨fun h => State.publish_winchTaken (decided.mpr h), fun h =>
      State.publish_winchKept (s := s.setRxl b) (.inl pit) (Bool.eq_false_iff.mpr fun k => h (decided.mp k))⟩

end Sys2Proof.Machine
end

section
/-! The entry to LIVE: what its report gives each row, and what its frame then does (R8, R153). -/

namespace Sys2Proof.Machine

/-! ### DRIVE at the entry (R8) -/

theorem AuthRow.cutShort_holder (r : AuthRow) (cut ready : Bool) : (r.cutShort cut ready).holder = r.holder := by
  unfold AuthRow.cutShort
  split <;> rfl

/-- The end of an assisted haul moves the pending holder of DRIVE alone (R18). -/
theorem AuthRow.cutShort_withPending (r : AuthRow) (cut ready : Bool) (p : Option PendingHolder) :
    { r.cutShort cut ready with pending := p } = { r with pending := p } := by
  unfold AuthRow.cutShort
  split <;> rfl

theorem State.driveLive_held {s : State} (hh : s.au.drive.holder ∈ [Holder.pit, .auto .failsafe]) :
    s.driveLive = s.setAu { s.au with drive := { s.au.drive with pending := some .radio } } := by
  simp only [List.mem_cons, List.not_mem_nil, or_false] at hh
  unfold State.driveLive
  rcases hh with hh | hh <;> rw [hh]

/-- A NONE row whose binding is live goes to the radio, and keeps a pending AUTO(ASSIST) (entry 15). -/
theorem State.driveLive_adopted {s : State} {v : Int} (hh : s.au.drive.holder = .noParty)
    (hc : s.rxl.published.throttle = some v) :
    s.driveLive.au.drive = ⟨.radio, keptPending s.au.drive.pending, false⟩ ∧ s.driveLive.drc.armed = false := by
  unfold State.driveLive
  simp only [hh, hc, Option.isSome_some, if_true, State.giveDrive_au, State.giveDrive_drc]
  exact ⟨rfl, rfl⟩

theorem State.driveLive_left {s : State}
    (hh : s.au.drive.holder = .radio ∨ s.au.drive.holder = .auto .assist ∨
      s.au.drive.holder = .noParty ∧ s.rxl.published.throttle = none) : s.driveLive = s := by
  unfold State.driveLive
  rcases hh with hh | hh | ⟨hh, hc⟩
  · rw [hh]
  · rw [hh]
  · rw [hh, hc]
    rfl

/-! ### STEER and GEAR at the entry -/

theorem State.steerLive_held {s : State} (hh : s.au.steer.holder ∈ [Holder.pit, .auto .failsafe]) :
    s.steerLive = s.setAu { s.au with steer := { s.au.steer with pending := some .radio } } := by
  simp only [List.mem_cons, List.not_mem_nil, or_false] at hh
  unfold State.steerLive
  rcases hh with hh | hh <;> rw [hh]

theorem State.steerLive_adopted {s : State} {v : Int} (hh : s.au.steer.holder = .noParty)
    (hc : s.rxl.published.steer = some v) :
    s.steerLive.au.steer.holder = .radio ∧
      s.steerLive.au.image.steer.mode = modeOf s.w s.au.image.steer.mode s.rxl.published.steerMode := by
  unfold State.steerLive
  simp only [hh, hc, Option.isSome_some, if_true, State.giveSteer_au]
  exact ⟨rfl, rfl⟩

theorem State.steerLive_left {s : State}
    (hh : s.au.steer.holder = .radio ∨ s.au.steer.holder = .noParty ∧ s.rxl.published.steer = none) :
    s.steerLive = s := by
  unfold State.steerLive
  rcases hh with hh | ⟨hh, hc⟩
  · rw [hh]
  · rw [hh, hc]
    rfl

theorem State.gearLive_held {s : State} (hh : s.au.gear.holder ∈ [Holder.pit, .auto .failsafe]) :
    s.gearLive = s.setAu { s.au with gear := { s.au.gear with pending := some .radio } } := by
  simp only [List.mem_cons, List.not_mem_nil, or_false] at hh
  unfold State.gearLive
  rcases hh with hh | hh <;> rw [hh]

theorem State.gearLive_adopted {s : State} {i : SwitchPos} (hh : s.au.gear.holder = .noParty)
    (hc : s.rxl.published.gear = some i) : s.gearLive.au.gear.holder = .radio := by
  unfold State.gearLive
  simp only [hh, hc, Option.isSome_some, if_true, State.giveGear_au]
  rfl

theorem State.gearLive_left {s : State}
    (hh : s.au.gear.holder = .radio ∨ s.au.gear.holder = .noParty ∧ s.rxl.published.gear = none) :
    s.gearLive = s := by
  unfold State.gearLive
  rcases hh with hh | ⟨hh, hc⟩
  · rw [hh]
  · rw [hh, hc]
    rfl

/-! ### WINCH at the entry (R8, R127) -/

theorem State.winchLive_held {s : State} (hh : s.au.winch.holder ∈ [Holder.pit, .auto .failsafe]) :
    s.winchLive = s.radioTakesWinch := by
  simp only [List.mem_cons, List.not_mem_nil, or_false] at hh
  unfold State.winchLive
  rcases hh with hh | hh <;> rw [hh]

theorem State.winchLive_adopted {s : State} {v : Int} (hh : s.au.winch.holder = .noParty)
    (hc : s.rxl.published.winch = some v) : s.winchLive.au.winch.holder = .radio := by
  unfold State.winchLive
  simp only [hh, hc, Option.isSome_some, if_true, State.giveWinch_au]
  rfl

theorem State.winchLive_left {s : State}
    (hh : s.au.winch.holder = .radio ∨ s.au.winch.holder = .noParty ∧ s.rxl.published.winch = none) :
    s.winchLive = s := by
  unfold State.winchLive
  rcases hh with hh | ⟨hh, hc⟩
  · rw [hh]
  · rw [hh, hc]
    rfl

theorem State.winchLive_pit {s : State} (h : s.winchLive.au.winch.holder = .pit) :
    s.winchLive.au.winch.pending = some .radio := by
  cases hh : s.au.winch.holder with
  | radio =>
    rw [State.winchLive_left (.inl hh), hh] at h
    exact absurd h (by decide)
  | pit => rw [State.winchLive_held (by simp [hh]), State.radioTakesWinch_winch]
  | auto k =>
    cases k with
    | failsafe =>
      rw [State.winchLive_held (by simp [hh]), State.radioTakesWinch_winch] at h
      exact absurd (hh.symm.trans h) (by decide)
    | assist => simp [State.winchLive, hh] at h
  | noParty =>
    cases hc : s.rxl.published.winch with
    | none =>
      rw [State.winchLive_left (.inr ⟨hh, hc⟩), hh] at h
      exact absurd h (by decide)
    | some v => exact absurd ((State.winchLive_adopted hh hc).symm.trans h) (by decide)

/-- Whoever the entry leaves on WINCH, the stick does not take the row in the same frame. -/
theorem State.winchLive_takesWinch (s : State) (before : Option Int) : s.winchLive.takesWinch before = false := by
  rw [Bool.eq_false_iff]
  intro takes
  obtain ⟨hh, hp, -⟩ := (State.takesWinch_iff _ _).mp takes
  rw [State.winchLive_pit hh] at hp
  exact absurd hp (by decide)

/-! ### The rows after the entry -/

/-- The part when the entry comes to its WINCH row. -/
def State.beforeWinchLive (s : State) : State := s.driveLive.steerLive.gearLive

/-- What WINCH at the entry reads is as it was before the other rows moved. -/
theorem State.beforeWinchLive_only (s : State) :
    s.beforeWinchLive.rxl = s.rxl ∧ s.beforeWinchLive.wnc = s.wnc ∧ s.beforeWinchLive.pli = s.pli ∧
      s.beforeWinchLive.au.winch = s.au.winch ∧ s.beforeWinchLive.au.winchTimer = s.au.winchTimer ∧
      s.beforeWinchLive.au.image.winch = s.au.image.winch := by
  have drive := s.driveLive_only
  have steer := s.driveLive.steerLive_only
  have gear := s.driveLive.steerLive.gearLive_only
  unfold State.beforeWinchLive
  rw [gear.rxl, gear.wnc, gear.pli, gear.winch, gear.winchTimer, gear.imageWinch, steer.rxl, steer.wnc, steer.pli,
    steer.winch, steer.winchTimer, steer.imageWinch]
  exact ⟨drive.rxl, drive.wnc, drive.pli, drive.winch, drive.winchTimer, drive.imageWinch⟩

theorem State.enterLive_eq (s : State) : s.enterLive = s.beforeWinchLive.winchLive := rfl

theorem State.assistCutShort_eq (s : State) :
    s.assistCutShort = (s.au.winch.holder ∈ [Holder.pit, .auto .failsafe] && s.wnc.assisting : Bool) := by
  have haul : decide (s.wnc.record.map OpRecord.kind = some .assistHaul) = s.wnc.assisting := by
    rw [Bool.eq_iff_iff, decide_eq_true_iff, Winch.assisting_iff]
  unfold State.assistCutShort
  rw [haul]
  simp

theorem State.winchLive_drive (s : State) :
    s.winchLive.au.drive = s.au.drive.cutShort s.assistCutShort s.throttleReady := by
  rw [State.assistCutShort_eq]
  by_cases hh : s.au.winch.holder ∈ [Holder.pit, .auto .failsafe]
  · rw [State.winchLive_held hh, State.radioTakesWinch_drive, decide_eq_true hh, Bool.true_and]
  · rw [decide_eq_false hh, Bool.false_and]
    show _ = s.au.drive
    unfold State.winchLive
    split
    · split
      · rw [State.giveWinch_au]
      · rfl
    next pit => exact absurd (by rw [pit]; decide) hh
    next failsafe => exact absurd (by rw [failsafe]; decide) hh
    · rfl

theorem State.enterLive_drive (s : State) :
    s.enterLive.au.drive = s.driveLive.au.drive.cutShort s.assistCutShort s.throttleReady ∧
      s.enterLive.au.image.drive = s.driveLive.au.image.drive ∧ s.enterLive.drc = s.driveLive.drc := by
  have steer := s.driveLive.steerLive_only
  have gear := s.driveLive.steerLive.gearLive_only
  have winch := s.beforeWinchLive.winchLive_only
  obtain ⟨rxl, wnc, -, row, -, -⟩ := s.beforeWinchLive_only
  have drive : s.beforeWinchLive.au.drive = s.driveLive.au.drive := gear.drive.trans steer.drive
  have cut : s.beforeWinchLive.assistCutShort = s.assistCutShort := by
    unfold State.assistCutShort
    rw [row, wnc]
  have ready : s.beforeWinchLive.throttleReady = s.throttleReady := by
    unfold State.throttleReady
    rw [rxl]
  rw [State.enterLive_eq, State.winchLive_drive, drive, cut, ready]
  exact ⟨rfl, winch.imageDrive.trans (gear.imageDrive.trans steer.imageDrive),
    winch.drc.trans (gear.drc.trans steer.drc)⟩

theorem State.enterLive_steer (s : State) :
    s.enterLive.au.steer = s.driveLive.steerLive.au.steer ∧
      s.enterLive.au.image.steer = s.driveLive.steerLive.au.image.steer :=
  have gear := s.driveLive.steerLive.gearLive_only
  have winch := s.beforeWinchLive.winchLive_only
  ⟨winch.steer.trans gear.steer, winch.imageSteer.trans gear.imageSteer⟩

theorem State.enterLive_gear (s : State) :
    s.enterLive.au.gear = s.driveLive.steerLive.gearLive.au.gear ∧
      s.enterLive.au.image.gear = s.driveLive.steerLive.gearLive.au.image.gear :=
  have winch := s.beforeWinchLive.winchLive_only
  ⟨winch.gear, winch.imageGear⟩

theorem State.enterLive_takesWinch (s : State) (before : Option Int) : s.enterLive.takesWinch before = false :=
  State.winchLive_takesWinch _ _

/-! ### The frame that enters LIVE, row by row -/

/-- The DRIVE row of a frame that enters LIVE: the entry may have ended an assisted haul, the frame no more. -/
theorem State.entered_drive (s : State) (before : Option Int) :
    (s.enterLive.publish before).au.drive = s.enterLive.drivePublished.au.drive ∧
      (s.enterLive.publish before).au.image.drive = s.enterLive.drivePublished.au.image.drive := by
  obtain ⟨row, entry⟩ := s.enterLive.publish_drive before
  rw [s.enterLive_takesWinch] at row
  exact ⟨row, entry⟩

theorem State.entered_driveHeld {s : State} (hh : s.au.drive.holder ∈ [Holder.pit, .auto .failsafe])
    (before : Option Int) :
    (s.enterLive.publish before).au.drive = { s.au.drive with pending := some .radio } ∧
      (s.enterLive.publish before).au.image.drive = s.au.image.drive := by
  obtain ⟨row, entry, -⟩ := s.enterLive_drive
  have owed : s.enterLive.au.drive = { s.au.drive with pending := some .radio } := by
    rw [row, State.driveLive_held hh]
    refine (AuthRow.cutShort_other (r := { s.au.drive with pending := some .radio })
      (AuthRow.ne_assist_of_mem hh) _ _).trans ?_
    simp
  obtain ⟨final, finalEntry⟩ := s.entered_drive before
  rw [final, finalEntry, State.drivePublished_held (by rw [owed]; exact hh), owed, entry, State.driveLive_held hh]
  exact ⟨rfl, rfl⟩

/-- A DRIVE row that the radio has or takes, after the entry and before its frame. -/
theorem State.enterLive_driveHeard {s : State} {v : Int} (hh : s.au.drive.holder ∈ [Holder.noParty, .radio])
    (hc : s.rxl.published.throttle = some v) :
    s.enterLive.au.drive.holder = .radio ∧ (s.au.drive.holder = .noParty → s.enterLive.drc.armed = false) ∧
      (s.au.drive.pending = some .assist →
        s.enterLive.au.drive.pending = if s.assistCutShort = true then none else some .assist) ∧
      (s.au.drive.pending ≠ some .assist → s.au.drive.holder = .noParty → s.enterLive.au.drive.pending = none) := by
  obtain ⟨row, -, drc⟩ := s.enterLive_drive
  simp only [List.mem_cons, List.not_mem_nil, or_false] at hh
  rcases hh with hh | hh
  · obtain ⟨adopted, disarmed⟩ := State.driveLive_adopted hh hc
    rw [row, drc, adopted, AuthRow.cutShort_other (by simp)]
    refine ⟨rfl, fun _ => disarmed, fun hp => ?_, fun hp _ => ?_⟩
    · rw [hp]
      simp [keptPending]
    · have dropped : keptPending s.au.drive.pending = none := by
        unfold keptPending
        split
        next assist => exact absurd assist hp
        · rfl
      rw [dropped]
      simp
  · rw [row, State.driveLive_left (.inl hh), AuthRow.cutShort_other (by rw [hh]; decide)]
    refine ⟨hh, fun h => absurd (hh.symm.trans h) (by decide), fun hp => ?_,
      fun _ h => absurd (hh.symm.trans h) (by decide)⟩
    rw [hp]
    simp

/-- A DRIVE row that the radio has or takes follows the entering frame; a pending AUTO(ASSIST) outlives it under a neutral
throttle and an assisted haul that goes on. -/
theorem State.entered_driveHeard {s : State} {v : Int} (hh : s.au.drive.holder ∈ [Holder.noParty, .radio])
    (hc : s.rxl.published.throttle = some v) (before : Option Int) :
    (s.enterLive.publish before).au.drive.holder = .radio ∧
      (s.enterLive.publish before).au.image.drive = ⟨.command, v⟩ ∧
      (s.au.drive.holder = .noParty → (s.enterLive.publish before).drc.armed = false) ∧
      (s.au.drive.pending = some .assist → (s.enterLive.publish before).au.drive.pending =
        if v = 0 ∧ s.assistCutShort = false then some .assist else none) ∧
      (s.au.drive.pending ≠ some .assist → s.au.drive.holder = .noParty →
        (s.enterLive.publish before).au.drive.pending = none) := by
  obtain ⟨given, disarmed, assisted, dropped⟩ := State.enterLive_driveHeard hh hc
  have heard : s.enterLive.rxl.published.throttle = some v := by rw [State.enterLive_rxl]; exact hc
  obtain ⟨row, entry⟩ := State.drivePublished_heard given heard
  obtain ⟨final, finalEntry⟩ := s.entered_drive before
  rw [final, finalEntry, row, entry]
  refine ⟨given, rfl, fun h => State.publish_disarmed ?_ _, fun hp => ?_, fun hp h => ?_⟩
  · rw [State.drivePublished_heardDrc given heard]
    exact disarmed h
  · dsimp only
    rw [assisted hp]
    by_cases neutral : v = 0 <;> cases s.assistCutShort <;> simp [neutral]
  · dsimp only
    rw [dropped hp h]
    exact ite_self none

/-- An AUTO(ASSIST) row at the entry to LIVE (R17, R18). -/
theorem State.entered_driveAssist {s : State} (hh : s.au.drive.holder = .auto .assist) (live : s.rxl.link = .live)
    (before : Option Int) :
    (s.enterLive.publish before).au.image.drive = s.au.image.drive ∧
      (∀ v, s.rxl.published.throttle = some v → 300 < v.natAbs →
        (s.enterLive.publish before).au.drive = { s.au.drive with pending := some .radio }) ∧
      ((∀ v, s.rxl.published.throttle = some v → v.natAbs ≤ 300) →
        (s.assistCutShort = false → (s.enterLive.publish before).au.drive = s.au.drive) ∧
        (s.assistCutShort = true →
          (s.enterLive.publish before).au.drive = s.au.drive.afterAssist s.rxl.published.throttle.isSome)) := by
  obtain ⟨row, entry, -⟩ := s.enterLive_drive
  rw [State.driveLive_left (.inr (.inl hh))] at row entry
  rw [State.throttleReady_live live] at row
  have held : s.enterLive.au.drive.holder = .auto .assist := by rw [row, AuthRow.cutShort_holder]; exact hh
  obtain ⟨final, finalEntry⟩ := s.entered_drive before
  have rxl : s.enterLive.rxl = s.rxl := s.enterLive_rxl
  rw [final, finalEntry]
  refine ⟨(State.drivePublished_imageAssist held).trans entry, fun v hc hv => ?_, fun hv => ?_⟩
  · rw [State.drivePublished_beyond held (by rw [rxl]; exact hc) hv, row]
    exact AuthRow.cutShort_withPending _ _ _ _
  · rw [State.drivePublished_within held (by rw [rxl]; exact hv), row]
    refine ⟨fun intact => ?_, fun ended => ?_⟩
    · rw [intact]
      rfl
    · rw [ended]
      rfl

/-- A NONE row of DRIVE that the entering frame brings no throttle, and one that the radio loses by it. -/
theorem State.entered_driveDark {s : State} (hc : s.rxl.published.throttle = none) (before : Option Int) :
    (s.au.drive.holder = .noParty →
      (s.enterLive.publish before).au.drive = ⟨.noParty,
        if s.au.drive.pending = some .assist ∧ s.assistCutShort = true then none else s.au.drive.pending,
        s.au.drive.deadline⟩ ∧ (s.enterLive.publish before).au.image.drive = s.au.image.drive) ∧
      (s.au.drive.holder = .radio →
        (s.enterLive.publish before).au.drive = ⟨.noParty,
          if s.au.drive.pending = some .assist ∧ s.assistCutShort = true then none else s.au.drive.pending, false⟩ ∧
          (s.enterLive.publish before).au.image.drive = ⟨.command, 0⟩) := by
  obtain ⟨row, entry, -⟩ := s.enterLive_drive
  obtain ⟨final, finalEntry⟩ := s.entered_drive before
  have dark : s.enterLive.rxl.published.throttle = none := by rw [State.enterLive_rxl]; exact hc
  rw [final, finalEntry]
  refine ⟨fun hh => ?_, fun hh => ?_⟩
  · rw [State.driveLive_left (.inr (.inr ⟨hh, hc⟩)), AuthRow.cutShort_other (by rw [hh]; decide), hh] at row
    rw [State.driveLive_left (.inr (.inr ⟨hh, hc⟩))] at entry
    rw [State.drivePublished_idle (by rw [row]) (.inr dark), row, entry]
    exact ⟨rfl, rfl⟩
  · rw [State.driveLive_left (.inl hh), AuthRow.cutShort_other (by rw [hh]; decide), hh] at row
    rw [State.drivePublished_dark (by rw [row]) dark, row]
    exact ⟨rfl, rfl⟩

theorem State.entered_steerHeld {s : State} (hh : s.au.steer.holder ∈ [Holder.pit, .auto .failsafe])
    (before : Option Int) :
    (s.enterLive.publish before).au.steer = { s.au.steer with pending := some .radio } ∧
      (s.enterLive.publish before).au.image.steer = s.au.image.steer := by
  have drive := s.driveLive_only
  obtain ⟨row, entry⟩ := s.enterLive_steer
  rw [State.steerLive_held (by rw [drive.steer]; exact hh)] at row entry
  have owed : s.enterLive.au.steer = { s.au.steer with pending := some .radio } := by rw [row, ← drive.steer]; rfl
  obtain ⟨final, finalEntry⟩ := State.publish_steerKept (s := s.enterLive) (.inl (by rw [owed]; exact hh)) before
  rw [final, finalEntry, owed, entry]
  exact ⟨rfl, drive.imageSteer⟩

/-- A STEER row that the radio has or takes follows the entering frame (R3, R8). -/
theorem State.entered_steerHeard {s : State} {v : Int} (hh : s.au.steer.holder ∈ [Holder.noParty, .radio])
    (hc : s.rxl.published.steer = some v) (before : Option Int) :
    (s.enterLive.publish before).au.steer.holder = .radio ∧
      (s.enterLive.publish before).au.image.steer = ⟨v, false, match s.rxl.published.steerMode with
        | some i => s.pst.working.stc.modeList.get i
        | none => s.au.image.steer.mode⟩ := by
  have drive := s.driveLive_only
  obtain ⟨row, entry⟩ := s.enterLive_steer
  have given : s.enterLive.au.steer.holder = .radio ∧
      modeOf s.w s.enterLive.au.image.steer.mode s.rxl.published.steerMode =
        modeOf s.w s.au.image.steer.mode s.rxl.published.steerMode := by
    rw [row, entry]
    simp only [List.mem_cons, List.not_mem_nil, or_false] at hh
    rcases hh with hh | hh
    · obtain ⟨holder, mode⟩ := State.steerLive_adopted (s := s.driveLive) (by rw [drive.steer]; exact hh)
        (by rw [drive.rxl]; exact hc)
      have w : s.driveLive.w = s.w := congrArg Store.working drive.pst
      rw [drive.rxl, drive.imageSteer, w] at mode
      rw [mode]
      refine ⟨holder, ?_⟩
      cases s.rxl.published.steerMode <;> rfl
    · rw [State.steerLive_left (.inl (by rw [drive.steer]; exact hh)), drive.steer, drive.imageSteer]
      exact ⟨hh, rfl⟩
  have rows := s.enterLive_only
  obtain ⟨holder, heard⟩ := State.publish_steerHeard (s := s.enterLive) (v := v) (.inl given.1)
    (by rw [rows.rxl]; exact hc) before
  refine ⟨holder, heard.trans (congrArg (SteerEntry.mk v false) ?_)⟩
  have mode := given.2
  rw [rows.rxl, rows.pst]
  unfold modeOf at mode
  cases h : s.rxl.published.steerMode with
  | none =>
    rw [h] at mode
    exact mode
  | some i => rfl

theorem State.enterLive_steerLeft {s : State}
    (hh : s.au.steer.holder = .radio ∨ s.au.steer.holder = .noParty ∧ s.rxl.published.steer = none) :
    s.enterLive.au.steer = s.au.steer ∧ s.enterLive.au.image.steer = s.au.image.steer := by
  have drive := s.driveLive_only
  obtain ⟨row, entry⟩ := s.enterLive_steer
  rw [row, entry, State.steerLive_left (by rw [drive.steer, drive.rxl]; exact hh)]
  exact ⟨drive.steer, drive.imageSteer⟩

theorem State.entered_gearHeld {s : State} (hh : s.au.gear.holder ∈ [Holder.pit, .auto .failsafe])
    (before : Option Int) :
    (s.enterLive.publish before).au.gear = { s.au.gear with pending := some .radio } ∧
      (s.enterLive.publish before).au.image.gear = s.au.image.gear := by
  have drive := s.driveLive_only
  have steer := s.driveLive.steerLive_only
  obtain ⟨row, entry⟩ := s.enterLive_gear
  rw [State.gearLive_held (by rw [steer.gear, drive.gear]; exact hh)] at row entry
  have owed : s.enterLive.au.gear = { s.au.gear with pending := some .radio } := by
    rw [row, ← drive.gear, ← steer.gear]
    rfl
  obtain ⟨final, finalEntry⟩ := State.publish_gearKept (s := s.enterLive) (.inl (by rw [owed]; exact hh)) before
  rw [final, finalEntry, owed, entry]
  exact ⟨rfl, steer.imageGear.trans drive.imageGear⟩

theorem State.enterLive_gearLeft {s : State}
    (hh : s.au.gear.holder = .radio ∨ s.au.gear.holder = .noParty ∧ s.rxl.published.gear = none) :
    s.enterLive.au.gear = s.au.gear ∧ s.enterLive.au.image.gear = s.au.image.gear := by
  have drive := s.driveLive_only
  have steer := s.driveLive.steerLive_only
  obtain ⟨row, entry⟩ := s.enterLive_gear
  rw [row, entry, State.gearLive_left (by rw [steer.gear, drive.gear, steer.rxl, drive.rxl]; exact hh)]
  exact ⟨steer.gear.trans drive.gear, steer.imageGear.trans drive.imageGear⟩

/-- A GEAR row that the radio has or takes follows the entering frame (R3, R8). -/
theorem State.entered_gearHeard {s : State} {i : SwitchPos} (hh : s.au.gear.holder ∈ [Holder.noParty, .radio])
    (hc : s.rxl.published.gear = some i) (before : Option Int) :
    (s.enterLive.publish before).au.gear.holder = .radio ∧
      (s.enterLive.publish before).au.image.gear = some (if i = 0 then .high else if i = 1 then .low else .dig) := by
  have given : s.enterLive.au.gear.holder = .radio := by
    simp only [List.mem_cons, List.not_mem_nil, or_false] at hh
    rcases hh with hh | hh
    · have drive := s.driveLive_only
      have steer := s.driveLive.steerLive_only
      rw [s.enterLive_gear.1]
      exact State.gearLive_adopted (by rw [steer.gear, drive.gear]; exact hh) (by rw [steer.rxl, drive.rxl]; exact hc)
    · rw [(State.enterLive_gearLeft (.inl hh)).1]
      exact hh
  exact State.publish_gearHeard (.inl given) (by rw [State.enterLive_rxl]; exact hc) before

theorem State.enterLive_winchLeft {s : State}
    (hh : s.au.winch.holder = .radio ∨ s.au.winch.holder = .noParty ∧ s.rxl.published.winch = none) :
    s.enterLive.au.winch = s.au.winch ∧ s.enterLive.au.image.winch = s.au.image.winch := by
  obtain ⟨rxl, -, -, row, -, entry⟩ := s.beforeWinchLive_only
  rw [State.enterLive_eq, State.winchLive_left (by rw [row, rxl]; exact hh)]
  exact ⟨row, entry⟩

/-- A WINCH row that the radio has or takes follows the entering frame (R8). -/
theorem State.entered_winchHeard {s : State} {v : Int} (hh : s.au.winch.holder ∈ [Holder.noParty, .radio])
    (hc : s.rxl.published.winch = some v) (before : Option Int) :
    (s.enterLive.publish before).au.winch.holder = .radio ∧
      (s.enterLive.publish before).au.image.winch = ⟨.speed, v⟩ := by
  have given : s.enterLive.au.winch.holder = .radio := by
    simp only [List.mem_cons, List.not_mem_nil, or_false] at hh
    rcases hh with hh | hh
    · obtain ⟨rxl, -, -, row, -, -⟩ := s.beforeWinchLive_only
      rw [State.enterLive_eq]
      exact State.winchLive_adopted (by rw [row]; exact hh) (by rw [rxl]; exact hc)
    · rw [(State.enterLive_winchLeft (.inl hh)).1]
      exact hh
  exact State.publish_winchHeard (.inl given) (by rw [State.enterLive_rxl]; exact hc) before

/-- A WINCH row that PIT or the failsafe holds waits for the radio, and the operation in flight has ended (R8, R127). -/
theorem State.entered_winchHeld {s : State} (hh : s.au.winch.holder ∈ [Holder.pit, .auto .failsafe])
    (before : Option Int) :
    (s.enterLive.publish before).au.winch = { s.au.winch with pending := some .radio } ∧
      (s.enterLive.publish before).wnc.record = none ∧
      (s.au.winch.pending = none → (s.enterLive.publish before).au.winchTimer = true) ∧
      ∀ r, s.wnc.record = some r → (s.enterLive.publish before).pli = s.pli.withResult r (some .radioTakeover) ∧
        (s.enterLive.publish before).wnc.present = 0 ∧
        (s.au.winch.holder = .pit → (s.enterLive.publish before).au.image.winch = ⟨.hold, 0⟩) := by
  obtain ⟨-, wnc, pli, row, timer, entry⟩ := s.beforeWinchLive_only
  have taken : s.enterLive = s.beforeWinchLive.radioTakesWinch :=
    State.winchLive_held (s := s.beforeWinchLive) (by rw [row]; exact hh)
  have owed : s.enterLive.au.winch = { s.au.winch with pending := some .radio } := by
    rw [taken, State.radioTakesWinch_winch, row]
  obtain ⟨final, finalTimer, finalEntry, finalWnc, finalPli⟩ :=
    State.publish_winchKept (s := s.enterLive) (.inl (by rw [owed]; exact hh)) (s.enterLive_takesWinch before)
  rw [final, finalTimer, finalEntry, finalWnc, finalPli, owed, taken]
  refine ⟨rfl, State.radioTakesWinch_record _, fun hp => ?_, fun r hr => ?_⟩
  · rw [State.radioTakesWinch_winchTimer, row, hp]
    simp
  · obtain ⟨present, result, -⟩ := State.radioTakesWinch_ended (s := s.beforeWinchLive) (wnc ▸ hr)
    refine ⟨pli ▸ result, present, fun pit => ?_⟩
    rw [State.radioTakesWinch_imageWinch, wnc, row]
    exact if_pos ⟨Option.ne_none_iff_exists'.mpr ⟨r, hr⟩, pit⟩

/-! A NONE row that the entering frame cannot give the radio stays, and a row that the radio loses by it goes to NONE. -/

theorem State.entered_steerIdle {s : State} (hh : s.au.steer.holder = .noParty) (hc : s.rxl.published.steer = none)
    (before : Option Int) :
    (s.enterLive.publish before).au.steer = s.au.steer ∧
      (s.enterLive.publish before).au.image.steer = s.au.image.steer := by
  obtain ⟨row, entry⟩ := State.enterLive_steerLeft (.inr ⟨hh, hc⟩)
  rw [← row, ← entry]
  exact State.publish_steerKept (.inr ⟨by rw [row]; exact hh, by rw [State.enterLive_rxl]; exact hc⟩) before

theorem State.entered_steerDark {s : State} (hh : s.au.steer.holder = .radio) (hc : s.rxl.published.steer = none)
    (before : Option Int) :
    (s.enterLive.publish before).au.steer = ⟨.noParty, s.au.steer.pending, false⟩ ∧
      (s.enterLive.publish before).au.image.steer = ⟨0, false, s.au.image.steer.mode⟩ := by
  obtain ⟨row, entry⟩ := State.enterLive_steerLeft (.inl hh)
  rw [← row, ← entry]
  exact State.publish_steerDark (by rw [row]; exact hh) (by rw [State.enterLive_rxl]; exact hc) before

theorem State.entered_gearIdle {s : State} (hh : s.au.gear.holder = .noParty) (hc : s.rxl.published.gear = none)
    (before : Option Int) :
    (s.enterLive.publish before).au.gear = s.au.gear ∧
      (s.enterLive.publish before).au.image.gear = s.au.image.gear := by
  obtain ⟨row, entry⟩ := State.enterLive_gearLeft (.inr ⟨hh, hc⟩)
  rw [← row, ← entry]
  exact State.publish_gearKept (.inr ⟨by rw [row]; exact hh, by rw [State.enterLive_rxl]; exact hc⟩) before

theorem State.entered_gearDark {s : State} (hh : s.au.gear.holder = .radio) (hc : s.rxl.published.gear = none)
    (before : Option Int) :
    (s.enterLive.publish before).au.gear = ⟨.noParty, s.au.gear.pending, false⟩ ∧
      (s.enterLive.publish before).au.image.gear = none := by
  obtain ⟨row, -⟩ := State.enterLive_gearLeft (.inl hh)
  rw [← row]
  exact State.publish_gearDark (by rw [row]; exact hh) (by rw [State.enterLive_rxl]; exact hc) before

theorem State.entered_winchIdle {s : State} (hh : s.au.winch.holder = .noParty) (hc : s.rxl.published.winch = none)
    (before : Option Int) :
    (s.enterLive.publish before).au.winch = s.au.winch ∧
      (s.enterLive.publish before).au.image.winch = s.au.image.winch := by
  obtain ⟨row, entry⟩ := State.enterLive_winchLeft (.inr ⟨hh, hc⟩)
  obtain ⟨final, -, finalEntry, -⟩ := State.publish_winchKept
    (.inr ⟨by rw [row]; exact hh, by rw [State.enterLive_rxl]; exact hc⟩) (s.enterLive_takesWinch before)
  exact ⟨final.trans row, finalEntry.trans entry⟩

theorem State.entered_winchDark {s : State} (hh : s.au.winch.holder = .radio) (hc : s.rxl.published.winch = none)
    (before : Option Int) :
    (s.enterLive.publish before).au.winch = ⟨.noParty, none, false⟩ ∧
      (s.enterLive.publish before).au.image.winch = ⟨.hold, 0⟩ := by
  obtain ⟨row, -⟩ := State.enterLive_winchLeft (.inl hh)
  exact State.publish_winchDark (by rw [row]; exact hh) (by rw [State.enterLive_rxl]; exact hc) before

/-- A new frame that enters LIVE is published (R153). -/
theorem Receiver.move_enters {b : Receiver}
    (h : b.link = .absent ∨ b.link = .hold ∨
      b.link = .recovering ∧ 2 ≤ b.run ∧ (∀ g, b.gap = some g → g.holdPassed = false)) :
    (b.move .fresh).publish = true ∧ b.link ≠ .live := by
  rcases h with h | h | ⟨h, run, early⟩
  · unfold Receiver.move
    rw [h]
    exact ⟨rfl, by decide⟩
  · unfold Receiver.move
    rw [h]
    exact ⟨rfl, by decide⟩
  · rw [Receiver.move_fresh_early h ((b.late_eq_false_iff).mpr early), if_pos run, h]
    exact ⟨rfl, by decide⟩

/-- Settles O59, row by row. -/
theorem entryToLiveGivesRows : Obligations.EntryToLiveGivesRows := by
  intro bytes f s hf good plain new enters
  have fresh := Receiver.classify_fresh (b := s.rxl) good plain new
  obtain ⟨published, dark⟩ := Receiver.move_enters enters
  obtain ⟨b, linked, formed, run⟩ := State.takeFrame_published fresh published
  rw [State.reportLink_live linked dark] at run
  have rxl : ((s.setRxl b).enterLive.publish s.rxl.published.winch).rxl = b :=
    (State.publish_rxl _ _).trans (State.enterLive_rxl _)
  refine ⟨_, by rw [exec_channelFrame hf, run], by rw [rxl]; exact linked,
    State.publish_framePublished (s.setRxl b).enterLive_only formed _, ?_⟩
  rw [rxl]
  refine ⟨fun hh => State.entered_driveHeld (s := s.setRxl b) hh _,
    fun hh => State.entered_steerHeld (s := s.setRxl b) hh _,
    fun hh => State.entered_gearHeld (s := s.setRxl b) hh _,
    fun hh => State.entered_winchHeld (s := s.setRxl b) hh _,
    fun v hh hc => State.entered_driveHeard (s := s.setRxl b) hh hc _,
    fun hh => State.entered_driveAssist (s := s.setRxl b) hh linked _,
    fun v hh hc => State.entered_steerHeard (s := s.setRxl b) hh hc _,
    fun i hh hc => State.entered_gearHeard (s := s.setRxl b) hh hc _,
    fun v hh hc => State.entered_winchHeard (s := s.setRxl b) hh hc _,
    fun hh hc => (State.entered_driveDark (s := s.setRxl b) hc _).1 hh,
    fun hh hc => State.entered_steerIdle (s := s.setRxl b) hh hc _,
    fun hh hc => State.entered_gearIdle (s := s.setRxl b) hh hc _,
    fun hh hc => State.entered_winchIdle (s := s.setRxl b) hh hc _,
    fun hh hc => (State.entered_driveDark (s := s.setRxl b) hc _).2 hh,
    fun hh hc => State.entered_steerDark (s := s.setRxl b) hh hc _,
    fun hh hc => State.entered_gearDark (s := s.setRxl b) hh hc _,
    fun hh hc => State.entered_winchDark (s := s.setRxl b) hh hc _⟩

end Sys2Proof.Machine
end

section
/-! Legality of the settings (R171): a write of one value within its range and order keeps every other value, so it keeps
the whole copy legal. -/

namespace Sys2Proof.Machine

/-! ### One place of four and of eight replaced -/

theorem Four.all_set {α : Type} {p : α → Bool} {t : Four α} (h : t.toList.all p = true) {a : α} (ha : p a = true)
    (i : Fin 4) : (t.set i a).toList.all p = true := by
  simp only [Four.toList, List.all_cons, List.all_nil, Bool.and_true, Bool.and_eq_true] at h
  obtain ⟨h0, h1, h2, h3⟩ := h
  fin_cases i <;> simp [Four.set, Four.toList, *]

theorem Eight.all_set {α : Type} {p : α → Bool} {t : Eight α} (h : t.toList.all p = true) {a : α} (ha : p a = true)
    (i : Fin 8) : (t.set i a).toList.all p = true := by
  simp only [Eight.toList, List.all_cons, List.all_nil, Bool.and_true, Bool.and_eq_true] at h
  obtain ⟨h0, h1, h2, h3, h4, h5, h6, h7⟩ := h
  fin_cases i <;> simp [Eight.set, Eight.toList, *]

/-! ### Reading back one scalar (R170) -/

/-- A scalar reads back as the number written, if that is within its range. -/
theorem Settings.scalar_setScalar_same (w : Settings) (x : ScalarId) {v : Nat} (hi : v ≤ x.row.hi) :
    (w.setScalar x v).scalar x = v := by
  have flag {v : Nat} (h : v ≤ 1) : flagNat (decide (v = 1)) = v := by
    interval_cases v <;> rfl
  cases x with
  | wakeRadio | wakeWinch | wakePit => exact flag hi
  | startGear | countEdge =>
    have : v ≤ 2 := hi
    interval_cases v <;> rfl
  | parkedScene =>
    have : v ≤ 4 := hi
    interval_cases v <;> rfl
  | _ => rfl

/-- A scalar is not changed by a write of another one. -/
theorem Settings.scalar_setScalar_ne (w : Settings) {x y : ScalarId} (v : Nat) (h : y ≠ x) :
    (w.setScalar x v).scalar y = w.scalar y := by
  cases x <;> cases y <;> first | rfl | exact absurd rfl h

/-! ### The parts of legality -/

/-- Every order of the settings table holds (R29, R63, R78, R101, R108). -/
structure Settings.Ordered (w : Settings) : Prop where
  thresholds : w.bsv.ordered = true
  sag : w.sagOrdered = true
  front : w.stc.front.ordered = true
  rear : w.stc.rear.ordered = true
  curve : w.drc.curve.ordered = true
  line : w.wnc.ordered = true

/-- The lists of bindings, outputs, scenes and patterns are within their ranges (R132, R135, R138, R155). -/
structure Settings.Listed (w : Settings) : Prop where
  bindings : ∀ f, (w.binding f).legal = true
  outputs : w.ltc.outputs.toList.all (fun o => o.nominal ≤ 1000) = true
  scenes : w.ltc.scenes.toList.all SceneLevels.legal = true
  patterns : w.ltc.patterns.toList.all patternLegal = true

theorem ScalarId.mem_list (x : ScalarId) : x ∈ ScalarId.list := by
  cases x <;> decide

theorem Func.mem_list (f : Func) : f ∈ Func.list := by
  cases f <;> decide

theorem Settings.legal_iff (w : Settings) :
    w.legal = true ↔ (∀ x, w.scalarInRange x = true) ∧ w.Listed ∧ w.Ordered := by
  simp only [Settings.legal, Bool.and_eq_true, List.all_eq_true (l := ScalarId.list), List.all_eq_true (l := Func.list)]
  constructor
  · rintro ⟨⟨⟨⟨⟨⟨⟨⟨⟨⟨scalars, bindings⟩, outputs⟩, scenes⟩, patterns⟩, thresholds⟩, sag⟩, front⟩, rear⟩, curve⟩, line⟩
    exact ⟨fun x => scalars x x.mem_list, ⟨fun f => bindings f f.mem_list, outputs, scenes, patterns⟩,
      ⟨thresholds, sag, front, rear, curve, line⟩⟩
  · rintro ⟨scalars, ⟨bindings, outputs, scenes, patterns⟩, ⟨thresholds, sag, front, rear, curve, line⟩⟩
    exact ⟨⟨⟨⟨⟨⟨⟨⟨⟨⟨fun x _ => scalars x, fun f _ => bindings f⟩, outputs⟩, scenes⟩, patterns⟩, thresholds⟩, sag⟩, front⟩,
      rear⟩, curve⟩, line⟩

/-! ### One value written -/

/-- A scalar in its range leaves every scalar in its range. -/
theorem Settings.setScalar_inRange {w : Settings} (h : ∀ y, w.scalarInRange y = true) {x : ScalarId} {v : Nat}
    (lo : x.row.lo ≤ v) (hi : v ≤ x.row.hi) (y : ScalarId) : (w.setScalar x v).scalarInRange y = true := by
  unfold Settings.scalarInRange
  by_cases same : y = x
  · subst same
    simp [w.scalar_setScalar_same y hi, lo, hi]
  · rw [w.scalar_setScalar_ne v same]
    exact h y

/-- A scalar has no share in the lists. -/
theorem Settings.setScalar_listed {w : Settings} (h : w.Listed) (x : ScalarId) (v : Nat) : (w.setScalar x v).Listed := by
  obtain ⟨bindings, outputs, scenes, patterns⟩ := h
  have binding (f : Func) : (w.setScalar x v).binding f = w.binding f := by
    cases x <;> cases f <;> rfl
  refine ⟨fun f => by rw [binding]; exact bindings f, ?_, ?_, ?_⟩
  · cases x <;> exact outputs
  · cases x <;> exact scenes
  · cases x <;> exact patterns

/-- A scalar written keeps the orders that do not name it, and its own order check covers those that do (R170). -/
theorem Settings.setScalar_ordered {w : Settings} (h : w.Ordered) (x : ScalarId) (v : Nat) {position : Option Nat}
    (checked : (SettingId.scalar x).inOrder (w.setScalar x v) position = true) : (w.setScalar x v).Ordered := by
  obtain ⟨thresholds, sag, front, rear, curve, line⟩ := h
  cases x with
  | warn | storage => exact ⟨checked, sag, front, rear, curve, line⟩
  | cut =>
    obtain ⟨ordered, below⟩ := (Bool.and_eq_true _ _).mp checked
    obtain ⟨_, spread⟩ := (Bool.and_eq_true _ _).mp sag
    exact ⟨ordered, (Bool.and_eq_true _ _).mpr ⟨below, spread⟩, front, rear, curve, line⟩
  | sagStart | sagEnd => exact ⟨thresholds, checked, front, rear, curve, line⟩
  | frontMin | frontCentre | frontMax => exact ⟨thresholds, sag, checked, rear, curve, line⟩
  | rearMin | rearCentre | rearMax => exact ⟨thresholds, sag, front, checked, curve, line⟩
  | curve0 | curve1 | curve2 | curve3 | curve4 => exact ⟨thresholds, sag, front, rear, checked, line⟩
  | spoolCapacity => exact ⟨thresholds, sag, front, rear, curve, ((Bool.and_eq_true _ _).mp checked).1⟩
  | lineReserve => exact ⟨thresholds, sag, front, rear, curve, checked⟩
  | _ => exact ⟨thresholds, sag, front, rear, curve, line⟩

theorem Settings.setScalar_legal {w : Settings} (h : w.legal = true) {x : ScalarId} {v : Nat} (lo : x.row.lo ≤ v)
    (hi : v ≤ x.row.hi) {position : Option Nat}
    (checked : (SettingId.scalar x).inOrder (w.setScalar x v) position = true) : (w.setScalar x v).legal = true := by
  obtain ⟨scalars, listed, ordered⟩ := w.legal_iff.mp h
  exact (Settings.legal_iff _).mpr
    ⟨Settings.setScalar_inRange scalars lo hi, w.setScalar_listed listed x v, w.setScalar_ordered ordered x v checked⟩

theorem Settings.setBinding_legal {w : Settings} (h : w.legal = true) (f : Func) {b : Binding} (hb : b.legal = true) :
    (w.setBinding f b).legal = true := by
  obtain ⟨scalars, ⟨bindings, outputs, scenes, patterns⟩, ⟨thresholds, sag, front, rear, curve, line⟩⟩ := w.legal_iff.mp h
  have scalar (x : ScalarId) : (w.setBinding f b).scalar x = w.scalar x := by
    cases f <;> cases x <;> rfl
  have binding (g : Func) : ((w.setBinding f b).binding g).legal = true := by
    have kept := bindings g
    cases f <;> cases g <;> first | exact hb | exact kept
  have rest : (w.setBinding f b).ltc = w.ltc ∧ (w.setBinding f b).Ordered := by
    cases f <;> exact ⟨rfl, thresholds, sag, front, rear, curve, line⟩
  obtain ⟨ltc, ordered⟩ := rest
  refine (Settings.legal_iff _).mpr ⟨fun x => ?_, ⟨binding, ?_, ?_, ?_⟩, ordered⟩
  · unfold Settings.scalarInRange
    rw [scalar]
    exact scalars x
  · rw [ltc]; exact outputs
  · rw [ltc]; exact scenes
  · rw [ltc]; exact patterns

/-- A new list of outputs, scenes or patterns within its range, the scalars of LTC as they were. -/
theorem Settings.setLists_legal {w : Settings} (h : w.legal = true) {l : LtcSettings}
    (scalars : l = { w.ltc with outputs := l.outputs, scenes := l.scenes, sceneList := l.sceneList, patterns := l.patterns })
    (outputs : l.outputs.toList.all (fun o => o.nominal ≤ 1000) = true)
    (scenes : l.scenes.toList.all SceneLevels.legal = true) (patterns : l.patterns.toList.all patternLegal = true) :
    ({ w with ltc := l } : Settings).legal = true := by
  obtain ⟨inRange, listed, ordered⟩ := w.legal_iff.mp h
  have bindings := listed.bindings
  obtain ⟨thresholds, sag, front, rear, curve, line⟩ := ordered
  rw [scalars]
  refine (Settings.legal_iff _).mpr ⟨fun x => ?_, ⟨fun f => ?_, outputs, scenes, patterns⟩,
    ⟨thresholds, sag, front, rear, curve, line⟩⟩
  · have kept := inRange x
    cases x <;> exact kept
  · have kept := bindings f
    cases f <;> exact kept

theorem setPattern_legal {w : Settings} (h : w.legal = true) (k : Fin 8) {l : List PatternStep}
    (hl : patternLegal l = true) : (setPattern w k l).legal = true := by
  obtain ⟨_, ⟨_, outputs, scenes, patterns⟩, _⟩ := w.legal_iff.mp h
  exact Settings.setLists_legal h rfl outputs scenes (Eight.all_set patterns hl k)

/-! ### Values as bytes (R170) -/

theorem bindingOf_legal {v : List Byte} {b : Binding} (h : bindingOf v = some b) : b.legal = true := by
  unfold bindingOf at h
  split at h
  · dsimp only at h
    split at h
    next ok => cases h; exact ok.2
    next => cases h
  · cases h

theorem outputOf_nominal {v : List Byte} {o : OutputSetting} (h : outputOf v = some o) : o.nominal ≤ 1000 := by
  unfold outputOf at h
  split at h
  · split at h
    · split at h
      next ok => cases h; exact ok
      next => cases h
    · cases h
  · cases h

theorem sceneLevelsOf_legal {v : List Byte} {c : SceneLevels} (h : sceneLevelsOf v = some c) : c.legal = true := by
  unfold sceneLevelsOf at h
  split at h
  · cases h
    simp only [SceneLevels.legal, Bool.and_eq_true, decide_eq_true_eq]
    omega
  · cases h

/-- WRITE SETTING's range, then its order check, keep the settings legal (R170). -/
theorem writeValue_legal {w t : Settings} (h : w.legal = true) {i : SettingId} {v : List Byte}
    (written : writeValue w i v = some t) {position : Option Nat} (checked : i.inOrder t position = true) :
    t.legal = true := by
  obtain ⟨_, ⟨_, outputs, scenes, patterns⟩, _⟩ := w.legal_iff.mp h
  unfold writeValue at written
  cases i with
  | binding f =>
    obtain ⟨b, hb, rfl⟩ := Option.map_eq_some_iff.mp written
    exact Settings.setBinding_legal h f (bindingOf_legal hb)
  | scalar x =>
    dsimp only at written
    split at written
    · split at written
      next range => cases written; exact Settings.setScalar_legal h range.1 range.2 checked
      next => cases written
    · cases written
  | modeList =>
    obtain ⟨l, _, rfl⟩ := Option.map_eq_some_iff.mp written
    exact h
  | output k =>
    obtain ⟨o, ho, rfl⟩ := Option.map_eq_some_iff.mp written
    exact Settings.setLists_legal h rfl (Eight.all_set outputs (decide_eq_true (outputOf_nominal ho)) k) scenes patterns
  | scene k =>
    obtain ⟨c, hc, rfl⟩ := Option.map_eq_some_iff.mp written
    exact Settings.setLists_legal h rfl outputs (Four.all_set scenes (sceneLevelsOf_legal hc) k) patterns
  | sceneList =>
    obtain ⟨l, _, rfl⟩ := Option.map_eq_some_iff.mp written
    exact Settings.setLists_legal h rfl outputs scenes patterns
  | pattern k => cases written

/-! ### Whole copies loaded (R168, R169, R173) -/

theorem Settings.defaults_legal : Settings.defaults.legal = true := by decide

/-- Free settings are legal ones (entry 9). -/
theorem freeLegalSettings_legal (k : Nat) : (Config.freeLegalSettings k).legal = true := by
  unfold Config.freeLegalSettings
  split
  next h => exact h
  next => exact Settings.defaults_legal

/-- The defaults with the three winch settings of a copy are as legal as that copy (R173). -/
theorem loadedDefaults_legal {w : Settings} (h : w.legal = true) (record : Bool) :
    (loadedDefaults w record).legal = true := by
  cases record with
  | false => exact Settings.defaults_legal
  | true =>
    obtain ⟨scalars, _, ordered⟩ := w.legal_iff.mp h
    obtain ⟨inRange, listed, ⟨thresholds, sag, front, rear, curve, _⟩⟩ :=
      Settings.defaults.legal_iff.mp Settings.defaults_legal
    refine (Settings.legal_iff _).mpr ⟨fun x => ?_, ⟨fun f => ?_, listed.outputs, listed.scenes, listed.patterns⟩,
      ⟨thresholds, sag, front, rear, curve, ordered.line⟩⟩
    · have own := scalars x
      have default := inRange x
      cases x with
      | spoolCapacity | countEdge | lineReserve => exact own
      | _ => exact default
    · have kept := listed.bindings f
      cases f <;> exact kept

end Sys2Proof.Machine
end

section
/-! What every step keeps of BSV's power state, of the stored and working settings, of the pending pack save and of the
attention list: one relation between a state and its successor, kept along a chain, with a lemma for each operation. -/

namespace Sys2Proof.Machine

/-- What a step has to keep: the agreement of BSV's lines, timer, stage and power state (R38, R39, R45), the legality of
every stored and working setting (R171), a pack save pending under a busy engine only (R35), and the attention list
without repeats (R165). -/
structure State.Keeps (s t : State) : Prop where
  powered : s.bsv.Powered → t.bsv.Powered
  legal : s.pst.Legal → t.pst.Legal
  saveWaits : s.pst.SaveWaits → t.pst.SaveWaits
  attention : s.pli.AttentionOnce → t.pli.AttentionOnce

theorem State.Keeps.refl (s : State) : s.Keeps s := ⟨id, id, id, id⟩

theorem State.Keeps.trans {s t u : State} (h : s.Keeps t) (k : t.Keeps u) : s.Keeps u :=
  ⟨k.powered ∘ h.powered, k.legal ∘ h.legal, k.saveWaits ∘ h.saveWaits, k.attention ∘ h.attention⟩

/-- A change that leaves BSV, PST and the attention list as they were keeps all four. -/
theorem State.Keeps.of_eq {s t : State} (hb : t.bsv = s.bsv) (hs : t.pst = s.pst)
    (ha : t.pli.attention = s.pli.attention) : s.Keeps t := by
  refine ⟨fun h => hb ▸ h, fun h => hs ▸ h, fun h => hs ▸ h, fun h => ?_⟩
  unfold PitLink.AttentionOnce
  rw [ha]
  exact h

/-- A change of BSV alone that keeps its agreement. -/
theorem State.Keeps.of_bsv {s t : State} (hb : s.bsv.Powered → t.bsv.Powered) (hs : t.pst = s.pst) (hp : t.pli = s.pli) :
    s.Keeps t := ⟨hb, fun h => hs ▸ h, fun h => hs ▸ h, fun h => hp ▸ h⟩

/-- A change of PLI that takes entries from the attention list at most. -/
theorem State.setPli_keeps (s : State) {p : PitLink} (h : p.attention.Sublist s.pli.attention) : s.Keeps (s.setPli p) :=
  ⟨id, id, id, fun once => once.sublist h⟩

/-- A change of PST alone. -/
theorem State.setPst_keeps (s : State) {p : Store} (legal : s.pst.Legal → p.Legal)
    (saveWaits : s.pst.SaveWaits → p.SaveWaits) : s.Keeps (s.setPst p) := ⟨id, legal, saveWaits, id⟩

/-! ### BSV's lines, timer and states (R38 to R46) -/

/-- BSV's agreement sees the lines, the timer, the stage and the power state only. -/
theorem Battery.Powered.congr {b c : Battery} (h : b.Powered) (stage : c.stage = b.stage) (power : c.power = b.power)
    (rail : c.railEn = b.railEn) (timer : c.parkTimer = b.parkTimer) (hold : c.pwrHold = b.pwrHold) : c.Powered := by
  unfold Battery.Powered
  rw [stage, power, rail, timer, hold]
  exact h

theorem Battery.reset_powered (cause : ResetCause) : (Battery.reset cause).Powered := by
  simp [Battery.Powered, Battery.reset]

/-- The timer may run in ACTIVE outside IDENT. -/
theorem State.restartParkTimer_keeps (s : State) : s.Keeps s.restartParkTimer := by
  refine .of_bsv (fun h => ?_) (by simp) (by simp)
  unfold State.restartParkTimer
  split
  next runs =>
    obtain ⟨rail, _, ident, hold, shutdown, down⟩ := h
    exact ⟨rail, fun _ => runs, ident, hold, shutdown, down⟩
  next => exact h

theorem State.wake_keeps (s : State) : s.Keeps s.wake := by
  refine .of_bsv (fun h => ?_) (by simp) (by simp)
  rw [State.wake_bsv]
  split
  next parked =>
    obtain ⟨_, _, ident, hold, shutdown, _⟩ := h
    simp only [parked, reduceCtorEq, imp_false] at ident hold shutdown
    simp [Battery.Powered, Battery.woken, ident, hold, shutdown]
  next => exact h

/-- PWR_HOLD is released in SHUTDOWN only (R46). -/
theorem State.releasePower_keeps {s : State} (h : s.bsv.power = .shutdown) : s.Keeps s.releasePower := by
  refine .of_bsv (fun powered => ?_) rfl rfl
  obtain ⟨rail, timer, ident, _, shutdown, down⟩ := powered
  exact ⟨rail, timer, ident, fun _ => h, shutdown, down⟩

/-! ### Pack record saves (R35) -/

theorem State.beginPackSave_keeps (s : State) : s.Keeps s.beginPackSave := by
  refine s.setPst_keeps (fun h => ?_) fun _ pending => ?_
  · obtain ⟨working, p0, p1, p2, p3, _⟩ := h
    exact ⟨working, p0, p1, p2, p3, fun _ _ => nofun⟩
  · cases pending

theorem State.requestPackSave_keeps (s : State) : s.Keeps s.requestPackSave := by
  unfold State.requestPackSave
  split
  · exact .refl s
  split
  · exact s.beginPackSave_keeps
  next busy => exact s.setPst_keeps (fun h => h) fun _ _ => busy

/-- The entry to PARKED from ACTIVE (R42). -/
theorem State.enterParked_keeps {s : State} (h : s.bsv.Powered → s.bsv.power = .active ∧ s.bsv.stage ≠ .ident) :
    s.Keeps s.enterParked := by
  refine State.Keeps.trans (t := s.setBsv s.bsv.parked) (.of_bsv (fun powered => ?_) rfl rfl)
    (State.requestPackSave_keeps _)
  obtain ⟨active, stage⟩ := h powered
  obtain ⟨_, _, _, hold, shutdown, _⟩ := powered
  simp only [active, reduceCtorEq, imp_false] at hold shutdown
  simp [Battery.Powered, Battery.parked, stage, hold, shutdown]

/-! ### A scan (R21) -/

theorem Battery.account_lines (b : Battery) (n : Nat) :
    (b.account n).stage = b.stage ∧ (b.account n).power = b.power ∧ (b.account n).railEn = b.railEn ∧
      (b.account n).parkTimer = b.parkTimer ∧ (b.account n).pwrHold = b.pwrHold := by
  unfold Battery.account
  split <;> exact ⟨rfl, rfl, rfl, rfl, rfl⟩

theorem State.measure_keeps (s : State) (r : Readings) : s.Keeps (s.measure r) := by
  obtain ⟨stage, power, rail, timer, hold⟩ :=
    (s.bsv.record s.w.bsv r).account_lines (s.bsv.nextScan.interval s.free)
  unfold State.measure
  refine .of_bsv (fun h => ?_) (by simp) (by simp)
  rw [State.drawnIf_bsv]
  exact h.congr stage power rail timer hold

/-- The first stage after identification is NORMAL, WARN or LIMIT (R27). -/
theorem Battery.identified_running (b : Battery) (w : BsvSettings) (average charge : Nat) :
    (b.identified w average charge).stage.running = true := by
  unfold Battery.identified initialStage
  dsimp only
  repeat' split
  all_goals rfl

/-- A scan moves a running stage among NORMAL, WARN and LIMIT, or to CUT (R30, R32, R33). -/
theorem Battery.stageAfter_running {b : Battery} (h : b.stage.running = true) (r : Runs) (gate : Bool) :
    (b.stageAfter r gate).running = true ∨ b.stageAfter r gate = .cut := by
  unfold Battery.stageAfter
  repeat' split
  all_goals simp_all [Stage.running]

/-- BSV's agreement stands when a stage of IDENT, NORMAL, WARN or LIMIT in ACTIVE or PARKED becomes one of NORMAL, WARN,
LIMIT and CUT with all else as it was. -/
theorem Battery.Powered.restaged {b c : Battery} (h : b.Powered) (before : b.stage = .ident ∨ b.stage.running = true)
    (after : c.stage.running = true ∨ c.stage = .cut) (power : c.power = b.power) (rail : c.railEn = b.railEn)
    (timer : c.parkTimer = b.parkTimer) (hold : c.pwrHold = b.pwrHold) : c.Powered := by
  obtain ⟨lines, runs, ident, held, shutdown, down⟩ := h
  have b_stage : b.stage ≠ .fault ∧ b.stage ≠ .shutdown ∧ b.stage ≠ .cut := by
    rcases before with h | h
    · rw [h]; decide
    · refine ⟨?_, ?_, ?_⟩ <;> (intro e; rw [e] at h; cases h)
  have c_stage : c.stage ≠ .fault ∧ c.stage ≠ .shutdown ∧ c.stage ≠ .ident := by
    rcases after with h | h
    · refine ⟨?_, ?_, ?_⟩ <;> (intro e; rw [e] at h; cases h)
    · rw [h]; decide
  obtain ⟨b_fault, b_shutdown, b_cut⟩ := b_stage
  obtain ⟨c_fault, c_shutdown, c_ident⟩ := c_stage
  have up : b.power ≠ .shutdown := fun e => by
    rcases down e with h | h | h
    exacts [b_shutdown h, b_cut h, b_fault h]
  unfold Battery.Powered
  rw [power, rail, timer, hold]
  refine ⟨?_, fun e => ⟨(runs e).1, c_ident⟩, fun e => absurd e c_ident, held, fun e => absurd e c_shutdown,
    fun e => absurd e up⟩
  simpa [b_fault, c_fault] using lines

theorem Battery.identFault_powered {b : Battery} (h : b.Powered) (ident : b.stage = .ident) : b.identFault.Powered := by
  obtain ⟨_, runs, active, held, _, _⟩ := h
  have power := active ident
  have timer : b.parkTimer = none := by
    by_contra e
    exact (runs e).2 ident
  simp only [power, reduceCtorEq, imp_false] at held
  simp [Battery.Powered, Battery.identFault, Battery.freshRuns, power, timer, held]

/-- PACK_CHANGED queued stands in the list once (R165). -/
theorem queueAttention_nodup {l : List Attention} (h : l.Nodup) (a : Attention) : (queueAttention l a).Nodup := by
  unfold queueAttention
  split
  next => exact h
  next new => simpa [List.nodup_append] using ⟨h, fun b hb e => new (e ▸ hb)⟩

theorem State.identify_keeps {s : State} (ident : s.bsv.stage = .ident) : s.Keeps s.identify := by
  have identified (average charge : Nat) :
      s.Keeps (s.setBsv (s.bsv.identified s.w.bsv average charge)).restartParkTimer :=
    State.Keeps.trans (t := s.setBsv (s.bsv.identified s.w.bsv average charge))
      (.of_bsv (fun h => h.restaged (.inl ident) (.inl (Battery.identified_running ..)) rfl rfl rfl rfl) rfl rfl)
      (State.restartParkTimer_keeps _)
  unfold State.identify
  split
  · exact State.Keeps.trans (t := s.setBsv s.bsv.identFault)
      (.of_bsv (fun h => Battery.identFault_powered h ident) rfl rfl) (State.restartParkTimer_keeps _)
  split
  · exact identified _ _
  · refine (identified s.bsv.restingAverage 0).trans (State.Keeps.trans ?_ (State.requestPackSave_keeps _))
    exact ⟨id, id, id, fun once => queueAttention_nodup once _⟩

theorem State.supervise_keeps (s : State) : s.Keeps s.supervise := by
  have supervised : s.Keeps (s.setBsv (s.bsv.supervise s.w.bsv)) := by
    refine .of_bsv (fun h => ?_) rfl rfl
    rw [State.setBsv_bsv]
    unfold Battery.supervise
    split
    next running => exact h.restaged (.inr running) (Battery.stageAfter_running running _ _) rfl rfl rfl rfl
    next => exact h
  unfold State.supervise
  dsimp only
  split
  · exact supervised.trans (State.requestPackSave_keeps _)
  · exact supervised

theorem State.stageStep_keeps (s : State) : s.Keeps s.stageStep := by
  unfold State.stageStep
  split
  next ident =>
    split
    · exact State.identify_keeps ident
    · exact .of_bsv (fun h => h.congr rfl rfl rfl rfl rfl) rfl rfl
  next => exact s.supervise_keeps

/-- Supervision does not enter IDENT. -/
theorem Battery.supervise_stage {b : Battery} (h : b.stage ≠ .ident) (w : BsvSettings) :
    (b.supervise w).stage ≠ .ident := by
  unfold Battery.supervise
  split
  next running =>
    intro e
    have after := Battery.stageAfter_running running (b.runs w (b.gateNow w)) (b.gateNow w)
    rw [show b.stageAfter _ _ = Stage.ident from e] at after
    rcases after with h | h <;> cases h
  next => exact h

/-- Outside IDENT a scan does not enter IDENT. -/
theorem State.stageStep_stage {s : State} (h : s.bsv.stage ≠ .ident) : s.stageStep.bsv.stage ≠ .ident := by
  have supervised := Battery.supervise_stage h s.w.bsv
  unfold State.stageStep State.supervise
  rw [if_neg h]
  dsimp only
  split
  · simpa using supervised
  · exact supervised

/-- The entry to SHUTDOWN from a stage other than IDENT (R45). -/
theorem Battery.shutdown_powered {b : Battery} (h : b.stage ≠ .ident) : b.shutdown.Powered := by
  unfold Battery.Powered Battery.shutdown Battery.stageDown
  cases stage : b.stage <;> simp_all [Stage.running]

theorem State.enterShutdown_keeps {s : State} (h : s.bsv.stage ≠ .ident) : s.Keeps s.enterShutdown := by
  have saved : s.Keeps (s.setBsv s.bsv.shutdown).requestPackSave :=
    State.Keeps.trans (t := s.setBsv s.bsv.shutdown) (.of_bsv (fun _ => Battery.shutdown_powered h) rfl rfl)
      (State.requestPackSave_keeps _)
  unfold State.enterShutdown
  dsimp only
  split
  · refine saved.trans (State.releasePower_keeps ?_)
    rw [State.requestPackSave_bsv]
    rfl
  · exact saved

theorem State.storageStep_keeps {s : State} {wasIdent : Bool} (h : wasIdent = false → s.bsv.stage ≠ .ident) :
    s.Keeps (s.storageStep wasIdent) := by
  unfold State.storageStep
  cases wasIdent with
  | true => exact .refl s
  | false =>
    have counted (n : Nat) : s.Keeps (s.setBsv { s.bsv with storageRun := n }) :=
      .of_bsv (fun p => p.congr rfl rfl rfl rfl rfl) rfl rfl
    simp only [Bool.false_eq_true, if_false]
    split
    · exact (counted _).trans (State.enterShutdown_keeps (h rfl))
    · exact counted _

theorem State.idleStep_keeps (s : State) : s.Keeps s.idleStep := by
  unfold State.idleStep
  dsimp only
  split
  · exact s.restartParkTimer_keeps.trans (.of_eq rfl rfl rfl)
  · exact .of_eq rfl rfl rfl

theorem State.budgetPass_keeps (s : State) : s.Keeps s.budgetPass := by
  unfold State.budgetPass
  split <;> exact .of_eq rfl rfl rfl

theorem State.scan_keeps (s : State) (r : Readings) : s.Keeps (s.scan r) := by
  unfold State.scan
  split
  · exact .refl s
  have stage : (s.measure r).bsv.stage = s.bsv.stage := by
    unfold State.measure
    rw [State.drawnIf_bsv]
    exact (Battery.account_lines _ _).1
  refine ((((s.measure_keeps r).trans (State.stageStep_keeps _)).trans (State.storageStep_keeps fun h => ?_)).trans
    (State.idleStep_keeps _)).trans (State.budgetPass_keeps _)
  exact State.stageStep_stage (stage ▸ of_decide_eq_false h)

end Sys2Proof.Machine
end

section
/-! What every command keeps of BSV, of PST and of the attention list: the store's operations, the request blocks, the
frames and the winch, and then each command. -/

namespace Sys2Proof.Machine

theorem State.drawnIf_keeps (s : State) (c : Bool) : s.Keeps (s.drawnIf c) := .of_eq (by simp) (by simp) (by simp)

/-! ### The store (R168 to R173) -/

/-- A load gives legal settings from a legal array (R168, entry 9). -/
theorem Store.load_legal {p : Store} (h : p.Legal) (k : Fin 4) (free : Nat) : (p.load k free).legal = true := by
  obtain ⟨_, p0, p1, p2, p3, _⟩ := h
  have slot : (p.slots.get k).Legal := by
    fin_cases k
    exacts [p0, p1, p2, p3]
  unfold Store.load
  split
  · exact Settings.defaults_legal
  · unfold StoredProfile.read
    split
    next v hv => exact slot v hv
    next => exact freeLegalSettings_legal free

/-- A slot replaced by a legal record. -/
theorem Store.Legal.setSlot {p : Store} (h : p.Legal) (k : Fin 4) {r : StoredProfile} (hr : r.Legal) :
    ({ p with slots := p.slots.set k r } : Store).Legal := by
  obtain ⟨working, p0, p1, p2, p3, commit⟩ := h
  fin_cases k
  exacts [⟨working, hr, p1, p2, p3, commit⟩, ⟨working, p0, hr, p2, p3, commit⟩, ⟨working, p0, p1, hr, p3, commit⟩,
    ⟨working, p0, p1, p2, hr, commit⟩]

/-- A commit in progress programs legal settings. -/
theorem Store.Legal.commit {p : Store} (h : p.Legal) {k : Fin 4} {v : Settings} (engine : p.engine = .commit k v) :
    v.legal = true := by
  obtain ⟨_, _, _, _, _, commit⟩ := h
  exact commit k v engine

theorem StoredProfile.invalid_legal (crc : Crc16) : (StoredProfile.invalid crc).Legal := by
  intro v h
  cases h

theorem Store.powerOn_keeps {p : Store} (h : p.Legal) : p.powerOn.Legal ∧ p.powerOn.SaveWaits := by
  obtain ⟨_, p0, p1, p2, p3, _⟩ := h
  refine ⟨⟨?_, p0, p1, p2, p3, fun _ _ e => by cases e⟩, fun e => by cases e⟩
  obtain ⟨loaded, defaults⟩ := p.powerOn_working
  cases slot : p.slots.get p.powerOn.active with
  | invalid crc =>
    rw [defaults fun v e => by rw [slot] at e; cases e]
    exact Settings.defaults_legal
  | valid v =>
    rw [loaded v slot]
    have legal : (p.slots.get p.powerOn.active).Legal := by
      generalize p.powerOn.active = k
      fin_cases k
      exacts [p0, p1, p2, p3]
    exact legal v slot

/-- The working copy replaced by a legal one, with the array, the engine and the pending save as they were. -/
theorem State.setWorking_keeps (s : State) {w : Settings} (h : s.pst.Legal → w.legal = true) : s.Keeps (s.setWorking w) := by
  refine ⟨id, fun legal => ?_, id, id⟩
  obtain ⟨_, p0, p1, p2, p3, commit⟩ := legal
  exact ⟨h ⟨‹_›, p0, p1, p2, p3, commit⟩, p0, p1, p2, p3, commit⟩

theorem State.stage_keeps (s : State) (st : Option Staging) : s.Keeps (s.stage st) := s.setPst_keeps id id

theorem State.replaceWorking_keeps (s : State) {w : Settings} (h : s.pst.Legal → w.legal = true) :
    s.Keeps (s.replaceWorking w) :=
  (s.setWorking_keeps h).trans ((State.stage_keeps _ none).trans (.of_eq rfl rfl rfl))

theorem State.selectProfile_keeps (s : State) (k : Fin 4) : s.Keeps (s.selectProfile k) := by
  have loaded := s.replaceWorking_keeps (w := s.pst.load k s.free) fun h => Store.load_legal h k s.free
  unfold State.selectProfile
  exact (loaded.trans (.of_eq (by simp) (by simp) (by simp))).trans (State.setPst_keeps _ id id)

theorem State.writePattern_keeps (s : State) (k : Fin 8) {l : List PatternStep} (h : patternLegal l = true) :
    s.Keeps (s.writePattern k l) := by
  refine (s.stage_keeps none).trans (State.Keeps.trans (State.setWorking_keeps _ (w := setPattern s.w k l) fun legal => ?_)
    (.of_eq rfl rfl rfl))
  obtain ⟨working, _⟩ := legal
  exact setPattern_legal working k h

/-! ### The program engine (R172) -/

theorem State.engineIdle_keeps (s : State) (last : Bool) : s.Keeps (s.engineIdle last) := by
  have idle : (s.setPst { s.pst with engine := .idle }).pst.packPending = false →
      s.Keeps (s.setPst { s.pst with engine := .idle }) := by
    intro none
    refine s.setPst_keeps (fun h => ?_) fun _ pending => absurd pending (by simpa using none)
    obtain ⟨working, p0, p1, p2, p3, _⟩ := h
    exact ⟨working, p0, p1, p2, p3, fun _ _ e => by cases e⟩
  unfold State.engineIdle
  dsimp only
  split
  next pending =>
    refine ⟨id, fun h => ?_, fun _ e => (by cases e), id⟩
    obtain ⟨working, p0, p1, p2, p3, _⟩ := h
    exact ⟨working, p0, p1, p2, p3, fun _ _ e => by cases e⟩
  next free =>
    have none : (s.setPst { s.pst with engine := .idle }).pst.packPending = false := by simpa using free
    split
    next down => exact (idle none).trans (State.releasePower_keeps down.1)
    next => exact idle none

theorem State.beginCommit_keeps (s : State) : s.Keeps s.beginCommit := by
  refine ⟨id, fun h => ?_, fun _ _ e => (by cases e), id⟩
  have slots := h.setSlot s.pst.active (StoredProfile.invalid_legal (Config.freeCrc s.free))
  obtain ⟨working, p0, p1, p2, p3, _⟩ := slots
  refine ⟨working, p0, p1, p2, p3, fun k v e => ?_⟩
  cases e
  exact working

/-- The end of a programming leaves the attention list. -/
theorem PitLink.commitEnded_attention (p : PitLink) (verified : Bool) :
    (p.commitEnded verified).attention = p.attention := by
  unfold PitLink.commitEnded PitLink.completeOwedCheck PitLink.completeOwed
  repeat' split
  all_goals rfl

theorem PitLink.saveEnded_attention (p : PitLink) (verified : Bool) :
    (p.saveEnded verified).attention = p.attention := by
  unfold PitLink.saveEnded
  split <;> rfl

theorem Store.committed_legal {p : Store} (h : p.Legal) {k : Fin 4} {v : Settings} (hv : v.legal = true)
    (verified : Bool) (free : Nat) : (p.committed k v verified free).Legal := by
  refine h.setSlot k ?_
  cases verified with
  | false => exact StoredProfile.invalid_legal _
  | true => intro u hu; cases hu; exact hv

theorem execCommitProgrammingEnd_keeps (verified : Bool) {s t : State}
    (h : execCommitProgrammingEnd verified s = .next t) : s.Keeps t := by
  unfold execCommitProgrammingEnd at h
  split at h
  next slot contents engine =>
    cases h
    refine State.Keeps.trans ?_ (State.engineIdle_keeps _ _)
    refine State.Keeps.trans ?_ (State.drawnIf_keeps _ _)
    refine (s.setPst_keeps (p := s.pst.committed slot contents verified s.free) (fun legal => ?_) id).trans
      (.of_eq rfl rfl (s.pli.commitEnded_attention verified))
    exact Store.committed_legal legal (legal.commit engine) _ _
  next => cases h; exact .refl s

theorem execPackSaveEnd_keeps (verified : Bool) {s t : State} (h : execPackSaveEnd verified s = .next t) :
    s.Keeps t := by
  unfold execPackSaveEnd at h
  split at h
  next r _ =>
    cases h
    refine State.Keeps.trans ?_ (State.engineIdle_keeps _ _)
    exact (s.setPst_keeps (p := s.pst.saved r verified) id id).trans (.of_eq rfl rfl (s.pli.saveEnded_attention verified))
  next => cases h; exact .refl s

/-! ### Resets (R47, R48) -/

theorem State.powerOn_keeps (s : State) (cause : ResetCause) : s.Keeps (s.powerOn cause) := by
  refine ⟨fun _ => Battery.reset_powered cause, fun h => (Store.powerOn_keeps h).1, fun _ e => (by cases e), fun _ => ?_⟩
  show s.pst.powerOn.startAttention.Nodup
  unfold Store.startAttention
  split <;> decide

theorem State.requestReset_keeps (s : State) : s.Keeps s.requestReset := by
  unfold State.requestReset
  dsimp only
  refine State.Keeps.trans ?_ (State.drawnIf_keeps _ _)
  refine State.Keeps.trans ?_ (State.restartParkTimer_keeps _)
  refine ⟨fun h => h.congr rfl rfl rfl rfl rfl, fun h => ?_, id, fun _ => List.nodup_singleton _⟩
  have loaded := Store.load_legal h s.pst.active s.free
  obtain ⟨_, p0, p1, p2, p3, commit⟩ := h
  exact ⟨loaded, p0, p1, p2, p3, commit⟩

/-! ### Request blocks (R160 to R162) -/

/-- The part is identified and ACTIVE, as it is when a block that is not exempt reaches step 4 of R160. -/
def State.Up (s : State) : Prop := s.bsv.power = .active ∧ s.bsv.stage ≠ .ident

theorem State.answerBlock_keeps (s : State) (bt : Batch) (l : Bool) (e : ReplyEntry) :
    s.Keeps (s.setPli (s.pli.answerBlock bt l e)) := by
  obtain ⟨_, _, _, attention⟩ := s.pli.answerBlock_kept bt l e
  exact .of_eq rfl rfl attention

theorem State.busyBlock_keeps (s : State) (bt : Batch) (l : Bool) (c : Byte) (k : SenseKind) :
    s.Keeps (s.busyBlock bt l c k) := s.answerBlock_keeps _ _ _

theorem State.checkBlock_keeps (s : State) (bt : Batch) (l : Bool) (c : Byte) (e : Sense) (tail : List Byte) :
    s.Keeps (s.checkBlock bt l c e tail) := by
  obtain ⟨_, _, _, attention⟩ :=
    PitLink.answerBlock_kept { s.pli with sense := e } bt l ⟨c, .check, e.toBytes ++ tail⟩
  exact .of_eq rfl rfl attention

theorem State.executed_keeps (s : State) (exempt : Bool) : s.Keeps (s.executed exempt) := by
  cases exempt
  · exact s.restartParkTimer_keeps
  · exact .refl s

theorem finishBlock_keeps (bt : Batch) (l : Bool) (c : Byte) (exempt : Bool) (a : Answer) :
    a.state.Keeps (finishBlock bt l c exempt a) := by
  cases a with
  | good s d => exact (s.answerBlock_keeps _ _ _).trans (State.executed_keeps _ _)
  | owes s =>
    exact State.Keeps.trans (t := s.setPli (s.pli.owe bt c)) (.of_eq rfl rfl rfl) (State.executed_keeps _ _)
  | check s k => exact (s.checkBlock_keeps _ _ _ _ _).trans (State.executed_keeps _ _)
  | busy s k => exact s.busyBlock_keeps _ _ _ _

theorem runForm_keeps (bt : Batch) (l : Bool) (req : Option Request) (c : Byte) (exempt : Bool)
    {m : Bool → State → Answer} {s : State} (h : s.Keeps (m l s).state) : s.Keeps (runForm bt l req c exempt m s) := by
  unfold runForm
  split
  · exact finishBlock_keeps bt l c exempt (.check s .badParameter)
  · exact h.trans (finishBlock_keeps bt l c exempt _)

theorem runReports_keeps (bt : Batch) (l : Bool) (req : Option Request) (c : Byte) {m : Bool → State → Answer}
    {s : State} (h : s.Keeps (m l s).state) : s.Keeps (runReports bt l req c m s) := by
  unfold runReports
  split
  next a rest attention =>
    have taken : s.Keeps (s.setPli { s.pli with attention := rest }) :=
      s.setPli_keeps (by rw [attention]; exact List.sublist_cons_self a rest)
    exact (taken.trans (State.checkBlock_keeps _ _ _ _ _ _)).trans (State.restartParkTimer_keeps _)
  next d _ =>
    have taken : s.Keeps (s.setPli { s.pli with deferred := none }) := .of_eq rfl rfl rfl
    exact (taken.trans (State.checkBlock_keeps _ _ _ _ _ _)).trans (State.restartParkTimer_keeps _)
  next => exact runForm_keeps bt l req c false h

/-- A wake source taken outside IDENT and SHUTDOWN leaves the part up (R44). -/
theorem State.wake_up {s : State} (stage : s.bsv.stage ≠ .ident) (power : s.bsv.power ≠ .shutdown) : s.wake.Up := by
  unfold State.Up
  rw [State.wake_bsv]
  split
  · exact ⟨rfl, stage⟩
  next awake =>
    refine ⟨?_, stage⟩
    cases h : s.bsv.power
    · rfl
    · exact absurd h awake
    · exact absurd h power

theorem runNonExempt_keeps (bt : Batch) (l : Bool) (req : Option Request) (c : Byte) {m : Bool → State → Answer}
    {s : State} (h : ∀ t : State, t.Up → t.Keeps (m l t).state) : s.Keeps (runNonExempt bt l req c m s) := by
  unfold runNonExempt
  split
  · exact s.busyBlock_keeps _ _ _ _
  next stage =>
  split
  · exact s.busyBlock_keeps _ _ _ _
  next power =>
  split
  · exact s.busyBlock_keeps _ _ _ _
  have up := State.wake_up stage power
  split
  · exact s.wake_keeps.trans (runForm_keeps bt l req c false (h _ up))
  · exact s.wake_keeps.trans (runReports_keeps bt l req c (h _ up))

/-- A block keeps what its meaning keeps; that of a request which is not exempt runs on a part that is up. -/
theorem State.runBlock_keeps (s : State) (req : Option Request) (c : Byte) (b : Block) {m : Bool → State → Answer}
    (h : ∀ (l : Bool) (t : State), (isExempt req = false → t.Up) → t.Keeps (m l t).state) :
    s.Keeps (s.runBlock req c b m) := by
  unfold State.runBlock
  dsimp only
  split
  · exact s.answerBlock_keeps _ _ _
  split
  · exact s.busyBlock_keeps _ _ _ _
  split
  next exempt => exact runForm_keeps _ _ _ _ _ (h _ _ fun e => by rw [exempt] at e; cases e)
  next => exact runNonExempt_keeps _ _ _ _ fun t up => h _ t fun _ => up

/-- A request whose meaning needs nothing of the power state. -/
theorem State.runRequest_keeps (s : State) (r : Request) (b : Block) {m : Bool → State → Answer}
    (h : ∀ (l : Bool) (t : State), t.Keeps (m l t).state) : s.Keeps (s.runRequest r b m) :=
  s.runBlock_keeps (some r) r.code b fun l t _ => h l t

theorem withParam_keeps {α : Type} {s : State} {p : Option α} {k : α → Answer}
    (h : ∀ a, p = some a → s.Keeps (k a).state) : s.Keeps (withParam s p k).state := by
  cases p with
  | none => exact .refl s
  | some a => exact h a rfl

theorem whenLast_keeps {s : State} {l : Bool} {k : Answer} (h : s.Keeps k.state) : s.Keeps (whenLast s l k).state := by
  cases l
  · exact .refl s
  · exact h

theorem whenStoreFree_keeps {s : State} {k : Answer} (h : s.Keeps k.state) : s.Keeps (whenStoreFree s k).state := by
  unfold whenStoreFree
  split
  · exact h
  · exact .refl s

end Sys2Proof.Machine
end

section
/-! Each command keeps BSV's agreement, the settings' legality, the pending save's engine and the attention list (O6, O8,
O9). -/

namespace Sys2Proof.Machine

/-! ### Operations that reach neither BSV nor PST, and add nothing to the attention list -/

theorem State.setWnc_keeps (s : State) (b : Winch) : s.Keeps (s.setWnc b) := .of_eq rfl rfl rfl
theorem State.setAu_keeps (s : State) (b : Authority) : s.Keeps (s.setAu b) := .of_eq rfl rfl rfl
theorem State.setRxl_keeps (s : State) (b : Receiver) : s.Keeps (s.setRxl b) := .of_eq rfl rfl rfl

theorem State.winchBoundary_keeps (s : State) : s.Keeps s.winchBoundary := .of_eq (by simp) (by simp) (by simp)

theorem PitLink.operationEnded_attention (p : PitLink) (r : OpRecord) (o : Option SenseKind) :
    (p.operationEnded r o).attention = p.attention := by
  rw [PitLink.operationEnded_eq]
  unfold PitLink.withResult
  split <;> rfl

theorem State.endOperation_keeps (s : State) (o : Option SenseKind) : s.Keeps (s.endOperation o) := by
  refine .of_eq (by simp) (by simp) ?_
  cases h : s.wnc.record with
  | none => rw [s.endOperation_none o h]
  | some r => rw [State.endOperation_pli o h, PitLink.operationEnded_attention]

theorem State.takeEnding_keeps (s : State) (e : Ending) : s.Keeps (s.takeEnding e) := by
  cases e with
  | none => exact .refl s
  | some o => exact s.endOperation_keeps o

theorem State.give_keeps (s : State) (r : Row) (h : Holder) : s.Keeps (s.give r h) := by
  refine .of_eq (by simp) ?_ (by simp)
  cases r <;> simp [State.give]

theorem State.radioTakesWinch_keeps (s : State) : s.Keeps s.radioTakesWinch :=
  (s.setAu_keeps _).trans (State.endOperation_keeps _ _)

theorem State.DriveOnly.keeps {s t : State} (h : s.DriveOnly t) : s.Keeps t := .of_eq h.bsv h.pst (by rw [h.pli])
theorem State.SteerOnly.keeps {s t : State} (h : s.SteerOnly t) : s.Keeps t := .of_eq h.bsv h.pst (by rw [h.pli])
theorem State.GearOnly.keeps {s t : State} (h : s.GearOnly t) : s.Keeps t := .of_eq h.bsv h.pst (by rw [h.pli])

/-! ### The receiver link (R8, R10, R43, R153) -/

theorem State.winchLive_keeps (s : State) : s.Keeps s.winchLive := by
  unfold State.winchLive
  split
  · split
    · exact .of_eq (by simp) (by simp) (by simp)
    · exact .refl s
  · exact s.radioTakesWinch_keeps
  · exact s.radioTakesWinch_keeps
  · exact .refl s

theorem State.winchPublished_keepsSupply (s : State) (before : Option Int) : s.Keeps (s.winchPublished before) := by
  unfold State.winchPublished
  split
  · exact .of_eq (by simp) (by simp) (by simp)
  · exact .of_eq rfl rfl rfl
  · split
    · exact .of_eq (by simp) (by simp) (by simp)
    · exact .refl s
  · split
    · exact s.radioTakesWinch_keeps
    · exact .refl s
  · exact .refl s

theorem State.enterLive_keeps (s : State) : s.Keeps s.enterLive :=
  (s.driveLive_only.keeps.trans (State.steerLive_only _).keeps).trans
    ((State.gearLive_only _).keeps.trans (State.winchLive_keeps _))

theorem State.reportLink_keeps (s : State) (before : LinkState) : s.Keeps (s.reportLink before) := by
  unfold State.reportLink
  split
  · exact .refl s
  split
  · exact s.enterLive_keeps
  · rw [State.enterLost_eq]
    exact .of_eq rfl rfl rfl
  · exact .refl s

theorem State.publish_keeps (s : State) (before : Option Int) : s.Keeps (s.publish before) := by
  have rows : s.Keeps (s.litPublished before) :=
    ((s.drivePublished_only.keeps.trans (State.steerPublished_only _).keeps).trans
      ((State.gearPublished_only _).keeps.trans (State.winchPublished_keepsSupply _ before))).trans (.of_eq rfl rfl rfl)
  rw [State.publish_wakes]
  split
  · exact rows.trans (State.wake_keeps _)
  · exact rows

theorem State.takeFrame_keeps (s : State) (f : ReceiverFrame) : s.Keeps (s.takeFrame f) := by
  have moved : s.Keeps ((s.setRxl (s.rxl.afterFrame s.w.rxl f)).reportLink s.rxl.link) :=
    (s.setRxl_keeps _).trans (State.reportLink_keeps _ _)
  unfold State.takeFrame
  dsimp only
  split
  · exact moved.trans (State.publish_keeps _ _)
  · exact moved

/-! ### The winch's update and pulse -/

theorem State.jam_keeps (s : State) : s.Keeps s.jam := by
  unfold State.jam
  split
  · split
    · exact .of_eq rfl rfl rfl
    · exact (s.setWnc_keeps { s.wnc with mode := .jammed }).trans (State.endOperation_keeps _ _)
  · exact .of_eq rfl rfl rfl

theorem State.judgeTension_keeps (s : State) : s.Keeps s.judgeTension := by
  unfold State.judgeTension
  split
  · split
    · exact s.endOperation_keeps none
    · exact .refl s
  · exact .refl s

theorem State.judgeJam_keeps (s : State) : s.Keeps s.judgeJam := by
  unfold State.judgeJam
  split
  · exact s.jam_keeps
  · exact .refl s

theorem State.winchMeasure_keeps (s : State) : s.Keeps s.winchMeasure := by
  have tension := (s.setWnc_keeps (s.wnc.measureTension s.bsv.winchCurrent)).trans (State.judgeTension_keeps _)
  exact ((tension.trans (State.setWnc_keeps _ _)).trans (State.judgeJam_keeps _)).trans (State.setWnc_keeps _ _)

theorem execWinchUpdateExpiry_keeps (level : Bool) {s t : State} (h : execWinchUpdateExpiry level s = .next t) :
    s.Keeps t := by
  cases h
  have ended : s.Keeps (s.winchRead level).winchEnd := (s.setWnc_keeps _).trans (State.takeEnding_keeps _ _)
  have driven := (ended.trans (State.setWnc_keeps _ _)).trans (State.winchMeasure_keeps (s.winchRead level).winchEnd.winchDrive)
  exact driven.trans (.of_eq rfl rfl rfl)

theorem State.drumPulse_keeps (s : State) : s.Keeps s.drumPulse := by
  have ended := (s.setWnc_keeps (s.wnc.countPulse s.w.wnc.lineReserve)).trans (State.takeEnding_keeps _
    (s.setWnc (s.wnc.countPulse s.w.wnc.lineReserve)).wnc.pulseEnding)
  exact (ended.trans (State.setWnc_keeps _ _)).trans (State.winchBoundary_keeps _)

theorem execHookHomeArrival_keeps {s t : State} (h : execHookHomeArrival s = .next t) : s.Keeps t := by
  unfold execHookHomeArrival at h
  dsimp only at h
  split at h
  · cases h; exact s.setWnc_keeps _
  · cases h; exact (s.setWnc_keeps _).trans (State.takeEnding_keeps _ _)

/-! ### The meanings of the requests -/

theorem startOperation_keeps (s : State) (r : OpRecord) (x : Option SenseKind) :
    s.Keeps (startOperation s r x).state := by
  unfold startOperation
  split
  · exact .refl s
  · exact .refl s
  · rw [operationTaken_state]; exact .of_eq rfl rfl rfl

theorem claimAnswer_keeps (b : Block) (l : Bool) (s : State) : s.Keeps (claimAnswer b l s).state := by
  refine withParam_keeps fun r _ => ?_
  split
  · exact .refl s
  · exact .of_eq rfl rfl rfl
  · exact s.give_keeps r .pit

theorem releaseAnswer_keeps (b : Block) (l : Bool) (s : State) : s.Keeps (releaseAnswer b l s).state := by
  refine withParam_keeps fun r _ => ?_
  split
  · exact .refl s
  split
  · exact .refl s
  · exact s.give_keeps r _

theorem setDriveAnswer_keeps (b : Block) (l : Bool) (s : State) : s.Keeps (setDriveAnswer b l s).state := by
  refine withParam_keeps fun v _ => ?_
  split <;> exact .of_eq rfl rfl rfl

theorem setSteerAnswer_keeps (b : Block) (l : Bool) (s : State) : s.Keeps (setSteerAnswer b l s).state := by
  refine withParam_keeps fun v _ => ?_
  split
  · exact .refl s
  · split <;> exact .of_eq rfl rfl rfl

theorem setGearAnswer_keeps (b : Block) (l : Bool) (s : State) : s.Keeps (setGearAnswer b l s).state := by
  refine withParam_keeps fun v _ => ?_
  split <;> exact .of_eq rfl rfl rfl

theorem assistHaulAnswer_keeps (b : Block) (l : Bool) (s : State) : s.Keeps (assistHaulAnswer b l s).state := by
  refine withParam_keeps fun n _ => whenLast_keeps ?_
  split
  · exact .refl s
  · exact .refl s
  · rw [operationTaken_state]; exact .of_eq rfl rfl rfl

theorem freespoolAnswer_keeps (b : Block) (l : Bool) (s : State) : s.Keeps (freespoolAnswer b l s).state := by
  refine withParam_keeps fun _ _ => ?_
  split
  · exact .refl s
  split
  · exact .refl s
  · split <;> exact .of_eq rfl rfl rfl

theorem requestSenseAnswer_keeps (b : Block) (l : Bool) (s : State) : s.Keeps (requestSenseAnswer b l s).state := by
  refine withParam_keeps fun _ _ => s.setPli_keeps ?_
  unfold PitLink.takeSense
  split
  · exact .refl _
  split
  next a rest attention => rw [attention]; exact List.sublist_cons_self a rest
  · exact .refl _
  · exact .refl _

theorem reportStatusAnswer_keeps (b : Block) (l : Bool) (s : State) : s.Keeps (reportStatusAnswer b l s).state := by
  refine withParam_keeps fun k _ => ?_
  show s.Keeps (s.reportDraws k)
  unfold State.reportDraws
  split
  · exact (s.drawnIf_keeps _).trans (State.drawnIf_keeps _ _)
  · exact .refl s

theorem writePart_keeps (s : State) (k : Fin 8) (v : List Byte) : s.Keeps (writePart s k v).state := by
  unfold writePart
  split
  · exact s.stage_keeps none
  split
  · exact .refl s
  · dsimp only
    split
    · exact s.stage_keeps _
    split
    next _ _ legal => exact s.writePattern_keeps k legal
    · exact s.stage_keeps none

theorem writeWhole_keeps (s : State) (i : SettingId) (v : List Byte) : s.Keeps (writeWhole s i v).state := by
  unfold writeWhole
  split
  · exact .refl s
  next w written =>
  split
  · exact .refl s
  split
  next checked =>
    refine s.setWorking_keeps fun legal => ?_
    obtain ⟨working, _⟩ := legal
    exact writeValue_legal working written checked
  · exact .refl s

theorem writeSettingAnswer_keeps (b : Block) (l : Bool) (s : State) : s.Keeps (writeSettingAnswer b l s).state := by
  refine withParam_keeps fun p _ => ?_
  split
  · exact writePart_keeps s _ _
  · exact writeWhole_keeps s _ _

theorem selectAnswer_keeps (b : Block) (l : Bool) (s : State) : s.Keeps (selectAnswer b l s).state := by
  refine withParam_keeps fun k _ => whenStoreFree_keeps ?_
  split
  · exact s.selectProfile_keeps k
  · exact .refl s

theorem loadDefaultsAnswer_keeps (b : Block) (l : Bool) (s : State) : s.Keeps (loadDefaultsAnswer b l s).state := by
  refine withParam_keeps fun _ _ => whenStoreFree_keeps (s.replaceWorking_keeps fun legal => ?_)
  obtain ⟨working, _⟩ := legal
  exact loadedDefaults_legal working _

theorem resetAnswer_keeps (b : Block) (l : Bool) (s : State) : s.Keeps (resetAnswer b l s).state := by
  refine withParam_keeps fun _ _ => whenLast_keeps ?_
  split <;> exact .refl s

theorem parkAnswer_keeps (b : Block) (l : Bool) {s : State} (up : s.Up) : s.Keeps (parkAnswer b l s).state := by
  refine withParam_keeps fun _ _ => ?_
  split
  · exact State.enterParked_keeps fun _ => up
  · exact .refl s

/-! ### Every command -/

theorem execParkIdleTimerExpiry_keeps {s t : State} (h : execParkIdleTimerExpiry s = .next t) : s.Keeps t := by
  unfold execParkIdleTimerExpiry at h
  split at h
  · cases h; exact .refl s
  next runs =>
    split at h
    · cases h; exact s.restartParkTimer_keeps
    · cases h
      refine State.enterParked_keeps fun powered => ?_
      obtain ⟨_, timer, _⟩ := powered
      exact timer fun none => runs (by rw [none]; rfl)

theorem exec_keeps (c : Instr) {s t : State} (h : exec c s = .next t) : s.Keeps t := by
  cases c with
  | powerOnReset => cases h; exact s.powerOn_keeps _
  | brownoutReset => cases h; exact s.powerOn_keeps _
  | scanCompletion r => cases h; exact s.scan_keeps r
  | parkIdleTimerExpiry => exact execParkIdleTimerExpiry_keeps h
  | servoRefreshExpiry =>
    cases h
    exact State.Keeps.trans (t := s.steerBoundary) (.of_eq (by simp) (by simp) (by simp)) (.of_eq rfl rfl rfl)
  | driveUpdateExpiry =>
    simp only [exec, execDriveUpdateExpiry] at h
    split at h
    · cases h; exact .of_eq rfl rfl rfl
    · cases h
      exact State.Keeps.trans (t := s.driveBoundary) (.of_eq (by simp) (by simp) (by simp)) (.of_eq rfl rfl rfl)
  | gateTimerExpiry =>
    simp only [exec, execGateTimerExpiry] at h
    split at h <;> (cases h; exact .of_eq rfl rfl rfl)
  | shiftServoRefresh =>
    simp only [exec, execShiftServoRefresh] at h
    split at h
    · cases h; exact .of_eq rfl rfl rfl
    · cases h
      exact State.Keeps.trans (t := s.gearBoundary) (.of_eq (by simp) (by simp) (by simp)) (.of_eq rfl rfl rfl)
  | shiftTravelTimerExpiry => cases h; exact .of_eq rfl rfl rfl
  | winchUpdateExpiry level => exact execWinchUpdateExpiry_keeps level h
  | backOffTimerExpiry =>
    simp only [exec, execBackOffTimerExpiry] at h
    split at h <;> (cases h; exact .of_eq rfl rfl rfl)
  | drumPulseArrival e =>
    simp only [exec, execDrumPulseArrival] at h
    split at h
    · cases h; exact s.drumPulse_keeps
    · cases h; exact .refl s
  | hookHomeArrival => exact execHookHomeArrival_keeps h
  | winchBoundaryTimerExpiry =>
    simp only [exec, execWinchBoundaryTimerExpiry] at h
    split at h
    · cases h; exact (s.setAu_keeps _).trans (State.winchBoundary_keeps _)
    · cases h; exact .refl s
  | pitHoldDeadlineExpiry row =>
    simp only [exec, execPitHoldDeadlineExpiry] at h
    cases row <;>
    · dsimp only at h
      split at h
      · cases h; exact .of_eq (by simp) (by simp) (by simp)
      · cases h; exact .refl s
  | lightStepExpiry => cases h; exact .of_eq rfl rfl rfl
  | channelFrame bytes =>
    simp only [exec, execChannelFrame] at h
    split at h
    · cases h; exact s.takeFrame_keeps _
    · cases h; exact .of_eq rfl rfl rfl
  | rxlByteGapTimeout => cases h; exact .of_eq rfl rfl rfl
  | holdMarkExpiry => cases h; exact .of_eq rfl rfl rfl
  | failsafeMarkExpiry =>
    cases h
    exact (s.setRxl_keeps _).trans (State.reportLink_keeps _ _)
  | pitByteGapTimeout => cases h; exact .of_eq rfl rfl rfl
  | replyTransmit =>
    cases h
    refine .of_eq rfl rfl ?_
    show s.pli.transmit.attention = _
    unfold PitLink.transmit
    repeat' split
    all_goals rfl
  | resetRequestEffect =>
    simp only [exec, execResetRequestEffect] at h
    split at h
    · cases h; exact s.requestReset_keeps
    · cases h; exact .refl s
  | commitProgrammingEnd v => exact execCommitProgrammingEnd_keeps v h
  | packSaveEnd v => exact execPackSaveEnd_keeps v h
  | reportStatus b => cases h; exact s.runRequest_keeps _ b (reportStatusAnswer_keeps b)
  | requestSense b => cases h; exact s.runRequest_keeps _ b (requestSenseAnswer_keeps b)
  | identify b => cases h; exact s.runRequest_keeps _ b fun _ t => withParam_keeps fun _ _ => .refl t
  | claim b => cases h; exact s.runRequest_keeps _ b (claimAnswer_keeps b)
  | release b => cases h; exact s.runRequest_keeps _ b (releaseAnswer_keeps b)
  | setDrive b => cases h; exact s.runRequest_keeps _ b (setDriveAnswer_keeps b)
  | setSteer b => cases h; exact s.runRequest_keeps _ b (setSteerAnswer_keeps b)
  | setGear b => cases h; exact s.runRequest_keeps _ b (setGearAnswer_keeps b)
  | setScene b =>
    cases h; exact s.runRequest_keeps _ b fun _ t => withParam_keeps fun _ _ => .of_eq rfl rfl rfl
  | winchPayOut b | winchHaulIn b | winchHaulToTension b | winchHome b =>
    cases h
    exact s.runRequest_keeps _ b fun _ t => withParam_keeps fun _ _ => whenLast_keeps (startOperation_keeps t _ _)
  | winchAssistHaul b => cases h; exact s.runRequest_keeps _ b (assistHaulAnswer_keeps b)
  | winchFreespool b => cases h; exact s.runRequest_keeps _ b (freespoolAnswer_keeps b)
  | winchStop b =>
    cases h
    exact s.runRequest_keeps _ b fun _ t => withParam_keeps fun _ _ =>
      (t.endOperation_keeps (some .byRequest)).trans (.of_eq rfl rfl rfl)
  | abort b =>
    cases h; exact s.runRequest_keeps _ b fun _ t => withParam_keeps fun _ _ => t.endOperation_keeps _
  | readSetting b => cases h; exact s.runRequest_keeps _ b fun _ t => withParam_keeps fun _ _ => .refl t
  | writeSetting b => cases h; exact s.runRequest_keeps _ b (writeSettingAnswer_keeps b)
  | selectProfile b => cases h; exact s.runRequest_keeps _ b (selectAnswer_keeps b)
  | commitProfile b =>
    cases h
    exact s.runRequest_keeps _ b fun _ t => withParam_keeps fun _ _ =>
      whenLast_keeps (whenStoreFree_keeps t.beginCommit_keeps)
  | loadDefaults b => cases h; exact s.runRequest_keeps _ b (loadDefaultsAnswer_keeps b)
  | park b => cases h; exact s.runBlock_keeps _ _ b fun l _ up => parkAnswer_keeps b l (up rfl)
  | reset b => cases h; exact s.runRequest_keeps _ b (resetAnswer_keeps b)
  | receiverFrameDiscard why => cases h; exact .of_eq rfl rfl rfl
  | pitFrameDiscard why => cases h; exact .of_eq rfl rfl rfl
  | unknownCode code b => cases h; exact s.runBlock_keeps none code b fun _ t _ => .refl t

/-- Every step keeps BSV's agreement, the settings' legality, the pending save's engine and the attention list. -/
theorem step_keepsSupply {s t : State} (h : step s = .next t) : s.Keeps t := by
  unfold step at h
  split at h
  · cases h; exact .refl s
  next c rest _ => exact State.Keeps.trans (t := s.setPending rest) (.of_eq rfl rfl rfl) (exec_keeps c h)

/-- Settles O8: every write is checked against its range and its orders, and every load is of a legal copy. -/
theorem settingsLegalKept : Obligations.SettingsLegalKept := fun _ _ legal h => (step_keepsSupply h).legal legal

/-- Settles O6, operation by operation on BSV. -/
theorem powerStateKept : Obligations.PowerStateKept := fun _ _ powered h => (step_keepsSupply h).powered powered

/-- Settles O9, operation by operation on the attention list and the program engine. -/
theorem queuesKept : Obligations.QueuesKept := fun _ _ once waits h =>
  ⟨(step_keepsSupply h).attention once, (step_keepsSupply h).saveWaits waits⟩

end Sys2Proof.Machine
end

section
/-! The park idle timer, PARK and RESET, the changes of the whole working copy, the program engine's endings and the effect
of a RESET (chapters 2, 9 and 10), and the blocks that are held back or wake the part. -/

namespace Sys2Proof.Machine

/-! ### Shared operations in the words of the statements -/

theorem State.requestPackSave_eq (s : State) : s.requestPackSave = s.saveRequested := rfl

theorem State.wake_eq {s : State} (h : s.bsv.power = .parked) : s.wake = s.woken := if_pos h

theorem State.standing_iff (s : State) :
    s.standing = true ↔ s.drc.dir = .neutral ∧ s.wnc.mode = .hold ∧ s.wnc.record = none := by
  simp [State.standing, State.winchInHold]

/-- A truck whose drive is in gear, or whose winch is not in HOLD, does not stand. -/
theorem State.standing_eq_false {s : State} (h : s.drc.dir ≠ .neutral ∨ s.wnc.mode ≠ .hold) : s.standing = false := by
  rw [← Bool.not_eq_true, State.standing_iff]
  rintro ⟨dir, mode, _⟩
  exact h.elim (absurd dir) (absurd mode)

/-- A request answered BUSY, which does not restart the park idle timer (R39, R161). -/
theorem State.Reaches.run_busy {s : State} {r : Request} (h : s.Reaches r) (he : r.exempt = false) {b : Block}
    {m : Bool → State → Answer} {k : SenseKind} (hm : m (isLastBlock s.pli.currentBatch b) s = .busy s k) :
    s.runRequest r b m = s.answered b ⟨r.code, .busy, (Sense.of k).toBytes⟩ := by
  rw [State.runRequest_reaches h he b m, hm]
  exact s.answerBlock_eq b _ h.1.1.going

/-- The block that the catalogue wants last is last as the model judges it. -/
theorem State.IsLast.isLastBlock {s : State} {b : Block} (h : s.IsLast b) :
    isLastBlock s.pli.currentBatch b = true := by
  rw [s.isLastBlock_eq]
  exact decide_eq_true h

/-! ### The park idle timer, PARK and RESET (R40 to R42, R167) -/

/-- Settles O37: the timer runs in ACTIVE outside IDENT only, where its restart has its whole effect. -/
theorem parkIdleTimerExpires : Obligations.ParkIdleTimerExpires := by
  intro s powered timer
  obtain ⟨_, runs, _⟩ := powered
  obtain ⟨active, stage⟩ := runs timer
  have running : s.bsv.parkTimer.isNone = false := Option.isNone_eq_false_iff.mpr (Option.isSome_iff_ne_none.mpr timer)
  simp only [exec, execParkIdleTimerExpiry, running, Bool.false_eq_true, if_false]
  cases record : s.wnc.record with
  | none => rfl
  | some r => simp [s.restartParkTimer_eq active stage]

/-- An answer GOOD whose effect has left ACTIVE restarts no timer. -/
theorem State.Reaches.run_goodInactive {s t : State} {r : Request} (h : s.Reaches r) (he : r.exempt = false) {b : Block}
    {m : Bool → State → Answer} (hm : m (isLastBlock s.pli.currentBatch b) s = .good t []) (hp : t.pli = s.pli)
    (power : t.bsv.power ≠ .active) : s.runRequest r b m = t.answered b ⟨r.code, .good, []⟩ := by
  have going : t.Going := fun bt hb => h.1.1.going bt (hp ▸ hb)
  rw [State.runRequest_reaches h he b m, hm, ← hp]
  show (t.setPli _).restartParkTimer = _
  exact (State.restartParkTimer_inactive _ (by exact power)).trans (t.answerBlock_eq b _ going)

/-- Settles O36: the answers of PARK and RESET by whether the truck stands. -/
theorem parkAndResetDecided : Obligations.ParkAndResetDecided := by
  refine ⟨fun b s h params dir mode record => ?_, fun b s h params last dir mode record => ?_,
    fun r b s hr h params placed moves => ?_⟩
  · have stands := s.standing_iff.mpr ⟨dir, mode, record⟩
    have answer (l : Bool) : parkAnswer b l s = .good s.enterParked [] := by
      unfold parkAnswer
      rw [params, stands]
      rfl
    have power : s.enterParked.bsv.power ≠ .active := by
      unfold State.enterParked
      rw [State.requestPackSave_bsv]
      show PowerState.parked ≠ .active
      decide
    exact congrArg Host.Outcome.next (h.run_goodInactive rfl (answer _) s.enterParked_pli power)
  · have stands := s.standing_iff.mpr ⟨dir, mode, record⟩
    have answer : resetAnswer b (isLastBlock s.pli.currentBatch b) s = .good s [] := by
      unfold resetAnswer
      rw [params, last.isLastBlock, stands]
      rfl
    exact congrArg Host.Outcome.next (h.run_good rfl answer rfl rfl)
  · have moving := State.standing_eq_false moves
    rcases hr with rfl | rfl
    · have answer (l : Bool) : parkAnswer b l s = .check s .inMotion := by
        unfold parkAnswer
        rw [params, moving]
        rfl
      exact congrArg Host.Outcome.next (h.run_check rfl (answer _))
    · have answer : resetAnswer b (isLastBlock s.pli.currentBatch b) s = .check s .inMotion := by
        unfold resetAnswer
        rw [params, (placed.1 (.inr rfl)).isLastBlock, moving]
        rfl
      exact congrArg Host.Outcome.next (h.run_check rfl answer)

/-! ### Blocks held back and blocks that wake (R160, R44) -/

/-- A request block is decided by `State.runBlock`, under the request of its CODE if it has one. -/
theorem exec_block {c : Instr} {code : Byte} {b : Block} (h : commandBlock c = some (code, b)) :
    ∃ (req : Option Request) (m : Bool → State → Answer),
      (∀ s, exec c s = .next (s.runBlock req code b m)) ∧ ∀ r, req = some r → r.code = code := by
  cases c <;> cases h
  case unknownCode => exact ⟨none, _, fun _ => rfl, fun _ e => by cases e⟩
  all_goals exact ⟨some _, _, fun _ => rfl, fun _ e => by cases e; rfl⟩

/-- The exempt requests are those of CODE 0x01 to 0x03 (R160). -/
theorem isExempt_eq_false {req : Option Request} {code : Byte} (h : ∀ r, req = some r → r.code = code)
    (hc : code ∉ [0x01, 0x02, 0x03]) : isExempt req = false := by
  cases req with
  | none => rfl
  | some r =>
    rw [← h r rfl] at hc
    cases r <;> first | rfl | exact absurd (by decide) hc

/-- A block that is not exempt, in a batch that goes on, is decided by steps 2 to 6 of R160. -/
theorem State.Open.runBlock {s : State} (h : s.Open) {req : Option Request} (he : isExempt req = false) (code : Byte)
    (b : Block) (m : Bool → State → Answer) :
    s.runBlock req code b m =
      runNonExempt s.pli.currentBatch (isLastBlock s.pli.currentBatch b) req code m s := by
  unfold State.runBlock
  simp [h.stopped, h.restricted, he]

/-- Settles O14, by the cases of steps 2 and 3 of R160. -/
theorem blocksHeldBackOrWake : Obligations.BlocksHeldBackOrWake := by
  refine ⟨fun c code b s hc open_ plain => ?_, fun c code b s hc open_ plain stage parked wakes => ?_⟩
  · obtain ⟨req, m, run, named⟩ := exec_block hc
    have decided := open_.runBlock (isExempt_eq_false named plain) code b m
    have busy (k : SenseKind) := s.answerBlock_eq b ⟨code, .busy, (Sense.of k).toBytes⟩ open_.going
    refine ⟨fun ident => ?_, fun stage held => ?_⟩
    · rw [run, decided]
      unfold runNonExempt
      rw [if_pos ident]
      exact congrArg Host.Outcome.next (busy .identifying)
    · rw [run, decided]
      unfold runNonExempt
      rw [if_neg stage]
      rcases held with down | ⟨parked, disabled⟩
      · rw [if_pos down]
        exact congrArg Host.Outcome.next (busy .clear)
      · rw [if_neg (by rw [parked]; decide), if_pos ⟨parked, disabled⟩]
        exact congrArg Host.Outcome.next (busy .clear)
  · obtain ⟨req, m, run, named⟩ := exec_block hc
    have exempt := isExempt_eq_false named plain
    have awake : s.woken.bsv.power = .active := rfl
    have wokenOpen : s.woken.Open := open_
    rw [run, run, open_.runBlock exempt, wokenOpen.runBlock exempt]
    unfold runNonExempt
    rw [State.wake_eq parked, State.wake_awake (s := s.woken) (by rw [awake]; decide), awake, parked,
      show s.woken.bsv.stage = s.bsv.stage from rfl, show s.w.bsv.wakePit = true from wakes]
    simp [stage]
    rfl

end Sys2Proof.Machine
end

section
/-! The store's requests and the program engine's endings (R172, R173), and the effect of a RESET (R48, R169). -/

namespace Sys2Proof.Machine

/-! ### The working copy replaced (R160, R173) -/

/-- The three requests that wait for the program engine answer STORE_BUSY while it programs (R160). -/
theorem State.Reaches.run_storeBusy {s : State} {r : Request}
    (hr : r ∈ [Request.selectProfile, .loadDefaults, .commitProfile]) (h : s.Reaches r) {b : Block}
    (params : GoodParams r b.params) (placed : s.WellPlaced r b) (busy : s.pst.engine ≠ .idle) :
    exec (r.command b) s = .next (s.answered b ⟨r.code, .busy, [1, 6, 0, 0, 0]⟩) := by
  simp only [List.mem_cons, List.not_mem_nil, or_false] at hr
  rcases hr with rfl | rfl | rfl
  · obtain ⟨k, hk, bound⟩ := params
    have parsed : fourParam b.params = some ⟨k.toNat, by omega⟩ := by
      rw [hk, ← fourParam_eq]
      simp
    have answer (l : Bool) : selectAnswer b l s = .busy s .storeBusy := by
      unfold selectAnswer
      rw [parsed]
      exact if_neg busy
    exact congrArg Host.Outcome.next (h.run_busy rfl (answer _))
  · have answer (l : Bool) : loadDefaultsAnswer b l s = .busy s .storeBusy := by
      unfold loadDefaultsAnswer
      rw [show b.params = [] from params]
      exact if_neg busy
    exact congrArg Host.Outcome.next (h.run_busy rfl (answer _))
  · have answer : commitAnswer b (isLastBlock s.pli.currentBatch b) s = .busy s .storeBusy := by
      unfold commitAnswer
      rw [show b.params = [] from params, (placed.1 (.inl rfl)).isLastBlock]
      exact if_neg busy
    exact congrArg Host.Outcome.next (h.run_busy rfl answer)

/-- A slot that is marked reads as the defaults, and one that matches its CRC as its contents, without a draw (R168). -/
theorem Store.load_eq {p : Store} {k : Fin 4} {v : Settings}
    (h : p.marks.get k = true ∧ v = .defaults ∨ p.marks.get k = false ∧ p.slots.get k = .valid v) (free : Nat) :
    p.load k free = v ∧ p.loadsFree k = false := by
  unfold Store.load Store.loadsFree
  rcases h with ⟨marked, rfl⟩ | ⟨plain, slot⟩
  · simp [marked]
  · simp [plain, slot, StoredProfile.read, StoredProfile.isValid]

/-- SELECT PROFILE of a slot that reads as `v`. -/
theorem State.selectProfile_eq {s : State} {k : Fin 4} {v : Settings} (loaded : s.pst.load k s.free = v)
    (settled : s.pst.loadsFree k = false) :
    s.selectProfile k = (s.replaceWorking v).setPst { s.pst with working := v, active := k, staging := none } := by
  unfold State.selectProfile
  rw [loaded, settled]
  rfl

theorem withParam_some {α : Type} (s : State) (a : α) (k : α → Answer) : withParam s (some a) k = k a := rfl

theorem whenStoreFree_idle {s : State} (h : s.pst.engine = .idle) (k : Answer) : whenStoreFree s k = k := if_pos h

/-- Settles O33: the three requests one by one. -/
theorem workingCopyReplaced : Obligations.WorkingCopyReplaced := by
  refine ⟨fun r b s hr h params placed busy => h.run_storeBusy hr params placed busy,
    fun b k s h params idle moves => ?_, fun b k v s h params idle dir mode record slot => ?_,
    fun b s h params idle => ?_⟩
  · have answer (l : Bool) : selectAnswer b l s = .check s .inMotion := by
      unfold selectAnswer
      rw [params, fourParam_eq, withParam_some, whenStoreFree_idle idle, State.standing_eq_false moves]
      rfl
    exact congrArg Host.Outcome.next (h.run_check rfl (answer _))
  · have stands := s.standing_iff.mpr ⟨dir, mode, record⟩
    obtain ⟨loaded, settled⟩ := Store.load_eq slot s.free
    have answer (l : Bool) : selectAnswer b l s = .good (s.selectProfile k) [] := by
      unfold selectAnswer
      rw [params, fourParam_eq, withParam_some, whenStoreFree_idle idle, stands]
      rfl
    have taken := State.selectProfile_eq loaded settled
    refine ⟨s.selectProfile k, congrArg Host.Outcome.next (h.run_good rfl (answer _) ?_ ?_), ?_⟩
    · rw [taken]; rfl
    · rw [taken]; rfl
    · rw [taken]
      exact ⟨rfl, rfl, rfl, rfl, rfl, rfl⟩
  · have answer (l : Bool) : loadDefaultsAnswer b l s =
        .good (s.replaceWorking (loadedDefaults s.w s.wnc.record.isSome)) [] := by
      unfold loadDefaultsAnswer
      rw [params, show noParams [] = some () from rfl, withParam_some, whenStoreFree_idle idle]
    refine ⟨_, _, congrArg Host.Outcome.next (h.run_good rfl (answer _) rfl rfl), rfl, rfl, rfl, rfl, fun none => ?_,
      fun some => ?_⟩
    · rw [none]; rfl
    · rw [Option.isSome_iff_ne_none.mpr some]; rfl

/-! ### The program engine (R35, R46, R162, R172) -/

/-- The engine's end with a save pending, and with none (R46, R172). -/
theorem State.engineIdle_pending {s : State} (h : s.pst.packPending = true) (last : Bool) :
    s.engineIdle last = s.beginPackSave := by
  unfold State.engineIdle
  exact if_pos h

theorem State.engineIdle_free {s : State} (h : s.pst.packPending = false) (last : Bool) :
    s.engineIdle last = { s with
      pst := { s.pst with engine := .idle }
      bsv := { s.bsv with pwrHold := if s.bsv.power = .shutdown ∧ last = true then false else s.bsv.pwrHold } } := by
  unfold State.engineIdle
  have none : ¬(s.setPst { s.pst with engine := .idle }).pst.packPending = true := by simp [h]
  rw [if_neg none]
  by_cases down : s.bsv.power = .shutdown ∧ last = true
  · rw [if_pos down]
    exact if_pos down
  · rw [if_neg down]
    exact if_neg down

/-- What the engine's end leaves, whether a save is pending or not. -/
theorem State.engineIdle_eq (s : State) (last : Bool) :
    s.engineIdle last = { s with
      pst := { s.pst with
        engine := if s.pst.packPending then .pack s.packContents else .idle
        pack := if s.pst.packPending then .invalid else s.pst.pack
        packPending := false }
      bsv := { s.bsv with pwrHold :=
        if s.bsv.power = .shutdown ∧ last = true ∧ s.pst.packPending = false then false else s.bsv.pwrHold } } := by
  cases pending : s.pst.packPending with
  | true =>
    rw [State.engineIdle_pending pending]
    simp [State.beginPackSave, State.setPst]
  | false =>
    rw [State.engineIdle_free pending, ← pending]
    simp [pending]

/-- A commit that no reply waits for reports to nobody (entry 52). -/
theorem PitLink.commitEnded_none {p : PitLink} (h : p.owed = none) (verified : Bool) : p.commitEnded verified = p := by
  unfold PitLink.commitEnded
  rw [h]
  rfl

/-- The reply of a commit at its end: GOOD without data, or CHECK with STORE_WRITE_FAILED (R162, R172). -/
theorem PitLink.commitEnded_some {p : PitLink} {o : Owed} (h : p.owed = some o) (code : o.code = 0x43)
    (verified : Bool) :
    p.commitEnded verified = { p with
      owed := none
      sense := if verified then p.sense else ⟨.storeWriteFailed, false, false, false, 0⟩
      ready := p.ready ++ [⟨o.entries ++
        [if verified then ⟨0x43, .good, []⟩ else ⟨0x43, .check, [6, 2, 0, 0, 0]⟩], true⟩] } := by
  unfold PitLink.commitEnded
  rw [if_pos (by rw [h, Option.map_some, code]; rfl)]
  cases verified <;>
  · simp only [PitLink.completeOwedCheck, PitLink.completeOwed, h, code]
    rfl

/-- The end of a commit, but for its reply. -/
theorem exec_commitProgrammingEnd {s : State} {k : Fin 4} {v : Settings} (engine : s.pst.engine = .commit k v)
    (verified : Bool) :
    exec (.commitProgrammingEnd verified) s = .next { s with
      free := if verified then s.free else s.free + 1
      pst := { s.pst with
        engine := if s.pst.packPending then .pack s.packContents else .idle
        pack := if s.pst.packPending then .invalid else s.pst.pack
        packPending := false
        slots := s.pst.slots.set k (if verified then .valid v else .invalid (Config.freeCrc s.free))
        marks := s.pst.marks.set k (!verified) }
      bsv := { s.bsv with pwrHold :=
        if s.bsv.power = .shutdown ∧ s.bsv.stage = .fault ∧ s.pst.packPending = false then false else s.bsv.pwrHold }
      pli := s.pli.commitEnded verified } := by
  simp only [exec, execCommitProgrammingEnd, engine, State.engineIdle_eq]
  cases verified <;> simp [State.drawn, State.setPst, State.setPli, Store.committed, State.packContents]

/-- Settles O34: the beginning of a commit, and its end. -/
theorem commitRunsToItsReply : Obligations.CommitRunsToItsReply := by
  refine ⟨fun b s h last params idle => ?_, fun k v verified s engine owes => ?_⟩
  · have answer : commitAnswer b (isLastBlock s.pli.currentBatch b) s = .owes s.beginCommit := by
      unfold commitAnswer
      rw [params, last.isLastBlock]
      exact if_pos idle
    exact ⟨s.beginCommit, Config.freeCrc s.free, congrArg Host.Outcome.next (h.run_owes rfl answer rfl rfl), rfl, rfl, rfl,
      rfl, rfl, rfl⟩
  · refine ⟨Config.freeCrc s.free, if verified then s.free else s.free + 1, ?_, fun ok => if_pos ok⟩
    rw [exec_commitProgrammingEnd engine]
    cases owed : s.pli.owed with
    | none => rw [PitLink.commitEnded_none owed]; rfl
    | some o => rw [PitLink.commitEnded_some owed (owes o owed)]; rfl

/-- A failed save fills the deferred slot with source 0, or sets the more flag of what it holds (R163). -/
theorem PitLink.saveEnded_failed (p : PitLink) :
    p.saveEnded false = { p with deferred := placeDeferred p.deferred ⟨0, Sense.of .storeWriteFailed, 0, 0, false⟩ } :=
  rfl

/-- Settles O35: the record is stored or fails, and the engine goes on to a pending save. -/
theorem packSaveEnds : Obligations.PackSaveEnds := by
  intro p verified s engine
  simp only [exec, execPackSaveEnd, engine, State.engineIdle_eq]
  cases verified with
  | true =>
    cases pending : s.pst.packPending <;>
      simp [State.setPst, State.setPli, Store.saved, State.packContents, PitLink.saveEnded, pending, Bool.and_comm]
  | false =>
    rw [PitLink.saveEnded_failed]
    cases pending : s.pst.packPending <;> cases s.pli.deferred <;>
      simp [State.setPst, State.setPli, Store.saved, State.packContents, placeDeferred, Sense.of, pending,
        Bool.and_comm]

/-! ### The effect of a RESET (R48, R103, R159, R161, R169) -/

/-- The effect of a RESET, the timer and the draw apart. -/
def State.resetBlocks (s : State) : State :=
  let p := s.pst.requestReset s.free
  { rxl := .reset
    au := .reset
    bsv := s.bsv.requestReset
    bga := .reset
    stc := .reset p.working
    drc := .reset p.working
    wnc := s.wnc.requestReset p.working
    ltc := .reset
    pli := { PitLink.reset [.resetOccurred] with lastSent := s.pli.lastSent }
    pst := p
    free := s.free
    pending := s.pending }

theorem State.requestReset_eq {s : State} (h : s.pst.loadsFree s.pst.active = false) :
    s.requestReset = s.resetBlocks.restartParkTimer := by
  show s.resetBlocks.restartParkTimer.drawnIf _ = _
  rw [h]
  rfl

theorem State.resetBlocks_blocksReset (s : State) : s.resetBlocks.BlocksReset := by
  have cleared (n : Nat) : (BudgetRow.reset n).Cleared n := ⟨rfl, rfl, rfl, rfl, rfl, rfl⟩
  refine ⟨⟨cleared 1, cleared 2, cleared 3, cleared 4, rfl, rfl, rfl, rfl, rfl⟩, rfl, rfl, ?_, ?_, ?_, ?_⟩
  · exact ⟨rfl, rfl, rfl, rfl, rfl, rfl, rfl, rfl, rfl, rfl, rfl, rfl, rfl, rfl⟩
  · exact ⟨rfl, rfl, rfl, rfl, rfl, rfl, rfl, rfl, rfl, rfl, rfl, rfl, rfl, rfl, rfl, rfl, rfl, rfl, rfl, rfl⟩
  · exact ⟨rfl, rfl, rfl, rfl, rfl, rfl, rfl, rfl, rfl, rfl, rfl, rfl, rfl⟩
  · exact ⟨rfl, rfl, rfl, rfl, rfl, rfl, rfl, rfl, rfl, rfl, rfl, rfl⟩

/-- The reset values are those of any state that differs in BSV only. -/
theorem State.BlocksReset.setBsv {s : State} (h : s.BlocksReset) (b : Battery) : (s.setBsv b).BlocksReset := h

theorem State.restartParkTimer_bsv (s : State) :
    s.restartParkTimer = s.setBsv { s.bsv with parkTimer :=
      if s.bsv.power = .active ∧ s.bsv.stage ≠ .ident then parkPeriod s.w else s.bsv.parkTimer } := by
  unfold State.restartParkTimer
  split <;> rfl

/-- Settles O39: the blocks at their reset values, and what BSV, WNC and PST keep. -/
theorem resetRequestTakesEffect : Obligations.ResetRequestTakesEffect := by
  intro v s slot
  obtain ⟨loaded, settled⟩ := Store.load_eq slot s.free
  have store : s.resetBlocks.pst = { s.pst with working := v, staging := none } := by
    show ({ s.pst with working := s.pst.load s.pst.active s.free, staging := none } : Store) = _
    rw [loaded]
  refine ⟨fun idle => ?_, fun awaited => ?_⟩
  · simp [exec, execResetRequestEffect, idle]
  · refine ⟨s.resetBlocks.restartParkTimer, ?_, ?_⟩
    · simp [exec, execResetRequestEffect, awaited, State.requestReset_eq settled]
    rw [State.restartParkTimer_bsv, State.w, store]
    exact ⟨rfl, rfl, s.resetBlocks_blocksReset.setBsv _, rfl, rfl, rfl, rfl, rfl, rfl, rfl, store, rfl, rfl, rfl, rfl, rfl,
      rfl⟩

end Sys2Proof.Machine
end

section
/-! A scan completion step by step (R21): what each of its steps leaves alone, and what the whole of it records. -/

namespace Sys2Proof.Machine

/-! ### What the steps of a scan leave alone -/

/-- What BSV's steps of a scan outside IDENT leave as it was: every block but BSV, BGA and the program engine. -/
structure State.SupplyOnly (s t : State) : Prop where
  rxl : t.rxl = s.rxl
  au : t.au = s.au
  stc : t.stc = s.stc
  drc : t.drc = s.drc
  wnc : t.wnc = s.wnc
  ltc : t.ltc = s.ltc
  pli : t.pli = s.pli
  working : t.pst.working = s.pst.working
  slots : t.pst.slots = s.pst.slots

theorem State.SupplyOnly.trans {s t u : State} (h : s.SupplyOnly t) (k : t.SupplyOnly u) : s.SupplyOnly u where
  rxl := k.rxl.trans h.rxl
  au := k.au.trans h.au
  stc := k.stc.trans h.stc
  drc := k.drc.trans h.drc
  wnc := k.wnc.trans h.wnc
  ltc := k.ltc.trans h.ltc
  pli := k.pli.trans h.pli
  working := k.working.trans h.working
  slots := k.slots.trans h.slots

theorem State.setBsv_supplyOnly (s : State) (b : Battery) : s.SupplyOnly (s.setBsv b) :=
  ⟨rfl, rfl, rfl, rfl, rfl, rfl, rfl, rfl, rfl⟩

theorem State.drawnIf_supplyOnly (s : State) (c : Bool) : s.SupplyOnly (s.drawnIf c) := by
  cases c <;> exact ⟨rfl, rfl, rfl, rfl, rfl, rfl, rfl, rfl, rfl⟩

theorem State.requestPackSave_supplyOnly (s : State) : s.SupplyOnly s.requestPackSave := by
  refine ⟨by simp, by simp, by simp, by simp, by simp, by simp, by simp, ?_, ?_⟩ <;>
  · rw [State.requestPackSave_eq]
    unfold State.saveRequested
    repeat' split
    all_goals rfl

/-- A save requested outside FAULT leaves the engine programming (R35). -/
theorem State.requestPackSave_engine {s : State} (h : s.bsv.stage ≠ .fault) : s.requestPackSave.pst.engine ≠ .idle := by
  unfold State.requestPackSave
  rw [if_neg h]
  split
  · intro e; cases e
  next busy => exact busy

/-! ### Steps 1 to 3: the readings and the account (R20, R22, R37) -/

/-- The account is the only thing that step 3 writes. -/
theorem Battery.account_eq (b : Battery) (n : Nat) :
    b.account n = { b with charge :=
      if b.stage = .ident ∨ 65535 ≤ b.charge / 36000 then b.charge else b.charge + b.packCurrent * n } := by
  unfold Battery.account
  split <;> rfl

/-- BSV after steps 1 to 3. -/
def State.measured (s : State) (r : Readings) : Battery :=
  { s.bsv.record s.w.bsv r with
    charge :=
      if s.bsv.stage = .ident ∨ 65535 ≤ s.bsv.charge / 36000 then s.bsv.charge
      else s.bsv.charge + (s.bsv.record s.w.bsv r).packCurrent * s.bsv.nextScan.interval s.free
    nextScan := if s.bsv.power = .active then .four else .hundred }

theorem State.measure_eq (s : State) (r : Readings) :
    s.measure r = (s.setBsv (s.measured r)).drawnIf (s.bsv.nextScan = .afterWake) := by
  unfold State.measure
  dsimp only
  rw [Battery.account_eq]
  rfl

theorem State.measure_bsv (s : State) (r : Readings) : (s.measure r).bsv = s.measured r := by
  rw [State.measure_eq, State.drawnIf_bsv]
  rfl

theorem State.measure_pst (s : State) (r : Readings) : (s.measure r).pst = s.pst := by
  rw [State.measure_eq, State.drawnIf_pst]
  rfl

theorem State.measure_supplyOnly (s : State) (r : Readings) : s.SupplyOnly (s.measure r) := by
  rw [State.measure_eq]
  exact (s.setBsv_supplyOnly _).trans (State.drawnIf_supplyOnly _ _)

/-- Outside IDENT the account gains the current times the interval, until it is full (R37). -/
theorem State.measured_charge {s : State} (h : s.bsv.stage ≠ .ident) (r : Readings) :
    (s.measured r).charge = if 65535 ≤ s.bsv.charge / 36000 then s.bsv.charge
      else s.bsv.charge + (s.measured r).packCurrent * s.bsv.nextScan.interval s.free := by
  unfold State.measured
  simp only [h, false_or]

/-- The interval of a scan: 4 ms, 100 ms, or 4 to 103 ms for the first after a wake (R20, entry 4). -/
theorem ScanPace.interval_bounds (p : ScanPace) (free : Nat) : 4 ≤ p.interval free ∧ p.interval free ≤ 103 := by
  cases p with
  | four =>
    show 4 ≤ 4 ∧ 4 ≤ 103
    decide
  | hundred =>
    show 4 ≤ 100 ∧ 100 ≤ 103
    decide
  | afterWake =>
    have below : Config.freeBelow 100 free < 100 := Nat.mod_lt _ (by decide)
    show 4 ≤ 4 + Config.freeBelow 100 free ∧ 4 + Config.freeBelow 100 free ≤ 103
    omega

/-! ### Minima over the counted cells (R22) -/

theorem smallest_mem : ∀ {l : List Nat}, l ≠ [] → smallest l ∈ l
  | [], h => absurd rfl h
  | [a], _ => List.mem_singleton.mpr rfl
  | a :: b :: l, _ => by
    have rest := smallest_mem (l := b :: l) (List.cons_ne_nil _ _)
    show min a (smallest (b :: l)) ∈ a :: b :: l
    rcases min_choice a (smallest (b :: l)) with h | h <;> rw [h]
    · exact List.mem_cons_self
    · exact List.mem_cons_of_mem _ rest

theorem smallest_le : ∀ {l : List Nat} {x : Nat}, x ∈ l → smallest l ≤ x
  | [a], x, h => by rw [List.mem_singleton.mp h]; exact le_refl _
  | a :: b :: l, x, h => by
    show min a (smallest (b :: l)) ≤ x
    rcases List.mem_cons.mp h with rfl | h
    · exact min_le_left _ _
    · exact (min_le_right _ _).trans (smallest_le h)

/-- The first `n` of four things are those at the places below `n`. -/
theorem Four.mem_take {α : Type} (t : Four α) (n : Nat) (x : α) :
    x ∈ t.toList.take n ↔ ∃ k : Fin 4, k.val < n ∧ t.get k = x := by
  rw [List.mem_take_iff_getElem]
  have place (i : Nat) (h : i < 4) : t.toList[i] = t.get ⟨i, h⟩ := by
    interval_cases i <;> rfl
  constructor
  · rintro ⟨i, hi, rfl⟩
    have bounds : i < n ∧ i < 4 := lt_min_iff.mp hi
    exact ⟨⟨i, bounds.2⟩, bounds.1, (place i bounds.2).symm⟩
  · rintro ⟨k, hk, rfl⟩
    exact ⟨k, lt_min_iff.mpr ⟨hk, k.isLt⟩, place k k.isLt⟩

theorem compColumn_get (v : Four Nat) (count comp : Nat) (k : Fin 4) :
    (compColumn v count comp).get k = if k.val < count then some (v.get k + comp) else none := by
  fin_cases k <;> rfl

/-- A scan's readings, for the cell count it is judged by (R20, R22, entry 20). -/
theorem Battery.record_measured (b : Battery) (w : BsvSettings) (r : Readings) :
    (b.record w r).Measured r w.cellResistance := by
  have taken (v : Four Nat) (count : Nat) : countedTaps v count ≠ [] := by
    unfold countedTaps Four.toList
    rw [ne_eq, List.take_eq_nil_iff]
    simp
  refine ⟨rfl, rfl, rfl, rfl, compColumn_get _ _ _, ?_, fun k hk => ?_, rfl⟩
  · obtain ⟨k, hk, least⟩ := (Four.mem_take _ _ _).mp (smallest_mem (taken (b.record w r).vRaw (b.record w r).cellCount))
    exact ⟨k, hk, least.symm⟩
  · exact smallest_le ((Four.mem_take _ _ _).mpr ⟨k, hk, rfl⟩)

/-- The taps are counted upward (R25). -/
theorem tapCount_counts (v : Four Nat) :
    tapCount v ≤ 4 ∧ (∀ k : Fin 4, k.val < tapCount v → 2000 < v.get k) ∧
      ∀ k : Fin 4, k.val = tapCount v → v.get k ≤ 2000 := by
  obtain ⟨v0, v1, v2, v3⟩ := v
  unfold tapCount
  dsimp only
  split_ifs <;>
  · refine ⟨by decide, fun k hk => ?_, fun k hk => ?_⟩ <;>
    · fin_cases k <;> simp_all [Four.get]

/-! ### What a scan has recorded stays as it is -/

/-- BSV's readings and what they form, the pace of the scans and the cause of the reset. -/
structure Battery.SameReadings (b c : Battery) : Prop where
  vRaw : c.vRaw = b.vRaw
  vComp : c.vComp = b.vComp
  cellCount : c.cellCount = b.cellCount
  minComp : c.minComp = b.minComp
  minRaw : c.minRaw = b.minRaw
  packCurrent : c.packCurrent = b.packCurrent
  railCurrent : c.railCurrent = b.railCurrent
  winchCurrent : c.winchCurrent = b.winchCurrent
  nextScan : c.nextScan = b.nextScan
  resetCause : c.resetCause = b.resetCause

/-- The account and the identity of the pack. -/
structure Battery.SameAccount (b c : Battery) : Prop where
  charge : c.charge = b.charge
  identScans : c.identScans = b.identScans
  identityCells : c.identityCells = b.identityCells
  identityAverage : c.identityAverage = b.identityAverage

theorem Battery.SameReadings.trans {b c d : Battery} (h : b.SameReadings c) (k : c.SameReadings d) : b.SameReadings d where
  vRaw := k.vRaw.trans h.vRaw
  vComp := k.vComp.trans h.vComp
  cellCount := k.cellCount.trans h.cellCount
  minComp := k.minComp.trans h.minComp
  minRaw := k.minRaw.trans h.minRaw
  packCurrent := k.packCurrent.trans h.packCurrent
  railCurrent := k.railCurrent.trans h.railCurrent
  winchCurrent := k.winchCurrent.trans h.winchCurrent
  nextScan := k.nextScan.trans h.nextScan
  resetCause := k.resetCause.trans h.resetCause

theorem Battery.SameAccount.trans {b c d : Battery} (h : b.SameAccount c) (k : c.SameAccount d) : b.SameAccount d where
  charge := k.charge.trans h.charge
  identScans := k.identScans.trans h.identScans
  identityCells := k.identityCells.trans h.identityCells
  identityAverage := k.identityAverage.trans h.identityAverage

theorem Battery.Measured.same {b c : Battery} {r : Readings} {n : Nat} (h : b.Measured r n) (k : b.SameReadings c) :
    c.Measured r n := by
  unfold Battery.Measured
  rw [k.vRaw, k.vComp, k.cellCount, k.minComp, k.minRaw, k.packCurrent, k.railCurrent, k.winchCurrent]
  exact h

theorem Battery.TapsCounted.same {b c : Battery} (h : b.TapsCounted) (k : b.SameReadings c) : c.TapsCounted := by
  unfold Battery.TapsCounted
  rw [k.vRaw, k.cellCount]
  exact h

theorem State.measured_measured (s : State) (r : Readings) :
    (s.measured r).Measured r s.pst.working.bsv.cellResistance := s.bsv.record_measured s.w.bsv r

theorem State.measured_tapsCounted {s : State} (ident : s.bsv.stage = .ident) (r : Readings) :
    (s.measured r).TapsCounted := by
  have count : (s.measured r).cellCount = tapCount (s.measured r).vRaw := if_pos ident
  unfold Battery.TapsCounted
  rw [count]
  exact tapCount_counts _

/-- Supervision leaves what the scan has recorded. -/
theorem Battery.supervise_same (b : Battery) (w : BsvSettings) :
    b.SameReadings (b.supervise w) ∧ b.SameAccount (b.supervise w) := by
  unfold Battery.supervise
  split <;> exact ⟨by constructor <;> rfl, by constructor <;> rfl⟩

theorem Battery.shutdown_same (b : Battery) : b.SameReadings b.shutdown ∧ b.SameAccount b.shutdown := by
  unfold Battery.shutdown Battery.stageDown
  split <;> exact ⟨by constructor <;> rfl, by constructor <;> rfl⟩

/-! ### Steps 6 and 7: the park idle timer and the budget pass (R39, R54) -/

/-- The park idle timer after step 6: restarted in ACTIVE outside IDENT while the truck is kept awake (R39). -/
def State.idleTimer (t : State) : Option Nat :=
  if t.busyTruck = true ∧ t.bsv.power = .active ∧ t.bsv.stage ≠ .ident then parkPeriod t.w else t.bsv.parkTimer

/-- What steps 6 and 7 make of the part after step 5. -/
structure State.IdlesTo (t u : State) : Prop where
  bsv : u.bsv = { t.bsv with parkTimer := t.idleTimer }
  wnc : u.wnc = { t.wnc with pulseSinceScan := false }
  rxl : u.rxl = t.rxl
  au : u.au = t.au
  stc : u.stc = t.stc
  drc : u.drc = t.drc
  ltc : u.ltc = t.ltc
  pli : u.pli = t.pli
  pst : u.pst = t.pst

/-- The park idle timer's condition, and the pulse flag read and cleared (R39). -/
theorem State.idleStep_eq (t : State) : t.idleStep =
    (t.setBsv { t.bsv with parkTimer := t.idleTimer }).setWnc { t.wnc with pulseSinceScan := false } := by
  unfold State.idleStep State.idleTimer
  cases busy : t.busyTruck with
  | true =>
    simp only [if_true, true_and, State.restartParkTimer_bsv]
    rfl
  | false => simp [State.setBsv]

theorem State.budgetPass_eq (t : State) : ∃ b n, t.budgetPass = { t with bga := b, free := n } := by
  unfold State.budgetPass
  split <;> exact ⟨_, _, rfl⟩

theorem State.idleStep_idlesTo (t : State) : t.IdlesTo t.idleStep.budgetPass := by
  obtain ⟨b, n, pass⟩ := t.idleStep.budgetPass_eq
  rw [pass, State.idleStep_eq]
  exact ⟨rfl, rfl, rfl, rfl, rfl, rfl, rfl, rfl, rfl⟩

/-- In SHUTDOWN a pass gives nothing (R54). -/
theorem State.budgetPass_dark {t : State} (h : t.bsv.power = .shutdown) :
    t.budgetPass.bga.steer.grant = 0 ∧ t.budgetPass.bga.drive.grant = 0 ∧ t.budgetPass.bga.winch.grant = 0 ∧
      t.budgetPass.bga.lights.grant = 0 := by
  have dark : t.passInput.dark = true := by
    simp [PassInput.dark, State.passInput, h]
  unfold State.budgetPass
  rw [if_pos dark]
  exact ⟨rfl, rfl, rfl, rfl⟩

/-! ### The whole scan -/

/-- The part after steps 1 to 5 of a scan. -/
def State.judged (s : State) (r : Readings) : State :=
  (s.measure r).stageStep.storageStep (s.bsv.stage = .ident)

theorem State.scan_eq {s : State} (h : s.bsv.power ≠ .shutdown) (r : Readings) :
    s.scan r = (s.judged r).idleStep.budgetPass := if_neg h

theorem State.scan_idlesTo {s : State} (h : s.bsv.power ≠ .shutdown) (r : Readings) :
    (s.judged r).IdlesTo (s.scan r) := by
  rw [State.scan_eq h]
  exact State.idleStep_idlesTo _

/-- The part after step 4 of a scan outside IDENT. -/
def State.supervised (s : State) (r : Readings) : State := (s.measure r).supervise

/-- Steps 4 and 5 outside IDENT (R30 to R34, R45). -/
theorem State.judged_eq {s : State} (h : s.bsv.stage ≠ .ident) (r : Readings) :
    s.judged r = (s.supervised r).storageStep false := by
  have stage : (s.measure r).bsv.stage ≠ .ident := by
    rw [State.measure_bsv]
    exact h
  unfold State.judged State.supervised State.stageStep
  rw [if_neg stage, decide_eq_false h]

theorem State.supervise_bsv (s : State) : s.supervise.bsv = s.bsv.supervise s.w.bsv := by
  unfold State.supervise
  dsimp only
  split
  · exact State.requestPackSave_bsv _
  · rfl

theorem State.supervise_supplyOnly (s : State) : s.SupplyOnly s.supervise := by
  unfold State.supervise
  dsimp only
  split
  · exact (s.setBsv_supplyOnly _).trans (State.requestPackSave_supplyOnly _)
  · exact s.setBsv_supplyOnly _

/-- No save is requested but at the entry to CUT (R34). -/
theorem State.supervise_pst {s : State} (h : (s.bsv.supervise s.w.bsv).stage = .cut → s.bsv.stage = .cut) :
    s.supervise.pst = s.pst := by
  unfold State.supervise
  dsimp only
  rw [if_neg fun e => e.2 (h e.1)]
  rfl

theorem State.supervise_cut {s : State} (h : (s.bsv.supervise s.w.bsv).stage = .cut) (new : s.bsv.stage ≠ .cut) :
    s.supervise.pst.engine ≠ .idle := by
  unfold State.supervise
  dsimp only
  rw [if_pos ⟨h, new⟩]
  refine State.requestPackSave_engine ?_
  rw [State.setBsv_bsv, h]
  decide

/-- Outside NORMAL, WARN and LIMIT supervision does nothing (R30). -/
theorem Battery.supervise_idle {b : Battery} (h : b.stage.running = false) (w : BsvSettings) : b.supervise w = b := by
  unfold Battery.supervise
  rw [h]
  rfl

/-! ### Step 5: the storage run (R45) -/

/-- The storage run after a scan. -/
def State.nextStorageRun (s : State) : Nat :=
  if s.bsv.minComp < s.w.bsv.storage then s.bsv.storageRun + 1 else 0

theorem State.storageStep_short {s : State} (h : s.nextStorageRun < 2500) :
    s.storageStep false = s.setBsv { s.bsv with storageRun := s.nextStorageRun } := by
  have run : runAfter true (s.bsv.minComp < s.w.bsv.storage) s.bsv.storageRun = s.nextStorageRun := by
    simp [runAfter, State.nextStorageRun]
  unfold State.storageStep
  simp only [Bool.false_eq_true, if_false, run]
  exact if_neg (by omega)

theorem State.storageStep_full {s : State} (h : 2500 ≤ s.nextStorageRun) :
    s.storageStep false = (s.setBsv { s.bsv with storageRun := s.nextStorageRun }).enterShutdown := by
  have run : runAfter true (s.bsv.minComp < s.w.bsv.storage) s.bsv.storageRun = s.nextStorageRun := by
    simp [runAfter, State.nextStorageRun]
  unfold State.storageStep
  simp only [Bool.false_eq_true, if_false, run]
  exact if_pos h

/-- The entry to SHUTDOWN releases PWR_HOLD in FAULT, unless a commit is programming (R46). -/
theorem State.enterShutdown_eq (s : State) :
    s.enterShutdown = (s.setBsv s.bsv.shutdown).requestPackSave.setBsv { s.bsv.shutdown with pwrHold :=
      if s.bsv.shutdown.stage = .fault ∧ (s.setBsv s.bsv.shutdown).requestPackSave.pst.engine.committing = false then false
      else s.bsv.pwrHold } := by
  have saved : (s.setBsv s.bsv.shutdown).requestPackSave.bsv = s.bsv.shutdown := State.requestPackSave_bsv _
  have hold : s.bsv.shutdown.pwrHold = s.bsv.pwrHold := by
    unfold Battery.shutdown Battery.stageDown
    split <;> rfl
  unfold State.enterShutdown State.releasePower
  dsimp only
  rw [saved]
  split
  · rfl
  · rw [← hold]
    exact congrArg (State.setBsv (s.setBsv s.bsv.shutdown).requestPackSave) saved

theorem State.enterShutdown_supplyOnly (s : State) : s.SupplyOnly s.enterShutdown := by
  rw [State.enterShutdown_eq]
  exact ((s.setBsv_supplyOnly _).trans (State.requestPackSave_supplyOnly _)).trans (State.setBsv_supplyOnly _ _)

theorem State.storageStep_supplyOnly (s : State) : s.SupplyOnly (s.storageStep false) := by
  rcases Nat.lt_or_ge s.nextStorageRun 2500 with short | full
  · rw [State.storageStep_short short]
    exact s.setBsv_supplyOnly _
  · rw [State.storageStep_full full]
    exact (s.setBsv_supplyOnly _).trans (State.enterShutdown_supplyOnly _)

/-- What step 5 leaves of BSV, whether it shuts the part down or not. -/
theorem State.storageStep_same (s : State) :
    s.bsv.SameReadings (s.storageStep false).bsv ∧ s.bsv.SameAccount (s.storageStep false).bsv := by
  have counted (n : Nat) : s.bsv.SameReadings { s.bsv with storageRun := n } ∧
      s.bsv.SameAccount { s.bsv with storageRun := n } := ⟨by constructor <;> rfl, by constructor <;> rfl⟩
  obtain ⟨readings, account⟩ := counted s.nextStorageRun
  rcases Nat.lt_or_ge s.nextStorageRun 2500 with short | full
  · rw [State.storageStep_short short]
    exact ⟨readings, account⟩
  · rw [State.storageStep_full full, State.enterShutdown_eq]
    obtain ⟨down, downAccount⟩ := ({ s.bsv with storageRun := s.nextStorageRun } : Battery).shutdown_same
    exact ⟨readings.trans (down.trans (by constructor <;> rfl)),
      account.trans (downAccount.trans (by constructor <;> rfl))⟩

theorem Battery.shutdown_storageRun (b : Battery) : b.shutdown.storageRun = b.storageRun := by
  unfold Battery.shutdown Battery.stageDown
  split <;> rfl

theorem State.storageStep_storageRun (s : State) : (s.storageStep false).bsv.storageRun = s.nextStorageRun := by
  rcases Nat.lt_or_ge s.nextStorageRun 2500 with short | full
  · rw [State.storageStep_short short]
    rfl
  · rw [State.storageStep_full full, State.enterShutdown_eq]
    exact Battery.shutdown_storageRun _

/-- Without a running stage the entry to SHUTDOWN leaves the stage and its runs (R45). -/
theorem Battery.shutdown_settled {b : Battery} (h : b.stage.running = false) :
    b.shutdown = { b with power := .shutdown, railEn := false, parkTimer := none } := by
  unfold Battery.shutdown Battery.stageDown
  rw [h]
  rfl

/-- A running stage becomes SHUTDOWN, with every run at 0 (R45). -/
theorem Battery.shutdown_running {b : Battery} (h : b.stage.running = true) :
    b.shutdown = { b with
      stage := .shutdown, warnRun := 0, limitRun := 0, cutRun := 0, recoveryRun := 0, power := .shutdown, railEn := false
      parkTimer := none } := by
  unfold Battery.shutdown Battery.stageDown
  rw [h]
  rfl

/-- Supervision leaves the lines, the power state, the timer and the storage run. -/
theorem Battery.supervise_lines (b : Battery) (w : BsvSettings) :
    (b.supervise w).power = b.power ∧ (b.supervise w).pwrHold = b.pwrHold ∧ (b.supervise w).railEn = b.railEn ∧
      (b.supervise w).parkTimer = b.parkTimer ∧ (b.supervise w).storageRun = b.storageRun := by
  unfold Battery.supervise
  split <;> exact ⟨rfl, rfl, rfl, rfl, rfl⟩

/-! ### A scan outside IDENT -/

theorem State.supervised_bsv (s : State) (r : Readings) :
    (s.supervised r).bsv = (s.measured r).supervise s.pst.working.bsv := by
  unfold State.supervised
  rw [State.supervise_bsv, State.measure_bsv, State.w, State.measure_pst]

theorem State.supervised_supplyOnly (s : State) (r : Readings) : s.SupplyOnly (s.supervised r) :=
  (s.measure_supplyOnly r).trans (State.supervise_supplyOnly _)

theorem State.judged_supplyOnly {s : State} (h : s.bsv.stage ≠ .ident) (r : Readings) : s.SupplyOnly (s.judged r) := by
  rw [State.judged_eq h]
  exact (s.supervised_supplyOnly r).trans (State.storageStep_supplyOnly _)

/-- What a scan has recorded stands at its end. -/
theorem State.scan_same {s : State} (up : s.bsv.power ≠ .shutdown) (stage : s.bsv.stage ≠ .ident) (r : Readings) :
    (s.measured r).SameReadings (s.scan r).bsv ∧ (s.measured r).SameAccount (s.scan r).bsv := by
  obtain ⟨readings, account⟩ := (s.measured r).supervise_same s.pst.working.bsv
  rw [← State.supervised_bsv] at readings account
  obtain ⟨stored, storedAccount⟩ := (s.supervised r).storageStep_same
  rw [(State.scan_idlesTo up r).bsv, State.judged_eq stage]
  exact ⟨readings.trans (stored.trans (by constructor <;> rfl)),
    account.trans (storedAccount.trans (by constructor <;> rfl))⟩

/-- The storage run counts the scans below the storage threshold in a row (R45). -/
theorem State.supervised_nextStorageRun (s : State) (r : Readings) : (s.supervised r).nextStorageRun =
    if (s.measured r).minComp < s.pst.working.bsv.storage then s.bsv.storageRun + 1 else 0 := by
  obtain ⟨_, _, _, _, run⟩ := (s.measured r).supervise_lines s.pst.working.bsv
  unfold State.nextStorageRun
  rw [State.supervised_bsv, run, ((s.measured r).supervise_same s.pst.working.bsv).1.minComp, State.w,
    (s.supervised_supplyOnly r).working]
  rfl

theorem State.busyTruck_iff (s : State) :
    s.busyTruck = true ↔ s.au.image.drive.throttle ≠ 0 ∨ s.au.image.steer.steer ≠ 0 ∨ s.wnc.present ≠ 0 ∨
      s.wnc.pulseSinceScan = true := by
  simp [State.busyTruck, Winch.moving, or_assoc]

/-- BSV after a scan outside IDENT that does not shut the part down (R39, R45). -/
theorem State.scan_bsv {s : State} (up : s.bsv.power ≠ .shutdown) (stage : s.bsv.stage ≠ .ident) (r : Readings)
    (short : (s.supervised r).nextStorageRun < 2500) :
    (s.scan r).bsv = { (s.measured r).supervise s.pst.working.bsv with
      storageRun := (s.supervised r).nextStorageRun
      parkTimer := if s.busyTruck = true ∧ s.bsv.power = .active then parkPeriod s.w else s.bsv.parkTimer } := by
  obtain ⟨power, _, _, timer, _⟩ := (s.measured r).supervise_lines s.pst.working.bsv
  have identified := Battery.supervise_stage (b := s.measured r) stage s.pst.working.bsv
  have frame := s.supervised_supplyOnly r
  have idle (b : Battery) (hp : b.power = s.bsv.power) (hs : b.stage ≠ .ident) (ht : b.parkTimer = s.bsv.parkTimer) :
      ((s.supervised r).setBsv b).idleTimer =
        if s.busyTruck = true ∧ s.bsv.power = .active then parkPeriod s.w else s.bsv.parkTimer := by
    have busy : ((s.supervised r).setBsv b).busyTruck = s.busyTruck := by
      unfold State.busyTruck
      rw [State.setBsv_au, State.setBsv_wnc, frame.au, frame.wnc]
    have w : (s.supervised r).w = s.w := frame.working
    unfold State.idleTimer
    simp only [busy, State.setBsv_bsv, State.setBsv_w, w, hp, ht, hs, ne_eq, not_false_eq_true, and_true]
  rw [(State.scan_idlesTo up r).bsv, State.judged_eq stage, State.storageStep_short short, State.supervised_bsv,
    idle { (s.measured r).supervise s.pst.working.bsv with storageRun := (s.supervised r).nextStorageRun }
      power identified timer]
  rfl

theorem State.scan_pst {s : State} (up : s.bsv.power ≠ .shutdown) (stage : s.bsv.stage ≠ .ident) (r : Readings)
    (short : (s.supervised r).nextStorageRun < 2500) : (s.scan r).pst = (s.supervised r).pst := by
  rw [(State.scan_idlesTo up r).pst, State.judged_eq stage, State.storageStep_short short]
  rfl

/-! ### A scan that shuts the part down (R45, R46) -/

/-- The part at its entry to SHUTDOWN, before the save is requested (R45). -/
def State.darkened (s : State) (r : Readings) : State :=
  (s.supervised r).setBsv
    { (s.supervised r).bsv with storageRun := (s.supervised r).nextStorageRun : Battery }.shutdown

/-- Steps 4 and 5 of a scan that completes the storage run. -/
theorem State.judged_full {s : State} (stage : s.bsv.stage ≠ .ident) (r : Readings)
    (full : 2500 ≤ (s.supervised r).nextStorageRun) :
    s.judged r = (s.darkened r).requestPackSave.setBsv { (s.darkened r).bsv with pwrHold :=
      if (s.darkened r).bsv.stage = .fault ∧ (s.darkened r).requestPackSave.pst.engine.committing = false then false
      else s.bsv.pwrHold } := by
  have hold : (s.supervised r).bsv.pwrHold = s.bsv.pwrHold := by
    obtain ⟨_, hold, _, _, _⟩ := (s.measured r).supervise_lines s.pst.working.bsv
    rw [State.supervised_bsv, hold]
    rfl
  rw [State.judged_eq stage, State.storageStep_full full, State.enterShutdown_eq, ← hold]
  rfl

/-- In SHUTDOWN the park idle timer is left as it is (R39). -/
theorem State.idleTimer_shutdown {t : State} (h : t.bsv.power = .shutdown) : t.idleTimer = t.bsv.parkTimer := by
  unfold State.idleTimer
  rw [if_neg]
  rintro ⟨_, active, _⟩
  rw [h] at active
  cases active

/-- BSV after a scan outside IDENT that shuts the part down. -/
theorem State.scan_bsvDown {s : State} (up : s.bsv.power ≠ .shutdown) (stage : s.bsv.stage ≠ .ident) (r : Readings)
    (full : 2500 ≤ (s.supervised r).nextStorageRun) :
    (s.scan r).bsv = { (s.darkened r).bsv with pwrHold :=
      if (s.darkened r).bsv.stage = .fault ∧ (s.darkened r).requestPackSave.pst.engine.committing = false then false
      else s.bsv.pwrHold } := by
  rw [(State.scan_idlesTo up r).bsv, State.judged_full stage r full, State.idleTimer_shutdown rfl]
  rfl

theorem State.scan_pstDown {s : State} (up : s.bsv.power ≠ .shutdown) (stage : s.bsv.stage ≠ .ident) (r : Readings)
    (full : 2500 ≤ (s.supervised r).nextStorageRun) : (s.scan r).pst = (s.darkened r).requestPackSave.pst := by
  rw [(State.scan_idlesTo up r).pst, State.judged_full stage r full]
  rfl

end Sys2Proof.Machine
end

section
/-! Settles O40: a scan records its readings, in IDENT and after it (R20 to R25, R37, R39, R45). -/

namespace Sys2Proof.Machine

theorem Stage.running_iff (x : Stage) : x.running = true ↔ x ∈ [Stage.normal, .warn, .limit] := by
  cases x <;> decide

/-- Outside NORMAL, WARN and LIMIT a scan leaves the stage, its runs and the gate flags (R30, R32). -/
theorem State.scan_settled {s : State} (up : s.bsv.power ≠ .shutdown) (stage : s.bsv.stage ≠ .ident) (r : Readings)
    (settled : s.bsv.stage.running = false) :
    (s.scan r).bsv.stage = s.bsv.stage ∧ (s.scan r).bsv.warnRun = s.bsv.warnRun ∧
      (s.scan r).bsv.limitRun = s.bsv.limitRun ∧ (s.scan r).bsv.cutRun = s.bsv.cutRun ∧
      (s.scan r).bsv.recoveryRun = s.bsv.recoveryRun ∧ (s.scan r).bsv.gateWarned = s.bsv.gateWarned ∧
      (s.scan r).bsv.gateCrossed = s.bsv.gateCrossed := by
  have idle := Battery.supervise_idle (b := s.measured r) settled s.pst.working.bsv
  rcases Nat.lt_or_ge (s.supervised r).nextStorageRun 2500 with short | full
  · rw [State.scan_bsv up stage r short, idle]
    exact ⟨rfl, rfl, rfl, rfl, rfl, rfl, rfl⟩
  · have down : (s.darkened r).bsv = _ := Battery.shutdown_settled
      (b := { (s.supervised r).bsv with storageRun := (s.supervised r).nextStorageRun })
      (by rw [State.supervised_bsv, idle]; exact settled)
    rw [State.scan_bsvDown up stage r full, down, State.supervised_bsv, idle]
    exact ⟨rfl, rfl, rfl, rfl, rfl, rfl, rfl⟩

/-- The storage run counts in every stage and power state (R45). -/
theorem State.scan_storageRun {s : State} (up : s.bsv.power ≠ .shutdown) (stage : s.bsv.stage ≠ .ident) (r : Readings) :
    (s.scan r).bsv.storageRun =
      if (s.scan r).bsv.minComp < s.pst.working.bsv.storage then s.bsv.storageRun + 1 else 0 := by
  rw [(State.scan_same up stage r).1.minComp, ← State.supervised_nextStorageRun, ← State.storageStep_storageRun,
    (State.scan_idlesTo up r).bsv, State.judged_eq stage]

/-- The scan that completes the storage run leaves the part in SHUTDOWN (R45). -/
theorem State.scan_powerDown {s : State} (up : s.bsv.power ≠ .shutdown) (stage : s.bsv.stage ≠ .ident) (r : Readings)
    (full : 2500 ≤ (s.supervised r).nextStorageRun) : (s.scan r).bsv.power = .shutdown := by
  rw [State.scan_bsvDown up stage r full]
  rfl

/-- The park idle timer after a scan that does not shut the part down (R39). -/
theorem State.scan_parkTimer {s : State} (up : s.bsv.power ≠ .shutdown) (stage : s.bsv.stage ≠ .ident) (r : Readings)
    (stays : (s.scan r).bsv.power ≠ .shutdown) :
    (s.scan r).bsv.parkTimer =
      if s.bsv.power = .active ∧ (s.au.image.drive.throttle ≠ 0 ∨ s.au.image.steer.steer ≠ 0 ∨ s.wnc.present ≠ 0 ∨
        s.wnc.pulseSinceScan = true) then parkPeriod s.pst.working else s.bsv.parkTimer := by
  have short : (s.supervised r).nextStorageRun < 2500 :=
    Nat.lt_of_not_le fun full => stays (State.scan_powerDown up stage r full)
  rw [State.scan_bsv up stage r short]
  simp only [State.busyTruck_iff, and_comm]

/-- One of the first 15 scans of IDENT: its readings, and the count of the scan (R24). -/
theorem State.judged_ident {s : State} (ident : s.bsv.stage = .ident) (early : s.bsv.identScans < 15) (r : Readings) :
    s.judged r = (s.measure r).setBsv { s.measured r with identScans := s.bsv.identScans + 1 } := by
  have step : (s.measure r).stageStep =
      (s.measure r).setBsv { s.measured r with identScans := s.bsv.identScans + 1 } := by
    unfold State.stageStep
    rw [State.measure_bsv]
    exact (if_pos ident).trans (if_neg (Nat.not_le.mpr early))
  unfold State.judged
  rw [step, decide_eq_true ident]
  rfl

/-- In IDENT the park idle timer is left as it is (R39). -/
theorem State.idleTimer_ident {t : State} (h : t.bsv.stage = .ident) : t.idleTimer = t.bsv.parkTimer := by
  unfold State.idleTimer
  exact if_neg fun e => e.2.2 h

/-- In IDENT the account is left as it is (R37). -/
theorem State.measured_charge_ident {s : State} (ident : s.bsv.stage = .ident) (r : Readings) :
    (s.measured r).charge = s.bsv.charge := if_pos (.inl ident)

/-- Settles O40: outside IDENT from what each step of the scan leaves, in IDENT from the state it leads to. -/
theorem scanRecordsReadings : Obligations.ScanRecordsReadings := by
  refine ⟨fun r s up stage => ?_, fun r s ident active early => ?_⟩
  · obtain ⟨readings, account⟩ := State.scan_same up stage r
    have idle := State.scan_idlesTo up r
    have frame := State.judged_supplyOnly stage r
    obtain ⟨least, most⟩ := s.bsv.nextScan.interval_bounds s.free
    refine ⟨s.scan r, s.bsv.nextScan.interval s.free, rfl, (s.measured_measured r).same readings,
      readings.cellCount.trans (if_neg stage), account.identScans, account.identityCells, account.identityAverage,
      readings.resetCause, ?_, least, most, ?_, ?_, readings.nextScan, State.scan_storageRun up stage r, ?_,
      State.scan_parkTimer up stage r, idle.rxl.trans frame.rxl, idle.au.trans frame.au, idle.stc.trans frame.stc,
      idle.drc.trans frame.drc, idle.ltc.trans frame.ltc, idle.pli.trans frame.pli, ?_, ?_, ?_⟩
    · rw [account.charge, readings.packCurrent, State.measured_charge stage]
    · intro four
      rw [four]
      rfl
    · intro hundred
      rw [hundred]
      rfl
    · intro settled
      rw [← Stage.running_iff, Bool.not_eq_true] at settled
      exact State.scan_settled up stage r settled
    · rw [idle.wnc, frame.wnc]
    · rw [idle.pst, frame.working]
    · rw [idle.pst, frame.slots]
  · have up : s.bsv.power ≠ .shutdown := by
      rw [active]
      decide
    have idle := State.scan_idlesTo up r
    have frame := s.measure_supplyOnly r
    rw [State.judged_ident ident early r] at idle
    have timer : ((s.measure r).setBsv { s.measured r with identScans := s.bsv.identScans + 1 }).idleTimer =
        s.bsv.parkTimer := State.idleTimer_ident ident
    have bsv : (s.scan r).bsv = { s.measured r with identScans := s.bsv.identScans + 1 } := by
      rw [idle.bsv, timer]
      rfl
    have readings : (s.measured r).SameReadings (s.scan r).bsv := by
      rw [bsv]
      constructor <;> rfl
    refine ⟨s.scan r, rfl, (s.measured_measured r).same readings, (State.measured_tapsCounted ident r).same readings, ?_,
      idle.rxl.trans frame.rxl, idle.au.trans frame.au, idle.stc.trans frame.stc, idle.drc.trans frame.drc,
      idle.ltc.trans frame.ltc, idle.pli.trans frame.pli, idle.pst.trans (s.measure_pst r), ?_⟩
    · have charge := State.measured_charge_ident ident r
      have pace : (s.measured r).nextScan = .four := if_pos active
      rw [bsv]
      exact congrArg₂ (fun n p => { s.measured r with identScans := s.bsv.identScans + 1, charge := n, nextScan := p })
        charge pace
    · rw [idle.wnc]
      exact congrArg (fun b : Winch => { b with pulseSinceScan := false }) frame.wnc

end Sys2Proof.Machine
end

section
/-! Settles O41: the stage a scan leads to, and the runs it counts (R30 to R34). -/

namespace Sys2Proof.Machine

/-! ### The energy gate and the four runs (R30 to R33) -/

/-- The energy gate: the used figure has reached its share of a known capacity (R32). -/
theorem Battery.gateNow_iff (b : Battery) (w : BsvSettings) : b.gateNow w = true ↔
    w.packCapacity ≠ 0 ∧ w.packCapacity * w.energyWarnPercent / 100 ≤ min 65535 (b.charge / 36000) := by
  simp [Battery.gateNow, Battery.used]

theorem runAfter_eq {c q : Bool} {p : Prop} [Decidable p] (h : c = true ∧ q = true ↔ p) (n : Nat) :
    runAfter c q n = if p then n + 1 else 0 := by
  unfold runAfter
  simp only [Bool.and_eq_true, h]

theorem Battery.runs_warn (b : Battery) (w : BsvSettings) (gate : Bool) :
    (b.runs w gate).warn = if b.stage = .normal ∧ b.minComp < w.warn then b.warnRun + 1 else 0 :=
  runAfter_eq (by simp) _

theorem Battery.runs_limit {b : Battery} (h : b.stage.running = true) (w : BsvSettings) (gate : Bool) :
    (b.runs w gate).limit = if b.stage ≠ .limit ∧ b.minComp < 3400 then b.limitRun + 1 else 0 := by
  have counts : b.stage.countsLimit = true ↔ b.stage ≠ .limit := by
    revert h
    cases b.stage <;> decide
  exact runAfter_eq (by simp [counts]) _

theorem Battery.runs_cut {b : Battery} (h : b.stage.running = true) (w : BsvSettings) (gate : Bool) :
    (b.runs w gate).cut = if b.power ≠ .parked ∧ b.minComp < w.cut then b.cutRun + 1 else 0 :=
  runAfter_eq (by simp [h]) _

theorem Battery.runs_recovery (b : Battery) (w : BsvSettings) (gate : Bool) :
    (b.runs w gate).recovery =
      if b.stage = .limit ∧ 3500 ≤ b.minComp ∨ b.stage = .warn ∧ ¬gate = true ∧ w.warn + 100 ≤ b.minComp then
        b.recoveryRun + 1 else 0 := by
  unfold Battery.runs
  cases stage : b.stage with
  | limit => exact runAfter_eq (by simp) _
  | warn => exact runAfter_eq (by simp) _
  | _ => simp

/-- A run of `k + 1` scans is completed by a scan that qualifies after `k` that did. -/
theorem run_completed {p : Prop} [Decidable p] {k n : Nat} : k + 1 ≤ (if p then n + 1 else 0) ↔ p ∧ k ≤ n := by
  split
  next h => simp [h]
  next h => simp [h]

theorem run_eq {p : Prop} [Decidable p] {n x : Nat} (counted : p → x = n + 1) (ended : ¬p → x = 0) :
    (if p then n + 1 else 0) = x := by
  split
  next h => exact (counted h).symm
  next h => exact (ended h).symm

/-! ### The stage a scan leads to -/

/-- The runs after a scan, before any change of stage. -/
def Battery.nextRuns (b : Battery) (w : BsvSettings) : Runs := b.runs w (b.gateNow w)

/-- The stage a scan leads to. -/
def Battery.nextStage (b : Battery) (w : BsvSettings) : Stage := b.stageAfter (b.nextRuns w) (b.gateNow w)

section
variable {b : Battery} {w : BsvSettings}

theorem Battery.cut_completed (h : b.stage.running = true) :
    125 ≤ (b.nextRuns w).cut ↔ b.power ≠ .parked ∧ b.minComp < w.cut ∧ 124 ≤ b.cutRun := by
  unfold Battery.nextRuns
  rw [Battery.runs_cut h, run_completed, and_assoc]

theorem Battery.limit_completed (h : b.stage.running = true) :
    250 ≤ (b.nextRuns w).limit ↔ b.stage ≠ .limit ∧ b.minComp < 3400 ∧ 249 ≤ b.limitRun := by
  unfold Battery.nextRuns
  rw [Battery.runs_limit h, run_completed, and_assoc]

theorem Battery.warn_completed :
    250 ≤ (b.nextRuns w).warn ↔ b.stage = .normal ∧ b.minComp < w.warn ∧ 249 ≤ b.warnRun := by
  unfold Battery.nextRuns
  rw [Battery.runs_warn, run_completed, and_assoc]

theorem Battery.recovery_completed :
    1250 ≤ (b.nextRuns w).recovery ↔
      (b.stage = .limit ∧ 3500 ≤ b.minComp ∨ b.stage = .warn ∧ ¬b.gateNow w = true ∧ w.warn + 100 ≤ b.minComp) ∧
        1249 ≤ b.recoveryRun := by
  unfold Battery.nextRuns
  rw [Battery.runs_recovery, run_completed]

/-- A completed CUT run leads to CUT (R30). -/
theorem Battery.nextStage_cut (h : 125 ≤ (b.nextRuns w).cut) : b.nextStage w = .cut := if_pos h

/-- Else a completed LIMIT run leads to LIMIT (R30). -/
theorem Battery.nextStage_limit (cut : ¬125 ≤ (b.nextRuns w).cut) (h : 250 ≤ (b.nextRuns w).limit) :
    b.nextStage w = .limit := (if_neg cut).trans (if_pos h)

/-- Else a completed WARN run leads to WARN (R30). -/
theorem Battery.nextStage_warn (cut : ¬125 ≤ (b.nextRuns w).cut) (limit : ¬250 ≤ (b.nextRuns w).limit)
    (h : 250 ≤ (b.nextRuns w).warn) : b.nextStage w = .warn :=
  (if_neg cut).trans <| (if_neg limit).trans (if_pos h)

/-- Else a completed recovery leads up one stage (R33). -/
theorem Battery.nextStage_recovered (cut : ¬125 ≤ (b.nextRuns w).cut) (limit : ¬250 ≤ (b.nextRuns w).limit)
    (warn : ¬250 ≤ (b.nextRuns w).warn) (h : 1250 ≤ (b.nextRuns w).recovery) :
    b.nextStage w = if b.stage = .limit then .warn else .normal :=
  (if_neg cut).trans <| (if_neg limit).trans <| (if_neg warn).trans (if_pos h)

/-- Else NORMAL goes to WARN by the energy gate, once per pack, and any other stage stays (R32). -/
theorem Battery.nextStage_stays (cut : ¬125 ≤ (b.nextRuns w).cut) (limit : ¬250 ≤ (b.nextRuns w).limit)
    (warn : ¬250 ≤ (b.nextRuns w).warn) (recovery : ¬1250 ≤ (b.nextRuns w).recovery) :
    b.nextStage w = if b.stage = .normal ∧ b.gateNow w = true ∧ b.gateWarned = false then .warn else b.stage :=
  (if_neg cut).trans <| (if_neg limit).trans <| (if_neg warn).trans (if_neg recovery)

/-- In NORMAL without a completed run the energy gate decides (R32). -/
theorem Battery.nextStage_of_normal (cut : ¬125 ≤ (b.nextRuns w).cut) (limit : ¬250 ≤ (b.nextRuns w).limit)
    (h : b.stage = .normal) (warn : ¬(b.minComp < w.warn ∧ 249 ≤ b.warnRun)) :
    b.nextStage w = if b.gateNow w = true ∧ b.gateWarned = false then .warn else .normal := by
  have recovery : ¬1250 ≤ (b.nextRuns w).recovery := by
    rw [Battery.recovery_completed, h]
    simp
  rw [Battery.nextStage_stays cut limit (mt Battery.warn_completed.mp fun e => warn e.2) recovery, h]
  simp only [true_and]

/-- In LIMIT without a completed run the recovery decides (R33). -/
theorem Battery.nextStage_of_limit (cut : ¬125 ≤ (b.nextRuns w).cut) (limit : ¬250 ≤ (b.nextRuns w).limit)
    (h : b.stage = .limit) :
    b.nextStage w = if 3500 ≤ b.minComp ∧ 1249 ≤ b.recoveryRun then .warn else .limit := by
  have warn : ¬250 ≤ (b.nextRuns w).warn := by
    rw [Battery.warn_completed, h]
    simp
  have recovery : 1250 ≤ (b.nextRuns w).recovery ↔ 3500 ≤ b.minComp ∧ 1249 ≤ b.recoveryRun := by
    rw [Battery.recovery_completed, h]
    simp
  by_cases recovered : 3500 ≤ b.minComp ∧ 1249 ≤ b.recoveryRun
  · rw [Battery.nextStage_recovered cut limit warn (recovery.mpr recovered), if_pos h, if_pos recovered]
  · rw [Battery.nextStage_stays cut limit warn (mt recovery.mp recovered), if_neg recovered, h]
    simp

/-- In WARN without a completed run the recovery decides, which a crossed gate holds off (R32, R33). -/
theorem Battery.nextStage_of_warn (cut : ¬125 ≤ (b.nextRuns w).cut) (limit : ¬250 ≤ (b.nextRuns w).limit)
    (h : b.stage = .warn) :
    b.nextStage w =
      if ¬b.gateNow w = true ∧ w.warn + 100 ≤ b.minComp ∧ 1249 ≤ b.recoveryRun then .normal else .warn := by
  have warn : ¬250 ≤ (b.nextRuns w).warn := by
    rw [Battery.warn_completed, h]
    simp
  have recovery : 1250 ≤ (b.nextRuns w).recovery ↔
      ¬b.gateNow w = true ∧ w.warn + 100 ≤ b.minComp ∧ 1249 ≤ b.recoveryRun := by
    rw [Battery.recovery_completed, h]
    simp [and_assoc]
  by_cases recovered : ¬b.gateNow w = true ∧ w.warn + 100 ≤ b.minComp ∧ 1249 ≤ b.recoveryRun
  · rw [Battery.nextStage_recovered cut limit warn (recovery.mpr recovered), if_pos recovered, h]
    simp
  · rw [Battery.nextStage_stays cut limit warn (mt recovery.mp recovered), if_neg recovered, h]
    simp

/-- CUT is entered by its run only. -/
theorem Battery.nextStage_ne_cut (h : b.stage.running = true) (cut : ¬125 ≤ (b.nextRuns w).cut) :
    b.nextStage w ≠ .cut := by
  have before : b.stage ≠ .cut := by
    intro e
    rw [e] at h
    cases h
  unfold Battery.nextStage Battery.stageAfter
  rw [if_neg cut]
  repeat' split
  all_goals first | exact before | decide

/-! ### The runs kept at a change of stage -/

/-- The runs after a scan: those that the new stage still counts (R30, R33). -/
theorem Battery.keep_nextRuns (h : b.stage.running = true) :
    (b.nextRuns w).keep b.stage (b.nextStage w) =
      { warn := if b.nextStage w = .normal then (b.nextRuns w).warn else 0
        limit := if b.nextStage w = .normal ∨ b.nextStage w = .warn then (b.nextRuns w).limit else 0
        cut := if b.nextStage w = .cut then 0 else (b.nextRuns w).cut
        recovery := if b.nextStage w = b.stage then (b.nextRuns w).recovery else 0 } := by
  have after := Battery.stageAfter_running h (b.nextRuns w) (b.gateNow w)
  have counts (x : Stage) : x.countsLimit = true ↔ x = .normal ∨ x = .warn := by cases x <;> decide
  have keeps : (b.nextStage w).running = true ↔ b.nextStage w ≠ .cut := by
    constructor
    · intro running e
      rw [e] at running
      cases running
    · exact after.resolve_right
  unfold Runs.keep
  split
  next same =>
    have warn : b.stage ≠ .normal → 0 = (b.nextRuns w).warn := fun e => by
      unfold Battery.nextRuns
      rw [Battery.runs_warn, if_neg fun c => e c.1]
    have limit : ¬(b.stage = .normal ∨ b.stage = .warn) → 0 = (b.nextRuns w).limit := fun e => by
      rw [← counts, Bool.not_eq_true] at e
      show 0 = runAfter b.stage.countsLimit _ _
      rw [e]
      rfl
    have cut : b.stage ≠ .cut := by
      rw [same, ← keeps, ← same]
      exact h
    rw [← same, if_neg cut, if_pos rfl, ite_eq_left_iff.mpr warn, ite_eq_left_iff.mpr limit]
  next moved =>
    simp only [counts, keeps, ite_not, Ne.symm moved, if_false]

end

/-! ### The scan in NORMAL, WARN and LIMIT -/

/-- What a scan that does not shut the part down makes of BSV in NORMAL, WARN and LIMIT, from its readings on. -/
structure Battery.Judged (b : Battery) (w : BsvSettings) (c : Battery) : Prop where
  minComp : c.minComp = b.minComp
  charge : c.charge = b.charge
  stage : c.stage = b.nextStage w
  warnRun : c.warnRun = if c.stage = .normal then (b.nextRuns w).warn else 0
  limitRun : c.limitRun = if c.stage = .normal ∨ c.stage = .warn then (b.nextRuns w).limit else 0
  cutRun : c.cutRun = if c.stage = .cut then 0 else (b.nextRuns w).cut
  recoveryRun : c.recoveryRun = if c.stage = b.stage then (b.nextRuns w).recovery else 0
  gateWarned : c.gateWarned = (b.gateWarned || b.gateNow w)
  gateCrossed : c.gateCrossed = b.gateNow w
  power : c.power = b.power
  pwrHold : c.pwrHold = b.pwrHold
  railEn : c.railEn = b.railEn

/-- Supervision in NORMAL, WARN and LIMIT (R30 to R34). -/
theorem Battery.supervise_running {b : Battery} (h : b.stage.running = true) (w : BsvSettings) :
    b.supervise w = { b with
      stage := b.nextStage w
      warnRun := if b.nextStage w = .normal then (b.nextRuns w).warn else 0
      limitRun := if b.nextStage w = .normal ∨ b.nextStage w = .warn then (b.nextRuns w).limit else 0
      cutRun := if b.nextStage w = .cut then 0 else (b.nextRuns w).cut
      recoveryRun := if b.nextStage w = b.stage then (b.nextRuns w).recovery else 0
      gateWarned := b.gateWarned || b.gateNow w
      gateCrossed := b.gateNow w } := by
  have kept := Battery.keep_nextRuns (w := w) h
  unfold Battery.supervise
  rw [if_pos h]
  exact congrArg (fun k : Runs => { b with
    stage := b.nextStage w, warnRun := k.warn, limitRun := k.limit, cutRun := k.cut, recoveryRun := k.recovery
    gateWarned := b.gateWarned || b.gateNow w, gateCrossed := b.gateNow w }) kept

theorem State.scan_judged {s : State} (up : s.bsv.power ≠ .shutdown) (running : s.bsv.stage.running = true) (r : Readings)
    (short : (s.supervised r).nextStorageRun < 2500) :
    (s.measured r).Judged s.pst.working.bsv (s.scan r).bsv := by
  have stage : s.bsv.stage ≠ .ident := by
    intro e
    rw [e] at running
    cases running
  rw [State.scan_bsv up stage r short, Battery.supervise_running (b := s.measured r) running]
  constructor <;> rfl

/-- No save is requested but at the entry to CUT (R34). -/
theorem State.supervised_pst {s : State} {r : Readings} (h : (s.supervised r).bsv.stage = .cut → s.bsv.stage = .cut) :
    (s.supervised r).pst = s.pst := by
  have entry : ((s.measure r).bsv.supervise (s.measure r).w.bsv).stage = .cut → (s.measure r).bsv.stage = .cut := by
    rw [← State.supervise_bsv, State.measure_bsv]
    exact h
  exact (State.supervise_pst entry).trans (s.measure_pst r)

/-- The entry to CUT has the pack record saved (R34). -/
theorem State.supervised_engine {s : State} {r : Readings} (h : (s.supervised r).bsv.stage = .cut)
    (new : s.bsv.stage ≠ .cut) : (s.supervised r).pst.engine ≠ .idle := by
  have entry : ((s.measure r).bsv.supervise (s.measure r).w.bsv).stage = .cut := by
    rw [← State.supervise_bsv]
    exact h
  refine State.supervise_cut entry ?_
  rw [State.measure_bsv]
  exact new

/-- Settles O41: the runs' completions in the order of the stages, then the runs kept in the stage entered. -/
theorem scanMovesStage : Obligations.ScanMovesStage := by
  intro r s up running run
  rw [← Stage.running_iff] at running
  have stage : s.bsv.stage ≠ .ident ∧ s.bsv.stage ≠ .cut := by
    constructor <;>
    · intro e
      rw [e] at running
      cases running
  have short : (s.supervised r).nextStorageRun < 2500 := by
    rw [State.supervised_nextStorageRun]
    split <;> omega
  have judged := State.scan_judged up running r short
  have pst := State.scan_pst up stage.1 r short
  refine ⟨s.scan r, rfl, fun gate crossed => ?_⟩
  obtain rfl : gate = ((s.measured r).gateNow s.pst.working.bsv = true) := by
    rw [judged.charge, ← Battery.gateNow_iff] at crossed
    exact propext crossed
  have entered : (s.supervised r).bsv.stage = (s.measured r).nextStage s.pst.working.bsv := by
    rw [State.supervised_bsv, Battery.supervise_running (b := s.measured r) running]
  have cutIff := Battery.cut_completed (b := s.measured r) (w := s.pst.working.bsv) running
  have limitIff := Battery.limit_completed (b := s.measured r) (w := s.pst.working.bsv) running
  have warnIff := Battery.warn_completed (b := s.measured r) (w := s.pst.working.bsv)
  rw [judged.minComp]
  refine ⟨fun cut => ?_, fun cut => ?_, ?_, ?_, judged.power, judged.pwrHold, judged.railEn, ?_⟩
  · have toCut := Battery.nextStage_cut (cutIff.mpr cut)
    refine ⟨judged.stage.trans toCut, ?_⟩
    rw [pst]
    exact State.supervised_engine (entered.trans toCut) stage.2
  · have noCut := mt cutIff.mp cut
    have keptPst : (s.supervised r).pst = s.pst :=
      State.supervised_pst fun e => absurd (entered.symm.trans e) (Battery.nextStage_ne_cut running noCut)
    refine ⟨pst.trans keptPst, fun limit => judged.stage.trans (Battery.nextStage_limit noCut (limitIff.mpr limit)),
      fun limit => ?_⟩
    have noLimit := mt limitIff.mp limit
    rw [judged.stage]
    refine ⟨fun normal low run => Battery.nextStage_warn noCut noLimit (warnIff.mpr ⟨normal, low, run⟩),
      fun normal high => ?_, fun atLimit high run => ?_, fun atLimit low => ?_, fun atWarn noGate high run => ?_,
      fun atWarn low => ?_⟩
    · have stays := Battery.nextStage_of_normal noCut noLimit normal high
      exact ⟨fun e => stays.trans (if_pos e), fun e => stays.trans (if_neg e)⟩
    · exact (Battery.nextStage_of_limit noCut noLimit atLimit).trans (if_pos ⟨high, run⟩)
    · refine (Battery.nextStage_of_limit noCut noLimit atLimit).trans (if_neg fun e => ?_)
      exact low.elim (Nat.not_lt.mpr e.1) (Nat.not_lt.mpr e.2)
    · exact (Battery.nextStage_of_warn noCut noLimit atWarn).trans (if_pos ⟨noGate, high, run⟩)
    · refine (Battery.nextStage_of_warn noCut noLimit atWarn).trans (if_neg fun e => ?_)
      obtain ⟨noGate, high, run⟩ := e
      exact low.elim noGate fun e => e.elim (Nat.not_lt.mpr high) (Nat.not_lt.mpr run)
  · rw [judged.gateWarned, Bool.or_eq_true]
    rfl
  · rw [judged.gateCrossed]
  · intro warnRun limitRun cutRun recoveryRun warn noWarn limit noLimit cut noCut recovery noRecovery
    have warnRun_eq : ((s.measured r).nextRuns s.pst.working.bsv).warn = warnRun :=
      (Battery.runs_warn _ _ _).trans (run_eq warn noWarn)
    have limitRun_eq : ((s.measured r).nextRuns s.pst.working.bsv).limit = limitRun :=
      (Battery.runs_limit (b := s.measured r) running _ _).trans (run_eq limit noLimit)
    have cutRun_eq : ((s.measured r).nextRuns s.pst.working.bsv).cut = cutRun :=
      (Battery.runs_cut (b := s.measured r) running _ _).trans (run_eq cut noCut)
    have recoveryRun_eq : ((s.measured r).nextRuns s.pst.working.bsv).recovery = recoveryRun :=
      (Battery.runs_recovery _ _ _).trans (run_eq recovery noRecovery)
    rw [← warnRun_eq, ← limitRun_eq, ← cutRun_eq, ← recoveryRun_eq]
    exact ⟨judged.warnRun, judged.limitRun, judged.cutRun, judged.recoveryRun⟩

end Sys2Proof.Machine
end

section
/-! Settles O43: the scan that completes the storage run shuts the part down (R30, R33, R45, R46, R54). -/

namespace Sys2Proof.Machine

theorem Engine.committing_iff (e : Engine) : e.committing = true ↔ ∃ k v, e = .commit k v := by
  cases e <;> simp [Engine.committing]

/-- In FAULT no pack record save is requested (R35). -/
theorem State.requestPackSave_fault {s : State} (h : s.bsv.stage = .fault) : s.requestPackSave = s := if_pos h

/-- BSV at its entry to SHUTDOWN: the lines, the timer and the storage run (R45). -/
theorem State.darkened_lines (s : State) (r : Readings) :
    (s.darkened r).bsv.power = .shutdown ∧ (s.darkened r).bsv.railEn = false ∧ (s.darkened r).bsv.parkTimer = none ∧
      (s.darkened r).bsv.storageRun = (s.supervised r).nextStorageRun :=
  ⟨rfl, rfl, rfl, Battery.shutdown_storageRun _⟩

/-- Outside NORMAL, WARN and LIMIT the entry to SHUTDOWN keeps the stage, and nothing of the store has changed (R45). -/
theorem State.darkened_settled {s : State} (settled : s.bsv.stage.running = false) (r : Readings) :
    (s.darkened r).bsv.stage = s.bsv.stage ∧ (s.darkened r).pst = s.pst := by
  have idle : (s.supervised r).bsv = s.measured r := by
    rw [State.supervised_bsv]
    exact Battery.supervise_idle (b := s.measured r) settled _
  have stage : (s.supervised r).bsv.stage = s.bsv.stage := by rw [idle]; rfl
  have down : (s.darkened r).bsv = _ := Battery.shutdown_settled
    (b := { (s.supervised r).bsv with storageRun := (s.supervised r).nextStorageRun })
    ((congrArg Stage.running stage).trans settled)
  refine ⟨?_, State.supervised_pst (r := r) fun e => stage.symm.trans e⟩
  rw [down]
  exact stage

/-- NORMAL, WARN and LIMIT are left for SHUTDOWN, or for CUT by a run that the same scan completes, with every run 0 (R30,
R45). -/
theorem State.darkened_running {s : State} (running : s.bsv.stage.running = true) (r : Readings) :
    ((s.darkened r).bsv.stage = .shutdown ∨ (s.darkened r).bsv.stage = .cut) ∧ (s.darkened r).bsv.warnRun = 0 ∧
      (s.darkened r).bsv.limitRun = 0 ∧ (s.darkened r).bsv.cutRun = 0 ∧ (s.darkened r).bsv.recoveryRun = 0 := by
  have after := Battery.stageAfter_running (b := s.measured r) running
    ((s.measured r).nextRuns s.pst.working.bsv) ((s.measured r).gateNow s.pst.working.bsv)
  have supervised := (s.supervised_bsv r).trans
    (Battery.supervise_running (b := s.measured r) running s.pst.working.bsv)
  have stage : (s.supervised r).bsv.stage = (s.measured r).nextStage s.pst.working.bsv :=
    congrArg Battery.stage supervised
  rcases after with stays | cut
  · have down : (s.darkened r).bsv = _ := Battery.shutdown_running
      (b := { (s.supervised r).bsv with storageRun := (s.supervised r).nextStorageRun })
      ((congrArg Stage.running stage).trans stays)
    rw [down]
    exact ⟨.inl rfl, rfl, rfl, rfl, rfl⟩
  · have cut : (s.measured r).nextStage s.pst.working.bsv = .cut := cut
    have down : (s.darkened r).bsv = _ := Battery.shutdown_settled
      (b := { (s.supervised r).bsv with storageRun := (s.supervised r).nextStorageRun })
      (by rw [stage, cut]; rfl)
    have new : ¬Stage.cut = s.bsv.stage := by
      intro e
      rw [← e] at running
      cases running
    rw [down, supervised, cut]
    exact ⟨.inr rfl, rfl, rfl, rfl, if_neg new⟩

/-- A scan that leads to SHUTDOWN gives no row anything (R54). -/
theorem State.scan_grants {s : State} (up : s.bsv.power ≠ .shutdown) {r : Readings}
    (dark : (s.scan r).bsv.power = .shutdown) :
    (s.scan r).bga.steer.grant = 0 ∧ (s.scan r).bga.drive.grant = 0 ∧ (s.scan r).bga.winch.grant = 0 ∧
      (s.scan r).bga.lights.grant = 0 := by
  rw [(State.scan_idlesTo up r).bsv] at dark
  rw [State.scan_eq up r]
  apply State.budgetPass_dark
  rw [State.idleStep_eq]
  exact dark

/-- Settles O43: from BSV at the entry to SHUTDOWN, by the stage that the scan began in. -/
theorem storageRunShutsDown : Obligations.StorageRunShutsDown := by
  intro r s up stage run
  have next := s.supervised_nextStorageRun r
  rw [run] at next
  refine ⟨s.scan r, rfl, ?_⟩
  rw [(State.scan_same up stage r).1.minComp]
  refine ⟨fun high => ?_, fun low => ?_⟩
  · rw [if_neg (Nat.not_lt.mpr high)] at next
    obtain ⟨power, hold, _⟩ := (s.measured r).supervise_lines s.pst.working.bsv
    rw [State.scan_bsv up stage r (by omega)]
    exact ⟨power, next, hold⟩
  · rw [if_pos low] at next
    have full : 2500 ≤ (s.supervised r).nextStorageRun := by omega
    have bsv := State.scan_bsvDown up stage r full
    have pst := State.scan_pstDown up stage r full
    have power := State.scan_powerDown up stage r full
    obtain ⟨_, rail, timer, storage⟩ := s.darkened_lines r
    obtain ⟨steer, drive, winch, lights⟩ := State.scan_grants up power
    rw [pst, bsv]
    refine ⟨rfl, storage.trans next, rail, timer, fun cut => ?_, fun fault => ?_, fun notCut notFault => ?_,
      fun running => ?_, steer, drive, winch, lights, fun fault => ?_, fun notFault => ?_⟩
    · exact (State.darkened_settled (by rw [cut]; rfl) r).1.trans cut
    · exact (State.darkened_settled (by rw [fault]; rfl) r).1.trans fault
    · cases running : s.bsv.stage.running with
      | true => exact (State.darkened_running running r).1
      | false =>
        have dark : s.bsv.stage = .shutdown := by
          revert stage notCut notFault running
          cases s.bsv.stage <;> decide
        exact .inl ((State.darkened_settled running r).1.trans dark)
    · exact (State.darkened_running ((Stage.running_iff _).mpr running) r).2
    · obtain ⟨stage, store⟩ := State.darkened_settled (s := s) (by rw [fault]; rfl) r
      have faulty := stage.trans fault
      rw [State.requestPackSave_fault faulty, store]
      simp only [faulty, true_and]
      refine ⟨fun commit => if_neg ?_, fun noCommit => if_pos ?_⟩
      · rw [(Engine.committing_iff _).mpr commit]
        decide
      · rw [← Bool.not_eq_true, Engine.committing_iff]
        rintro ⟨k, v, e⟩
        exact noCommit k v e
    · have healthy : (s.darkened r).bsv.stage ≠ .fault := by
        cases running : s.bsv.stage.running with
        | true => rcases (State.darkened_running running r).1 with e | e <;> rw [e] <;> decide
        | false =>
          rw [(State.darkened_settled running r).1]
          exact notFault
      exact ⟨if_neg fun e => healthy e.1, State.requestPackSave_engine healthy⟩

end Sys2Proof.Machine
end

section
/-! Settles O42: the 16th scan of IDENT ends identification (R24 to R27, R32, R35, R38). -/

namespace Sys2Proof.Machine

/-! ### The pack and the first stage (R25 to R27, R32) -/

/-- A bad count or a counted cell out of range (R25). -/
theorem Battery.faulty_iff {b : Battery} (h : b.TapsCounted) : b.faulty = true ↔
    b.cellCount < 2 ∨ ∃ k : Fin 4, k.val < b.cellCount ∧ (4350 < b.vRaw.get k ∨ b.vRaw.get k < 2500) := by
  have count : ¬4 < b.cellCount := Nat.not_lt.mpr h.1
  have outside : (∃ v ∈ b.vRaw.toList.take b.cellCount, 4350 < v ∨ v < 2500) ↔
      ∃ k : Fin 4, k.val < b.cellCount ∧ (4350 < b.vRaw.get k ∨ b.vRaw.get k < 2500) := by
    constructor
    · rintro ⟨v, hv, out⟩
      obtain ⟨k, hk, rfl⟩ := (Four.mem_take _ _ _).mp hv
      exact ⟨k, hk, out⟩
    · rintro ⟨k, hk, out⟩
      exact ⟨_, (Four.mem_take _ _ _).mpr ⟨k, hk, rfl⟩, out⟩
  rw [← outside]
  simp [Battery.faulty, count]

/-- The pack of the record is recognised by its cell count and its average (R26). -/
theorem samePack_eq_some {q : StoredPack} {n a : Nat} {p : PackRecord} :
    samePack q n a = some p ↔ q = .valid p ∧ p.cellCount = n ∧ a < p.average + 150 := by
  cases q with
  | valid v =>
    unfold samePack
    rw [Option.ite_none_right_eq_some]
    constructor
    · rintro ⟨same, e⟩
      cases e
      exact ⟨rfl, same⟩
    · rintro ⟨e, same⟩
      cases e
      exact ⟨same, rfl⟩
  | _ => simp [samePack]

theorem mem_queueAttention (l : List Attention) (a : Attention) : a ∈ queueAttention l a := by
  unfold queueAttention
  split
  next h => exact h
  next h => exact List.mem_append_right _ List.mem_cons_self

/-- The first stage, and the gate flags with it (R27, R32). -/
theorem Battery.identified_stage (b : Battery) (w : BsvSettings) (average charge : Nat) {gate : Prop}
    (crossed : gate ↔ w.packCapacity ≠ 0 ∧
      w.packCapacity * w.energyWarnPercent / 100 ≤ min 65535 (charge / 36000)) :
    ((b.identified w average charge).gateCrossed = true ↔ gate) ∧
      ((b.identified w average charge).gateWarned = true ↔ gate ∧ w.warn ≤ b.minComp) ∧
      (w.warn ≤ b.minComp → ¬gate → (b.identified w average charge).stage = .normal) ∧
      (w.warn ≤ b.minComp → gate → (b.identified w average charge).stage = .warn) ∧
      (b.minComp < w.warn → 3400 ≤ b.minComp → (b.identified w average charge).stage = .warn) ∧
      (b.minComp < w.warn → b.minComp < 3400 → (b.identified w average charge).stage = .limit) := by
  have now := Battery.gateNow_iff
    { b.freshRuns with identityCells := b.cellCount, identityAverage := average, charge := charge } w
  rw [← crossed] at now
  unfold Battery.identified initialStage
  dsimp only
  rcases Nat.lt_or_ge b.minComp w.warn with low | high
  · have below : ¬w.warn ≤ b.minComp := Nat.not_le.mpr low
    rw [if_neg below]
    refine ⟨now, ?_, fun e => absurd e below, fun e => absurd e below, fun _ limit => ?_, fun _ limit => ?_⟩
    · split <;> simp [below]
    · simp [limit]
    · simp [Nat.not_le.mpr limit]
  · rw [if_pos high]
    refine ⟨now, ?_, fun _ noGate => ?_, fun _ warned => ?_, fun e => absurd high (Nat.not_le.mpr e),
      fun e => absurd high (Nat.not_le.mpr e)⟩
    · simp [now, high]
    · simp [now, noGate]
    · simp [now, warned]

/-! ### What the end of IDENT keeps, and sets in every case -/

/-- The end of IDENT in every case: the readings and the power state stand, and every run is 0 (R26, R27). -/
structure Battery.Concluded (b c : Battery) : Prop where
  readings : b.SameReadings c
  power : c.power = b.power
  stage : c.stage ≠ .ident
  warnRun : c.warnRun = 0
  limitRun : c.limitRun = 0
  cutRun : c.cutRun = 0
  recoveryRun : c.recoveryRun = 0
  storageRun : c.storageRun = 0

theorem Battery.identFault_concluded (b : Battery) : b.Concluded b.identFault :=
  ⟨by constructor <;> rfl, rfl, Stage.noConfusion, rfl, rfl, rfl, rfl, rfl⟩

theorem Battery.identified_concluded (b : Battery) (w : BsvSettings) (average charge : Nat) :
    b.Concluded (b.identified w average charge) := by
  refine ⟨by constructor <;> rfl, rfl, fun e => ?_, rfl, rfl, rfl, rfl, rfl⟩
  have running := b.identified_running w average charge
  rw [e] at running
  cases running

/-! ### The 16th scan -/

/-- The part with the pack judged: BSV as given, and the park idle timer started (R39). -/
def State.concluded (t : State) (c : Battery) : State := t.setBsv { c with parkTimer := parkPeriod t.w }

theorem State.concluded_eq {t : State} {c : Battery} (h : t.bsv.Concluded c) (active : t.bsv.power = .active) :
    (t.setBsv c).restartParkTimer = t.concluded c := by
  have starts : c.power = .active ∧ c.stage ≠ .ident := ⟨h.power.trans active, h.stage⟩
  rw [State.restartParkTimer_bsv, State.setBsv_bsv, if_pos starts]
  rfl

/-- The 16th scan of IDENT identifies the pack (R24). -/
theorem State.judged_last {s : State} (ident : s.bsv.stage = .ident) (last : s.bsv.identScans = 15) (r : Readings) :
    s.judged r = (s.measure r).identify := by
  have step : (s.measure r).stageStep = (s.measure r).identify := by
    unfold State.stageStep
    rw [State.measure_bsv]
    exact (if_pos ident).trans (if_pos (Nat.le_of_eq last.symm))
  unfold State.judged
  rw [step, decide_eq_true ident]
  rfl

/-- A timer just started is not changed by its condition in the same scan (R39). -/
theorem State.idleTimer_started {t : State} (h : t.bsv.parkTimer = parkPeriod t.w) : t.idleTimer = t.bsv.parkTimer := by
  unfold State.idleTimer
  rw [h]
  exact ite_self _

/-- What the scan leaves when step 4 has started the park idle timer. -/
theorem State.scan_started {s : State} (up : s.bsv.power ≠ .shutdown) {r : Readings}
    (started : (s.judged r).bsv.parkTimer = parkPeriod (s.judged r).w) :
    (s.scan r).bsv = (s.judged r).bsv ∧ (s.scan r).pli = (s.judged r).pli ∧ (s.scan r).pst = (s.judged r).pst := by
  have idle := State.scan_idlesTo up r
  refine ⟨?_, idle.pli, idle.pst⟩
  rw [idle.bsv, State.idleTimer_started started]

section
variable {s : State} {r : Readings}

/-- The end of IDENT in FAULT (R25). -/
theorem State.judged_fault (ident : s.bsv.stage = .ident) (active : s.bsv.power = .active)
    (last : s.bsv.identScans = 15) (faulty : (s.measured r).faulty = true) :
    s.judged r = (s.measure r).concluded (s.measured r).identFault := by
  have bsv := s.measure_bsv r
  rw [State.judged_last ident last, ← State.concluded_eq (by rw [bsv]; exact (s.measured r).identFault_concluded)
    (by rw [bsv]; exact active)]
  unfold State.identify
  rw [bsv]
  exact if_pos faulty

/-- The end of IDENT with the pack of the record (R26). -/
theorem State.judged_samePack (ident : s.bsv.stage = .ident) (active : s.bsv.power = .active)
    (last : s.bsv.identScans = 15) (healthy : ¬(s.measured r).faulty = true) {p : PackRecord}
    (same : samePack s.pst.pack (s.measured r).cellCount (s.measured r).restingAverage = some p) :
    s.judged r =
      (s.measure r).concluded ((s.measured r).identified s.pst.working.bsv p.average (p.used * 36000)) := by
  have bsv := s.measure_bsv r
  rw [State.judged_last ident last, ← State.concluded_eq (by rw [bsv]; exact Battery.identified_concluded _ _ _ _)
    (by rw [bsv]; exact active)]
  unfold State.identify
  rw [bsv, State.w, State.measure_pst, if_neg healthy, same]

/-- The end of IDENT with a new pack (R26, R35). -/
theorem State.judged_newPack (ident : s.bsv.stage = .ident) (active : s.bsv.power = .active)
    (last : s.bsv.identScans = 15) (healthy : ¬(s.measured r).faulty = true)
    (new : samePack s.pst.pack (s.measured r).cellCount (s.measured r).restingAverage = none) :
    s.judged r =
      (((s.measure r).concluded
        ((s.measured r).identified s.pst.working.bsv (s.measured r).restingAverage 0)).setPli
          { s.pli with attention := queueAttention s.pli.attention .packChanged }).requestPackSave := by
  have bsv := s.measure_bsv r
  have pli := (s.measure_supplyOnly r).pli
  rw [State.judged_last ident last, ← State.concluded_eq (by rw [bsv]; exact Battery.identified_concluded _ _ _ _)
    (by rw [bsv]; exact active), ← pli]
  unfold State.identify
  rw [bsv, State.w, State.measure_pst, if_neg healthy, new]
  dsimp only
  rw [State.restartParkTimer_pli]
  rfl

/-- How the 16th scan of IDENT ends, with `c` what it makes of BSV but for the park idle timer. -/
structure State.IdentEnds (s : State) (r : Readings) (c : Battery) (t : State) : Prop where
  concluded : (s.measured r).Concluded c
  bsv : t.bsv = { c with parkTimer := parkPeriod s.pst.working }
  fault : (s.measured r).faulty = true → c = (s.measured r).identFault ∧ t.pli = s.pli ∧ t.pst = s.pst
  same : ¬(s.measured r).faulty = true → ∀ p,
    samePack s.pst.pack (s.measured r).cellCount (s.measured r).restingAverage = some p →
      c = (s.measured r).identified s.pst.working.bsv p.average (p.used * 36000) ∧ t.pli = s.pli ∧ t.pst = s.pst
  new : ¬(s.measured r).faulty = true →
    samePack s.pst.pack (s.measured r).cellCount (s.measured r).restingAverage = none →
      c = (s.measured r).identified s.pst.working.bsv (s.measured r).restingAverage 0 ∧
        .packChanged ∈ t.pli.attention ∧ t.pst.engine ≠ .idle

/-- An end of IDENT without a new pack leaves PLI and the store (R25, R26). -/
theorem State.scan_concluded {c : Battery} (up : s.bsv.power ≠ .shutdown) (h : s.judged r = (s.measure r).concluded c) :
    (s.scan r).bsv = { c with parkTimer := parkPeriod s.pst.working } ∧ (s.scan r).pli = s.pli ∧
      (s.scan r).pst = s.pst := by
  have working := (s.measure_supplyOnly r).working
  obtain ⟨bsv, pli, pst⟩ := State.scan_started (r := r) up (by rw [h]; rfl)
  rw [bsv, pli, pst, h]
  refine ⟨?_, (s.measure_supplyOnly r).pli, s.measure_pst r⟩
  rw [← working]
  rfl

/-- The 16th scan of IDENT ends it in one of three ways (R25, R26). -/
theorem State.scan_identEnds (ident : s.bsv.stage = .ident) (active : s.bsv.power = .active)
    (last : s.bsv.identScans = 15) (r : Readings) : ∃ c, s.IdentEnds r c (s.scan r) := by
  have up : s.bsv.power ≠ .shutdown := by
    rw [active]
    decide
  by_cases faulty : (s.measured r).faulty = true
  · obtain ⟨bsv, pli, pst⟩ := State.scan_concluded up (State.judged_fault ident active last faulty)
    exact ⟨_, Battery.identFault_concluded _, bsv, fun _ => ⟨rfl, pli, pst⟩, fun h => absurd faulty h,
      fun h => absurd faulty h⟩
  · cases same : samePack s.pst.pack (s.measured r).cellCount (s.measured r).restingAverage with
    | some p =>
      obtain ⟨bsv, pli, pst⟩ := State.scan_concluded up (State.judged_samePack ident active last faulty same)
      refine ⟨_, Battery.identified_concluded _ _ _ _, bsv, fun h => absurd h faulty, fun _ q hq => ?_, fun _ h => ?_⟩
      · cases same.symm.trans hq
        exact ⟨rfl, pli, pst⟩
      · cases same.symm.trans h
    | none =>
      have judged := State.judged_newPack ident active last faulty same
      have concluded := Battery.identified_concluded (s.measured r) s.pst.working.bsv (s.measured r).restingAverage 0
      have working : (s.measure r).w = s.pst.working := (s.measure_supplyOnly r).working
      obtain ⟨bsv, pli, pst⟩ := State.scan_started (r := r) up (by
        rw [judged, State.requestPackSave_bsv, State.w, (State.requestPackSave_supplyOnly _).working]
        rfl)
      refine ⟨_, concluded, ?_, fun h => absurd h faulty, fun _ q hq => ?_, fun _ _ => ⟨rfl, ?_, ?_⟩⟩
      · rw [bsv, judged, State.requestPackSave_bsv, ← working]
        rfl
      · cases same.symm.trans hq
      · rw [pli, judged, State.requestPackSave_pli]
        exact mem_queueAttention _ _
      · rw [pst, judged]
        refine State.requestPackSave_engine fun e => ?_
        have running := (s.measured r).identified_running s.pst.working.bsv (s.measured r).restingAverage 0
        rw [show (Battery.identified _ _ _ _).stage = .fault from e] at running
        cases running

end

/-- Settles O42: the three ways in which IDENT ends, and the first stage after two of them. -/
theorem identificationEnds : Obligations.IdentificationEnds := by
  intro r s ident active last
  obtain ⟨c, ends⟩ := State.scan_identEnds ident active last r
  have taps := State.measured_tapsCounted ident r
  have readings : (s.measured r).SameReadings (s.scan r).bsv := by
    rw [ends.bsv]
    exact ends.concluded.readings.trans (by constructor <;> rfl)
  refine ⟨s.scan r, (s.measured r).restingAverage, rfl, taps.same readings, (s.measured_measured r).same readings, ?_, ?_,
    fun bad judged => ?_⟩
  · rw [ends.bsv]
    exact ⟨ends.concluded.warnRun, ends.concluded.limitRun, ends.concluded.cutRun, ends.concluded.recoveryRun,
      ends.concluded.storageRun, ends.concluded.power.trans active, rfl⟩
  · rw [readings.vComp, readings.cellCount]
    rfl
  rw [readings.vRaw, readings.cellCount, ← Battery.faulty_iff taps] at judged
  obtain rfl : bad = ((s.measured r).faulty = true) := propext judged
  rw [readings.cellCount, readings.minComp, ends.bsv]
  refine ⟨fun faulty => ?_, fun healthy p stored cells near => ?_, fun healthy other => ?_, fun healthy gate crossed => ?_⟩
  · obtain ⟨rfl, pli, pst⟩ := ends.fault faulty
    exact ⟨rfl, rfl, rfl, pli, pst, rfl, rfl, rfl, rfl⟩
  · obtain ⟨rfl, pli, pst⟩ := ends.same healthy p (samePack_eq_some.mpr ⟨stored, cells, near⟩)
    exact ⟨rfl, cells.symm, rfl, pli, pst⟩
  · have new : samePack s.pst.pack (s.measured r).cellCount (s.measured r).restingAverage = none := by
      rw [Option.eq_none_iff_forall_ne_some]
      intro p same
      obtain ⟨stored, cells, near⟩ := samePack_eq_some.mp same
      exact (other p stored).elim (fun e => e cells) (Nat.not_le.mpr near)
    obtain ⟨rfl, attention, engine⟩ := ends.new healthy new
    exact ⟨rfl, rfl, rfl, attention, engine⟩
  · obtain ⟨average, charge, rfl⟩ : ∃ average charge,
        c = (s.measured r).identified s.pst.working.bsv average charge := by
      cases same : samePack s.pst.pack (s.measured r).cellCount (s.measured r).restingAverage with
      | some p => exact ⟨_, _, (ends.same healthy p same).1⟩
      | none => exact ⟨_, _, (ends.new healthy same).1⟩
    exact Battery.identified_stage _ _ average charge crossed

end Sys2Proof.Machine
end

section
/-! The budget pass of a scan completion (R50, R54 to R60): what reaches the pass, what the ranks give, and O44. -/

namespace Sys2Proof.Machine

/-! ### What a scan leaves for its budget pass (R21, R54) -/

/-- What steps 1 to 5 of a scan leave of what the budget pass reads outside BSV: the budget table, the winch and the
settings. -/
structure State.SameBudget (s t : State) : Prop where
  bga : t.bga = s.bga
  wnc : t.wnc = s.wnc
  working : t.pst.working = s.pst.working

theorem State.SameBudget.refl (s : State) : s.SameBudget s := ⟨rfl, rfl, rfl⟩

theorem State.SameBudget.trans {s t u : State} (h : s.SameBudget t) (k : t.SameBudget u) : s.SameBudget u :=
  ⟨k.bga.trans h.bga, k.wnc.trans h.wnc, k.working.trans h.working⟩

/-- A step of BSV that leaves the budget table. -/
theorem State.SupplyOnly.sameBudget {s t : State} (h : s.SupplyOnly t) (bga : t.bga = s.bga) : s.SameBudget t :=
  ⟨bga, h.wnc, h.working⟩

theorem State.setBsv_sameBudget (s : State) (b : Battery) : s.SameBudget (s.setBsv b) := ⟨rfl, rfl, rfl⟩

theorem State.setPli_sameBudget (s : State) (p : PitLink) : s.SameBudget (s.setPli p) := ⟨rfl, rfl, rfl⟩

theorem State.restartParkTimer_sameBudget (s : State) : s.SameBudget s.restartParkTimer := ⟨by simp, by simp, by simp⟩

theorem State.requestPackSave_sameBudget (s : State) : s.SameBudget s.requestPackSave :=
  s.requestPackSave_supplyOnly.sameBudget (by simp)

theorem State.measure_sameBudget (s : State) (r : Readings) : s.SameBudget (s.measure r) :=
  (s.measure_supplyOnly r).sameBudget (by simp [State.measure_eq])

theorem State.identify_sameBudget (s : State) : s.SameBudget s.identify := by
  have started (b : Battery) : s.SameBudget (s.setBsv b).restartParkTimer :=
    (s.setBsv_sameBudget b).trans (State.restartParkTimer_sameBudget _)
  unfold State.identify
  split
  · exact started _
  · split
    · exact started _
    · exact ((started _).trans (State.setPli_sameBudget _ _)).trans (State.requestPackSave_sameBudget _)

theorem State.supervise_sameBudget (s : State) : s.SameBudget s.supervise := by
  unfold State.supervise
  dsimp only
  split
  · exact (s.setBsv_sameBudget _).trans (State.requestPackSave_sameBudget _)
  · exact s.setBsv_sameBudget _

theorem State.stageStep_sameBudget (s : State) : s.SameBudget s.stageStep := by
  unfold State.stageStep
  split
  · split
    · exact s.identify_sameBudget
    · exact s.setBsv_sameBudget _
  · exact s.supervise_sameBudget

theorem State.enterShutdown_sameBudget (s : State) : s.SameBudget s.enterShutdown := by
  rw [State.enterShutdown_eq]
  exact ((s.setBsv_sameBudget _).trans (State.requestPackSave_sameBudget _)).trans (State.setBsv_sameBudget _ _)

theorem State.storageStep_sameBudget (s : State) (wasIdent : Bool) : s.SameBudget (s.storageStep wasIdent) := by
  cases wasIdent with
  | true => exact .refl s
  | false =>
    rcases Nat.lt_or_ge s.nextStorageRun 2500 with short | full
    · rw [State.storageStep_short short]
      exact s.setBsv_sameBudget _
    · rw [State.storageStep_full full]
      exact (s.setBsv_sameBudget _).trans (State.enterShutdown_sameBudget _)

theorem State.judged_sameBudget (s : State) (r : Readings) : s.SameBudget (s.judged r) :=
  ((s.measure_sameBudget r).trans (State.stageStep_sameBudget _)).trans (State.storageStep_sameBudget _ _)

/-- What the budget pass of a scan reads: the winch and the settings as before the scan, and BSV as the scan
leaves it. -/
def State.scanInput (s : State) (r : Readings) : PassInput :=
  ⟨s.wnc.assisting, (s.scan r).bsv.railEn, (s.scan r).bsv.stage, (s.scan r).bsv.power, (s.scan r).bsv.minRaw,
    s.pst.working.bga⟩

/-- The budget pass reads `scanInput` and the budget table as it was before the scan. -/
theorem State.scan_passInput {s : State} (up : s.bsv.power ≠ .shutdown) (r : Readings) :
    (s.judged r).idleStep.passInput = s.scanInput r ∧ (s.judged r).idleStep.bga = s.bga := by
  obtain ⟨bga, wnc, working⟩ := s.judged_sameBudget r
  unfold State.scanInput
  rw [(State.scan_idlesTo up r).bsv, State.idleStep_eq, ← bga, ← wnc, ← working]
  exact ⟨rfl, rfl⟩

/-- In SHUTDOWN and FAULT the pass of a scan ends at once (R54). -/
theorem State.scan_bga_dark {s : State} (up : s.bsv.power ≠ .shutdown) {r : Readings}
    (dark : (s.scanInput r).dark = true) : ∃ sag, (s.scan r).bga = s.bga.darkPass (s.scanInput r) sag := by
  obtain ⟨input, bga⟩ := State.scan_passInput up r
  rw [State.scan_eq up, ← input, ← bga]
  rw [← input] at dark
  unfold State.budgetPass
  rw [if_pos dark]
  exact ⟨_, rfl⟩

/-- Outside SHUTDOWN and FAULT the pass of a scan goes on from the stage percentage (R54 to R60). -/
theorem State.scan_bga_light {s : State} (up : s.bsv.power ≠ .shutdown) {r : Readings}
    (light : ¬(s.scanInput r).dark = true) : (s.scan r).bga = s.bga.lightPass (s.scanInput r) := by
  obtain ⟨input, bga⟩ := State.scan_passInput up r
  rw [State.scan_eq up, ← input, ← bga]
  rw [← input] at light
  unfold State.budgetPass
  rw [if_neg light]
  rfl

theorem PassInput.dark_iff (i : PassInput) :
    i.dark = true ↔ i.stage = .shutdown ∨ i.stage = .fault ∨ i.power = .shutdown := by
  simp [PassInput.dark, or_assoc]

/-! ### The rank distribution (R58, R59) -/

theorem offer_le_demand (u floor r : Nat) : offer u floor r ≤ u := by
  unfold offer
  split <;> omega

/-- A row is given its floor or nothing (R58). -/
theorem offer_floor (u floor r : Nat) : offer u floor r = 0 ∨ floor ≤ offer u floor r := by
  unfold offer
  split <;> omega

/-- Served in any order, rows are together given no more than there is. -/
theorem served_sum_le (rows : List (Nat × Nat)) (r : Nat) : (served rows r).sum ≤ r := by
  induction rows generalizing r with
  | nil => exact Nat.zero_le r
  | cons row rest ih =>
    have rest_le := ih (r - offer row.1 row.2 r)
    have offer_le : offer row.1 row.2 r ≤ r := by
      unfold offer
      split <;> omega
    show offer row.1 row.2 r + (served rest (r - offer row.1 row.2 r)).sum ≤ r
    omega

/-- DRIVE is served before WINCH, but after it under the assist ranks (R59). -/
def Shares.inOrder (g : Shares) (assist : Bool) : List Nat :=
  if assist then [g.steer, g.winch, g.drive, g.lights] else [g.steer, g.drive, g.winch, g.lights]

section
variable {uSteer uDrive uWinch uLights floor r : Nat}

/-- The normal ranks serve STEER, DRIVE, WINCH and LIGHTS in this order (R58, R59). -/
theorem distribute_served : (distribute false uSteer uDrive uWinch uLights floor r).inOrder false =
    served [(uSteer, 0), (uDrive, 0), (uWinch, floor), (uLights, 0)] r := rfl

/-- The assist ranks serve WINCH before DRIVE (R58, R59). -/
theorem distribute_served_assist : (distribute true uSteer uDrive uWinch uLights floor r).inOrder true =
    served [(uSteer, 0), (uWinch, floor), (uDrive, 0), (uLights, 0)] r := by
  have last (r1 gD gW : Nat) : offer uLights 0 (r1 - gD - gW) = offer uLights 0 (r1 - gW - gD) := by
    rw [Nat.sub_right_comm]
  unfold Shares.inOrder distribute
  simp only [if_true]
  rw [last]
  rfl

/-- The shares are together no more than what is distributed (R58). -/
theorem distribute_sum_le (assist : Bool) {g : Shares}
    (h : g = distribute assist uSteer uDrive uWinch uLights floor r) : g.steer + g.drive + g.winch + g.lights ≤ r := by
  have sum : (g.inOrder assist).sum = g.steer + g.drive + g.winch + g.lights := by
    cases assist <;> simp [Shares.inOrder] <;> omega
  rw [← sum, h]
  cases assist with
  | false => exact distribute_served ▸ served_sum_le _ _
  | true => exact distribute_served_assist ▸ served_sum_le _ _

/-- No share is more than the row's unprotected demand, and the winch is given its floor or nothing (R58). -/
theorem distribute_bounds (assist : Bool) {g : Shares}
    (h : g = distribute assist uSteer uDrive uWinch uLights floor r) :
    g.steer ≤ uSteer ∧ g.drive ≤ uDrive ∧ g.winch ≤ uWinch ∧ g.lights ≤ uLights ∧ (g.winch = 0 ∨ floor ≤ g.winch) := by
  subst h
  cases assist <;>
    exact ⟨offer_le_demand uSteer 0 _, offer_le_demand uDrive 0 _, offer_le_demand uWinch floor _,
      offer_le_demand uLights 0 _, offer_floor uWinch floor _⟩

end

/-! ### A whole pass (R54 to R60) -/

/-- A row whose grant holds its protected grant, is no more than the demand the pass used, and gives the state (R58,
R60). -/
def BudgetRow.Granted (b : BudgetRow) : Prop :=
  b.protectedGrant ≤ b.grant ∧ b.grant ≤ b.passDemand ∧
    b.state = if b.grant = b.passDemand then .full else if b.grant = 0 then .starved else .partly

/-- What the rank distribution of a pass that goes on gives. -/
def Budget.shares (b : Budget) (i : PassInput) : Shares :=
  distribute i.assist (steerDemand b i - min (steerDemand b i) i.settings.railLimit) b.drive.demand b.winch.demand
    (b.lights.demand - min b.lights.demand 5) i.settings.winchFloor (b.lightPass i).remaining

theorem BudgetRow.after_granted {row : BudgetRow} {used rank low grant : Nat} (above : low ≤ grant)
    (below : grant ≤ used) : (row.after used rank low grant).Granted := ⟨above, below, rfl⟩

section
variable (b : Budget) (i : PassInput)

theorem Budget.darkPass_granted (sag : Nat) :
    ∀ row ∈ [(b.darkPass i sag).steer, (b.darkPass i sag).drive, (b.darkPass i sag).winch, (b.darkPass i sag).lights],
      row.Granted := by
  have nothing {row : BudgetRow} {used rank : Nat} : (row.after used rank 0 0).Granted :=
    BudgetRow.after_granted (le_refl 0) (Nat.zero_le _)
  simp only [List.forall_mem_cons, List.not_mem_nil, false_imp_iff, implies_true, and_true]
  exact ⟨nothing, nothing, nothing, nothing⟩

theorem Budget.lightPass_granted :
    ∀ row ∈ [(b.lightPass i).steer, (b.lightPass i).drive, (b.lightPass i).winch, (b.lightPass i).lights],
      row.Granted := by
  obtain ⟨steer, drive, winch, lights, -⟩ := distribute_bounds i.assist (g := b.shares i) rfl
  have whole {p u d : Nat} (protect : p ≤ d) (rest : u ≤ d - p) : p + u ≤ d := by omega
  simp only [List.forall_mem_cons, List.not_mem_nil, false_imp_iff, implies_true, and_true]
  exact ⟨BudgetRow.after_granted (Nat.le_add_right _ _) (whole (min_le_left _ _) steer),
    BudgetRow.after_granted (Nat.zero_le _) drive, BudgetRow.after_granted (Nat.zero_le _) winch,
    BudgetRow.after_granted (Nat.le_add_right _ _) (whole (min_le_left _ _) lights)⟩

/-- Beyond the protected grants a pass gives the shares of the rank distribution (R58). -/
theorem Budget.lightPass_shares :
    (b.lightPass i).steer.grant = (b.lightPass i).steer.protectedGrant + (b.shares i).steer ∧
      (b.lightPass i).drive.grant = (b.shares i).drive ∧ (b.lightPass i).winch.grant = (b.shares i).winch ∧
      (b.lightPass i).lights.grant = (b.lightPass i).lights.protectedGrant + (b.shares i).lights :=
  ⟨rfl, rfl, rfl, rfl⟩

/-- The grants are together no more than the available current or the protected grants (R56 to R58). -/
theorem Budget.lightPass_sum_le :
    (b.lightPass i).steer.grant + (b.lightPass i).drive.grant + (b.lightPass i).winch.grant +
        (b.lightPass i).lights.grant ≤
      max (b.lightPass i).available
        ((b.lightPass i).steer.protectedGrant + (b.lightPass i).lights.protectedGrant) := by
  have shared := distribute_sum_le i.assist (g := b.shares i) rfl
  have rest : (b.lightPass i).remaining = (b.lightPass i).available -
      ((b.lightPass i).steer.protectedGrant + (b.lightPass i).lights.protectedGrant) := rfl
  obtain ⟨steer, drive, winch, lights⟩ := b.lightPass_shares i
  omega

end

/-- Settles O44: the pass of a scan ends at once, or serves the rows by rank. -/
theorem grantsServedByRank : Obligations.GrantsServedByRank := by
  intro rd s up
  refine ⟨s.scan rd, rfl, ?_⟩
  have isDark := (s.scanInput rd).dark_iff
  by_cases dark : (s.scanInput rd).dark = true
  · obtain ⟨sag, pass⟩ := State.scan_bga_dark up dark
    rw [pass]
    exact ⟨⟨rfl, rfl, rfl, rfl⟩, ⟨rfl, rfl, rfl, rfl⟩, fun _ => ⟨rfl, rfl, rfl, rfl⟩,
      fun light => absurd (isDark.mp dark) light, s.bga.darkPass_granted _ _, .inl rfl, Nat.zero_le _⟩
  · obtain ⟨steer, drive, winch, lights⟩ := s.bga.lightPass_shares (s.scanInput rd)
    obtain ⟨-, -, -, -, floor⟩ := distribute_bounds _ (g := s.bga.shares (s.scanInput rd)) rfl
    rw [State.scan_bga_light up dark]
    refine ⟨⟨rfl, rfl, rfl, rfl⟩, ⟨rfl, rfl, rfl, rfl⟩, fun e => absurd (isDark.mpr e) dark,
      fun _ => ⟨?_, rfl, rfl, rfl, rfl, rfl, rfl, rfl, ?_, fun normal => ?_, fun assist => ?_⟩,
      s.bga.lightPass_granted _, ?_, s.bga.lightPass_sum_le _⟩
    · show (s.scan rd).bsv.stage.percent = _
      cases (s.scan rd).bsv.stage <;> rfl
    · show s.wnc.assisting = true ↔ _
      rw [Winch.assisting_iff, Option.map_eq_some_iff]
    · have ranks : (s.scanInput rd).assist = false := normal
      rw [steer, drive, winch, lights, Nat.add_sub_cancel_left, Nat.add_sub_cancel_left]
      unfold Budget.shares Budget.lightPass
      rw [ranks]
      exact ⟨rfl, distribute_served⟩
    · have ranks : (s.scanInput rd).assist = true := assist
      rw [steer, drive, winch, lights, Nat.add_sub_cancel_left, Nat.add_sub_cancel_left]
      unfold Budget.shares Budget.lightPass
      rw [ranks]
      exact ⟨rfl, distribute_served_assist⟩
    · rw [winch]
      exact floor

end Sys2Proof.Machine
end

section
/-! The winch update in any state (R109): what its stages leave alone, its endings, the safety of the drum, and O50. -/

namespace Sys2Proof.Machine

/-! ### What the stages after the reading leave alone -/

/-- What stages 1 to 3 of an update have read, which no later stage changes (R109). -/
structure Winch.SameReading (b c : Winch) : Prop where
  grant : c.grant = b.grant
  cap : c.cap = b.cap
  capacity : c.capacity = b.capacity
  edge : c.edge = b.edge
  hookHome : c.hookHome = b.hookHome
  stopMark : c.stopMark = b.stopMark
  pulseSinceScan : c.pulseSinceScan = b.pulseSinceScan

/-- The line as the winch knows it (R105, R120). -/
structure Winch.SameLine (b c : Winch) : Prop where
  position : c.position = b.position
  reserveWarned : c.reserveWarned = b.reserveWarned

/-- A stage after the reading writes WNC, AU, STC and PLI alone. -/
structure State.WinchStep (s t : State) : Prop where
  frame : t = { s with wnc := t.wnc, au := t.au, stc := t.stc, pli := t.pli }
  reading : s.wnc.SameReading t.wnc

theorem Winch.SameReading.trans {b c d : Winch} (h : b.SameReading c) (k : c.SameReading d) : b.SameReading d where
  grant := k.grant.trans h.grant
  cap := k.cap.trans h.cap
  capacity := k.capacity.trans h.capacity
  edge := k.edge.trans h.edge
  hookHome := k.hookHome.trans h.hookHome
  stopMark := k.stopMark.trans h.stopMark
  pulseSinceScan := k.pulseSinceScan.trans h.pulseSinceScan

theorem Winch.SameLine.trans {b c d : Winch} (h : b.SameLine c) (k : c.SameLine d) : b.SameLine d :=
  ⟨k.position.trans h.position, k.reserveWarned.trans h.reserveWarned⟩

theorem State.WinchStep.refl (s : State) : s.WinchStep s := ⟨rfl, by constructor <;> rfl⟩

theorem State.WinchStep.trans {s t u : State} (h : s.WinchStep t) (k : t.WinchStep u) : s.WinchStep u where
  frame := by
    refine k.frame.trans ?_
    rw [h.frame]
  reading := h.reading.trans k.reading

theorem State.setWnc_winchStep (s : State) {b : Winch} (h : s.wnc.SameReading b) : s.WinchStep (s.setWnc b) := ⟨rfl, h⟩

theorem State.endOperation_winchStep (s : State) (o : Option SenseKind) : s.WinchStep (s.endOperation o) := by
  cases h : s.wnc.record with
  | none =>
    rw [s.endOperation_none o h]
    exact .refl s
  | some r =>
    refine ⟨?_, ?_⟩
    · unfold State.endOperation
      rw [h]
      rfl
    · rw [State.endOperation_wnc o h]
      unfold Winch.homed
      split <;> constructor <;> rfl

/-- Every ending but a HOME's with GOOD leaves the line (R121). -/
theorem State.endOperation_line (s : State) {o : Option SenseKind}
    (h : ∀ r, s.wnc.record = some r → ¬(r.kind = .home ∧ o = none)) : s.wnc.SameLine (s.endOperation o).wnc := by
  cases record : s.wnc.record with
  | none =>
    rw [s.endOperation_none o record]
    exact ⟨rfl, rfl⟩
  | some r =>
    rw [State.endOperation_wnc o record, Winch.homed, if_neg (h r record)]
    exact ⟨rfl, rfl⟩

/-! ### The safety of the drum (R111, R115) -/

/-- The drum is driven only with leave, grant and direction, and stands braked or open otherwise; a record keeps the
winch out of FREESPOOL, and SHUTDOWN keeps it in HOLD (R110, R111, R115). -/
structure Winch.Safe (v : Battery) (floor : Nat) (b : Winch) : Prop where
  driven : 0 < b.present →
    v.stage ∈ [Stage.normal, .warn, .limit] ∧ v.power = .active ∧ floor ≤ b.grant ∧ b.present ≤ b.requested ∧
      b.present ≤ b.cap ∧ b.drivenDir = b.requestedDir ∧ (b.requestedDir = .out → b.bridge = .windOut) ∧
      (b.requestedDir = .inward → b.bridge = .windIn)
  still : b.present = 0 → b.bridge = if v.power = .shutdown ∨ b.mode = .freespool then .opened else .brake
  operated : b.record ≠ none → b.mode ≠ .freespool
  dark : v.power = .shutdown → b.mode = .hold

/-- The drum of a state is safe. -/
def State.WinchSafe (s : State) : Prop := s.wnc.Safe s.bsv s.pst.working.bga.winchFloor

/-- A change of the stall time, of the back-off or of what the record holds keeps the drum safe. -/
theorem Winch.Safe.recorded {v : Battery} {floor : Nat} {b : Winch} (h : b.Safe v floor) {record : Option OpRecord}
    (held : record ≠ none → b.record ≠ none) (stall : Nat) (backOff : Bool) :
    Winch.Safe v floor { b with record := record, stallTime := stall, backOff := backOff } :=
  ⟨h.driven, h.still, fun e => h.operated (held e), h.dark⟩

/-- An ending brakes the drum, or leaves it open in SHUTDOWN (R119). -/
theorem State.WinchSafe.endOperation {s : State} (h : s.WinchSafe) (o : Option SenseKind) :
    (s.endOperation o).WinchSafe := by
  cases record : s.wnc.record with
  | none =>
    rw [s.endOperation_none o record]
    exact h
  | some r =>
    have mode : s.wnc.mode ≠ .freespool := h.operated (by simp [record])
    have ended : (s.wnc.ended s.bsv.power).Safe s.bsv s.pst.working.bga.winchFloor :=
      ⟨fun e => absurd e (Nat.lt_irrefl 0), fun _ => by simp [Winch.ended, mode], fun e => absurd rfl e, h.dark⟩
    unfold State.WinchSafe
    rw [State.endOperation_wnc o record, State.endOperation_bsv, State.endOperation_pst]
    unfold Winch.homed
    split
    · exact ⟨ended.driven, ended.still, ended.operated, ended.dark⟩
    · exact ended

/-! ### Stages 1 to 3: the reading and the mode (R109, R110) -/

/-- The switch is read, and nothing but the line may change with it (R106). -/
theorem Winch.readHook_eq (b : Winch) (level : Bool) : ∃ position warned,
    b.readHook level = { b with position := position, reserveWarned := warned, hookHome := level } := by
  unfold Winch.readHook
  split
  next arrives =>
    obtain ⟨rfl, -⟩ := Bool.and_eq_true_iff.mp arrives
    exact ⟨some 0, false, rfl⟩
  next => exact ⟨b.position, b.reserveWarned, rfl⟩

/-- WNC after stages 1 to 3 of an update. -/
theorem State.winchRead_fields (s : State) (level : Bool) :
    (s.winchRead level).wnc.grant = s.bga.winch.grant ∧
      (s.winchRead level).wnc.cap = capOf s.bga.winch.grant s.pst.working.wnc.stallCurrent ∧
      (s.winchRead level).wnc.capacity = s.pst.working.wnc.spoolCapacity ∧
      (s.winchRead level).wnc.edge = s.pst.working.wnc.countEdge ∧ (s.winchRead level).wnc.hookHome = level ∧
      (s.winchRead level).wnc.stopMark = false ∧ (s.winchRead level).wnc.pulseSinceScan = s.wnc.pulseSinceScan ∧
      (s.winchRead level).wnc.record = s.wnc.record := by
  obtain ⟨position, warned, read⟩ := (s.wnc.applySettings s.bga.winch.grant s.w.wnc).readHook_eq level
  unfold State.winchRead
  rw [read]
  exact ⟨rfl, rfl, rfl, rfl, rfl, rfl, rfl, rfl⟩

/-- The switch read active after inactive sets the line to 0 (R106). -/
theorem State.winchRead_arrived {s : State} (h : s.wnc.hookHome = false) :
    (s.winchRead true).wnc.position = some 0 ∧ (s.winchRead true).wnc.reserveWarned = false := by
  have arrives : (true && !(s.wnc.applySettings s.bga.winch.grant s.w.wnc).hookHome) = true := by
    simp [Winch.applySettings, h]
  unfold State.winchRead Winch.readHook
  rw [if_pos arrives]
  exact ⟨rfl, rfl⟩

/-- Otherwise a line position stays unless it is above the spool capacity (R108). -/
theorem State.winchRead_unarrived {s : State} {level : Bool} (h : level = false ∨ s.wnc.hookHome = true) :
    (s.winchRead level).wnc.reserveWarned = s.wnc.reserveWarned ∧
      ∀ p, (s.winchRead level).wnc.position = some p ↔
        s.wnc.position = some p ∧ p ≤ s.pst.working.wnc.spoolCapacity := by
  have stays : ¬(level && !(s.wnc.applySettings s.bga.winch.grant s.w.wnc).hookHome) = true := by
    rcases h with h | h <;> simp [Winch.applySettings, h]
  unfold State.winchRead Winch.readHook
  rw [if_neg stays]
  refine ⟨rfl, fun p => ?_⟩
  cases position : s.wnc.position with
  | none => simp [Winch.applySettings, position]
  | some q =>
    simp only [Winch.applySettings, position, State.setWnc_wnc, State.w, Option.ite_none_left_eq_some,
      Option.some.injEq]
    omega

/-- The mode that stage 3 finds for a winch with or without a record (R110). -/
structure Winch.ModeFits (power : PowerState) (b : Winch) : Prop where
  operated : b.record ≠ none → b.mode ≠ .freespool
  dark : power = .shutdown → b.mode = .hold
  active : b.mode = .driven ∨ b.mode = .operation → power = .active

/-- Only in ACTIVE is the mode found DRIVEN or OPERATION, in SHUTDOWN it is HOLD, and FREESPOOL needs no record
(R110). -/
theorem findMode_fits (b : Winch) (power : PowerState) (holder : Holder) (e : WinchEntry) :
    (b.record ≠ none → findMode b power holder e ≠ .freespool) ∧
      (power = .shutdown → findMode b power holder e = .hold) ∧
      (findMode b power holder e = .driven ∨ findMode b power holder e = .operation → power = .active) := by
  unfold findMode
  by_cases dark : power = .shutdown
  · simp [dark]
  by_cases jammed : b.mode = .jammed ∧ mayLeaveJam b holder e = false
  · simp [dark, jammed]
  by_cases parked : power = .parked
  · simp [jammed, parked]
  have active : power = .active := by cases power <;> simp_all
  cases record : b.record with
  | some r => simp [jammed, active]
  | none => simp [active]

theorem State.winchRead_modeFits (s : State) (level : Bool) : (s.winchRead level).wnc.ModeFits s.bsv.power := by
  obtain ⟨operated, dark, active⟩ :=
    findMode_fits ((s.wnc.applySettings s.bga.winch.grant s.w.wnc).readHook level) s.bsv.power s.au.winch.holder
      s.au.image.winch
  exact ⟨operated, dark, active⟩

/-! ### Stage 4: the endings (R119) -/

theorem Ending.first_eq_none {a b : Ending} : a.first b = none ↔ a = none ∧ b = none := by
  cases a <;> simp [Ending.first]

theorem stageEnding_eq_none {stage : Stage} {power : PowerState} :
    stageEnding stage power = none ↔ ¬(stage = .cut ∨ stage = .fault ∨ power = .shutdown) := by
  unfold stageEnding
  split <;> simp_all

theorem Winch.hookEnding_eq_none {b : Winch} {r : OpRecord} :
    b.hookEnding r = none ↔ b.hookHome = false ∨ r.kind = .payOut := by
  unfold Winch.hookEnding
  cases b.hookHome <;> cases r.kind <;> simp

theorem Winch.capacityEnding_eq_none {b : Winch} {r : OpRecord} :
    b.capacityEnding r = none ↔ ¬(r.kind = .payOut ∧ b.atCapacity = true) := by
  unfold Winch.capacityEnding
  split <;> simp_all

theorem starvationEnding_eq_none {r : OpRecord} :
    starvationEnding r = none ↔ ∀ x, r.starvedFor = some x → x < 2000 := by
  unfold starvationEnding
  cases r.starvedFor <;> simp

theorem Winch.hookEnding_eq_good {b : Winch} {r : OpRecord} :
    b.hookEnding r = some none ↔ b.hookHome = true ∧ r.kind = .home := by
  unfold Winch.hookEnding
  cases b.hookHome <;> cases r.kind <;> simp

/-- The endings by the spool capacity and by starvation are never GOOD (R120, R123). -/
theorem Winch.capacityOrStarvation_ne_good (b : Winch) (r : OpRecord) :
    (b.capacityEnding r).first (starvationEnding r) ≠ some none := by
  unfold Winch.capacityEnding starvationEnding
  split
  · simp [Ending.first]
  · cases r.starvedFor <;> simp [Ending.first]

/-- An operation goes on past stage 4 when none of its four endings holds (R119). -/
theorem Winch.updateEnding_eq_none {b : Winch} {r : OpRecord} (h : b.record = some r) {stage : Stage}
    {power : PowerState} : b.updateEnding stage power = none ↔
      ¬(stage = .cut ∨ stage = .fault ∨ power = .shutdown) ∧ (b.hookHome = false ∨ r.kind = .payOut) ∧
        ¬(r.kind = .payOut ∧ b.atCapacity = true) ∧ ∀ x, r.starvedFor = some x → x < 2000 := by
  unfold Winch.updateEnding
  rw [h]
  dsimp only
  rw [Ending.first_eq_none, Ending.first_eq_none, Ending.first_eq_none, stageEnding_eq_none, Winch.hookEnding_eq_none,
    Winch.capacityEnding_eq_none, starvationEnding_eq_none]

theorem Winch.atCapacity_of_position {b : Winch} (h : b.position = some b.capacity) : b.atCapacity = true := by
  simp [Winch.atCapacity, h]

/-- A HOME that the hook ends (R121, R126). -/
def State.comesHome (s : State) (r : OpRecord) : Prop :=
  s.wnc.record = some r ∧ r.kind = .home ∧ s.wnc.hookHome = true ∧
    ¬(s.bsv.stage = .cut ∨ s.bsv.stage = .fault ∨ s.bsv.power = .shutdown)

/-- Stage 4 ends an operation with GOOD exactly when a HOME comes home (R119, R121). -/
theorem State.updateEnding_good {s : State} {r : OpRecord} (h : s.wnc.record = some r) :
    s.wnc.updateEnding s.bsv.stage s.bsv.power = some none ↔ s.comesHome r := by
  unfold Winch.updateEnding State.comesHome
  rw [h]
  dsimp only
  by_cases dark : s.bsv.stage = .cut ∨ s.bsv.stage = .fault ∨ s.bsv.power = .shutdown
  · rw [stageEnding, if_pos dark]
    simp [Ending.first, dark]
  · rw [stageEnding_eq_none.mpr dark]
    show (s.wnc.hookEnding r).first _ = _ ↔ _
    cases hook : s.wnc.hookEnding r with
    | none =>
      have stays := Winch.hookEnding_eq_none.mp hook
      refine iff_of_false (s.wnc.capacityOrStarvation_ne_good r) fun ⟨_, home, active, _⟩ => ?_
      rw [home, active] at stays
      simp at stays
    | some o =>
      show some o = some none ↔ _
      rw [← hook, Winch.hookEnding_eq_good]
      exact ⟨fun ⟨active, home⟩ => ⟨rfl, home, active, dark⟩, fun ⟨_, home, active, _⟩ => ⟨active, home⟩⟩

/-- Stage 4 does nothing, or it is the ending of an operation. -/
theorem State.winchEnd_cases (s : State) :
    s.wnc.updateEnding s.bsv.stage s.bsv.power = none ∧ s.winchEnd = s ∨
      ∃ o, s.wnc.updateEnding s.bsv.stage s.bsv.power = some o ∧ s.winchEnd = s.endOperation o := by
  unfold State.winchEnd
  cases s.wnc.updateEnding s.bsv.stage s.bsv.power with
  | none => exact .inl ⟨rfl, rfl⟩
  | some o => exact .inr ⟨o, rfl, rfl⟩

theorem State.winchEnd_winchStep (s : State) : s.WinchStep s.winchEnd := by
  obtain ⟨-, same⟩ | ⟨o, -, ended⟩ := s.winchEnd_cases
  · rw [same]
    exact .refl s
  · rw [ended]
    exact s.endOperation_winchStep o

theorem State.winchEnd_bsv (s : State) : s.winchEnd.bsv = s.bsv := (congrArg State.bsv s.winchEnd_winchStep.frame :)

/-- The record that an ending of stage 4 removes is gone (R119). -/
theorem State.winchEnd_record {s : State}
    (h : s.wnc.record = none ∨ s.wnc.updateEnding s.bsv.stage s.bsv.power ≠ none) :
    s.winchEnd.wnc.record = none := by
  obtain ⟨goes, same⟩ | ⟨o, -, ended⟩ := s.winchEnd_cases
  · rw [same]
    exact h.resolve_right (absurd goes)
  · rw [ended]
    exact s.endOperation_record o

/-- A HOME that the hook ends leaves the line at 0, and with IMMEDIATE nothing for PLI (R121, R163). -/
theorem State.winchEnd_home {s : State} {r : OpRecord} (h : s.comesHome r) :
    s.winchEnd.wnc.record = none ∧ s.winchEnd.wnc.position = some 0 ∧ s.winchEnd.wnc.reserveWarned = false ∧
      (r.immediate = true → s.winchEnd.pli = s.pli) := by
  obtain ⟨record, home, -, -⟩ := id h
  have good := (State.updateEnding_good record).mpr h
  have ended : s.winchEnd = s.endOperation none := congrArg s.takeEnding good
  rw [ended, State.endOperation_wnc none record, State.endOperation_pli none record, Winch.homed, if_pos ⟨home, rfl⟩]
  exact ⟨rfl, rfl, rfl, fun immediate => if_pos immediate⟩

/-- Every other ending of stage 4 leaves the line (R119). -/
theorem State.winchEnd_line {s : State} (h : ∀ r, ¬s.comesHome r) : s.wnc.SameLine s.winchEnd.wnc := by
  obtain ⟨-, same⟩ | ⟨o, ending, ended⟩ := s.winchEnd_cases
  · rw [same]
    exact ⟨rfl, rfl⟩
  · rw [ended]
    refine s.endOperation_line fun r record ⟨_, good⟩ => h r ((State.updateEnding_good record).mp ?_)
    rw [ending, good]

/-- An ending leaves the mode (R119, entry 28). -/
theorem State.endOperation_mode (s : State) (o : Option SenseKind) : (s.endOperation o).wnc.mode = s.wnc.mode := by
  cases record : s.wnc.record with
  | none => rw [s.endOperation_none o record]
  | some r =>
    rw [State.endOperation_wnc o record, Winch.homed_mode]
    rfl

theorem State.winchEnd_modeFits {s : State} (h : s.wnc.ModeFits s.bsv.power) : s.winchEnd.wnc.ModeFits s.bsv.power := by
  obtain ⟨-, same⟩ | ⟨o, -, ended⟩ := s.winchEnd_cases
  · rw [same]
    exact h
  · rw [ended]
    refine ⟨fun e => absurd (s.endOperation_record o) e, ?_, ?_⟩ <;> rw [State.endOperation_mode]
    · exact h.dark
    · exact h.active

/-! ### Stage 5: the drum driven (R111) -/

theorem Stage.winchWorks_iff (x : Stage) : x.winchWorks = true ↔ x ∈ [Stage.normal, .warn, .limit] := by
  cases x <;> decide

/-- A target above 0 stands in NORMAL, WARN or LIMIT under DRIVEN or OPERATION (R111). -/
theorem Winch.target_pos {b : Winch} {stage : Stage} {e : WinchEntry} {w : WncSettings}
    (h : 0 < (b.target stage e w).duty) :
    stage ∈ [Stage.normal, .warn, .limit] ∧ (b.mode = .driven ∨ b.mode = .operation) := by
  unfold Winch.target at h
  cases works : stage.winchWorks with
  | false => simp [works] at h
  | true =>
    refine ⟨stage.winchWorks_iff.mp works, ?_⟩
    cases mode : b.mode with
    | driven => exact .inl rfl
    | operation => exact .inr rfl
    | hold => simp [works, mode] at h
    | freespool => simp [works, mode] at h
    | jammed => simp [works, mode] at h

/-- A requested duty above 0 asks for a target above 0 (R111). -/
theorem Winch.request_pos {b : Winch} {t : WinchTarget} {ramp : Nat} (h : 0 < (b.request t ramp).requested) :
    0 < t.duty := by
  unfold Winch.request at h
  dsimp only at h
  split_ifs at h <;> omega

theorem Winch.starved_eq_false {b : Winch} {floor : Nat} :
    b.starved floor = false ↔ (0 < b.requested → floor ≤ b.grant ∧ b.cap ≠ 0) := by
  simp [Winch.starved]

/-- A present duty above 0 stays within the requested duty and the cap, under a grant at or above the floor (R111). -/
theorem Winch.grantDuty_pos {b : Winch} {floor ramp : Nat} (h : 0 < (b.grantDuty floor ramp).present) :
    floor ≤ b.grant ∧ (b.grantDuty floor ramp).present ≤ b.requested ∧ (b.grantDuty floor ramp).present ≤ b.cap := by
  unfold Winch.grantDuty at h ⊢
  cases starved : b.starved floor with
  | true => simp [starved] at h
  | false =>
    simp only [starved, Bool.false_eq_true, if_false] at h ⊢
    have granted := Winch.starved_eq_false.mp starved (by omega)
    omega

/-- The bridge drives in the requested direction, or stands braked or open (R111). -/
theorem Winch.setBridge_action {b : Winch} {power : PowerState} (up : 0 < b.present → power = .active) :
    (0 < b.present → (b.setBridge power).drivenDir = b.requestedDir ∧
        (b.requestedDir = .out → (b.setBridge power).bridge = .windOut) ∧
        (b.requestedDir = .inward → (b.setBridge power).bridge = .windIn)) ∧
      (b.present = 0 →
        (b.setBridge power).bridge = if power = .shutdown ∨ b.mode = .freespool then .opened else .brake) := by
  unfold Winch.setBridge Winch.action
  refine ⟨fun moves => ?_, fun rests => ?_⟩
  · have active := up moves
    cases b.requestedDir <;> simp [active, moves]
  · by_cases dark : power = .shutdown <;> simp [dark, rests]

/-- A drum that stage 5 drives has leave by stage and mode, a grant at or above the floor, and a duty within bounds
(R111). -/
theorem Winch.drive_pos {b : Winch} {stage : Stage} {power : PowerState} {e : WinchEntry} {w : WncSettings}
    {floor : Nat} (h : 0 < (b.drive stage power e w floor).present) :
    stage ∈ [Stage.normal, .warn, .limit] ∧ (b.mode = .driven ∨ b.mode = .operation) ∧ floor ≤ b.grant ∧
      (b.drive stage power e w floor).present ≤ (b.drive stage power e w floor).requested ∧
      (b.drive stage power e w floor).present ≤ b.cap := by
  obtain ⟨granted, within, capped⟩ := Winch.grantDuty_pos h
  obtain ⟨works, mode⟩ := Winch.target_pos (Winch.request_pos (Nat.lt_of_lt_of_le h within))
  exact ⟨works, mode, granted, within, capped⟩

/-- Stage 5 leaves the drum safe, whatever the mode and the entry (R111, R115). -/
theorem State.winchDrive_safe {s : State} (h : s.wnc.ModeFits s.bsv.power) : s.winchDrive.WinchSafe := by
  have active (moves : 0 < s.winchDrive.wnc.present) : s.bsv.power = .active := by
    obtain ⟨-, mode, -⟩ := Winch.drive_pos moves
    exact h.active mode
  obtain ⟨drives, rests⟩ := Winch.setBridge_action
    (b := (s.wnc.request (s.wnc.target s.bsv.stage s.au.image.winch s.w.wnc) s.w.wnc.winchRamp).grantDuty
      s.w.bga.winchFloor s.w.wnc.winchRamp) active
  refine ⟨fun moves => ?_, rests, h.operated, h.dark⟩
  obtain ⟨works, -, granted, within, capped⟩ := Winch.drive_pos moves
  exact ⟨works, active moves, granted, within, capped, drives moves⟩

theorem State.winchDrive_winchStep (s : State) : s.WinchStep s.winchDrive :=
  s.setWnc_winchStep (by constructor <;> rfl)

/-! ### Stage 6: tension, stall and starvation (R122 to R124) -/

/-- What stage 6 of an update may do: it writes WNC, AU, STC and PLI alone, leaves what was read and the line, does
nothing for PLI without a record, and keeps the drum safe. -/
structure State.MeasuresTo (s t : State) : Prop where
  step : s.WinchStep t
  line : s.wnc.SameLine t.wnc
  idle : s.wnc.record = none → t.wnc.record = none ∧ t.pli = s.pli
  safe : s.WinchSafe → t.WinchSafe

theorem State.MeasuresTo.refl (s : State) : s.MeasuresTo s := ⟨.refl s, ⟨rfl, rfl⟩, fun h => ⟨h, rfl⟩, id⟩

theorem State.MeasuresTo.trans {s t u : State} (h : s.MeasuresTo t) (k : t.MeasuresTo u) : s.MeasuresTo u where
  step := h.step.trans k.step
  line := h.line.trans k.line
  idle absent := by
    obtain ⟨gone, pli⟩ := h.idle absent
    obtain ⟨still, pli'⟩ := k.idle gone
    exact ⟨still, pli'.trans pli⟩
  safe := k.safe ∘ h.safe

/-- A change of the stall time, of the back-off or of what the record holds. -/
theorem State.recorded_measuresTo (s : State) {record : Option OpRecord} (held : record = none ↔ s.wnc.record = none)
    (stall : Nat) (backOff : Bool) :
    s.MeasuresTo (s.setWnc { s.wnc with record := record, stallTime := stall, backOff := backOff }) where
  step := s.setWnc_winchStep (by constructor <;> rfl)
  line := ⟨rfl, rfl⟩
  idle absent := ⟨held.mpr absent, rfl⟩
  safe safe := Winch.Safe.recorded safe (mt held.mpr) stall backOff

/-- An ending other than a HOME's with GOOD. -/
theorem State.endOperation_measuresTo (s : State) {o : Option SenseKind}
    (h : ∀ r, s.wnc.record = some r → ¬(r.kind = .home ∧ o = none)) : s.MeasuresTo (s.endOperation o) where
  step := s.endOperation_winchStep o
  line := s.endOperation_line h
  idle absent := ⟨s.endOperation_record o, by rw [s.endOperation_none o absent]⟩
  safe safe := safe.endOperation o

/-- Only a HAUL_TO_TENSION settles (R122). -/
theorem State.judgeTension_measuresTo (s : State) : s.MeasuresTo s.judgeTension := by
  unfold State.judgeTension
  cases record : s.wnc.record with
  | none => exact .refl s
  | some r =>
    dsimp only
    split
    next settled =>
      refine s.endOperation_measuresTo fun q held home => ?_
      cases record.symm.trans held
      simp [OpRecord.settled, home.1] at settled
    next => exact .refl s

/-- A drum that is driven when the jam is declared is driven in ACTIVE, and JAMMED brakes it (R124). -/
theorem State.jam_measuresTo {s : State} (moves : 0 < s.wnc.present) : s.MeasuresTo s.jam := by
  have active (safe : s.WinchSafe) : s.bsv.power ≠ .shutdown := by
    obtain ⟨-, active, -⟩ := safe.driven moves
    rw [active]
    decide
  unfold State.jam
  cases record : s.wnc.record with
  | none =>
    refine ⟨s.setWnc_winchStep (by constructor <;> rfl), ⟨rfl, rfl⟩, fun _ => ⟨record, rfl⟩, fun safe => ?_⟩
    refine ⟨fun e => absurd e (Nat.lt_irrefl 0), fun _ => ?_, fun e => absurd record e,
      fun dark => absurd dark (active safe)⟩
    simp [Winch.jamDriven, active safe]
  | some r =>
    dsimp only
    split
    next => exact s.recorded_measuresTo (record := some { r with retries := r.retries + 1 }) (by simp [record]) 0 true
    next =>
      have jammed : s.MeasuresTo (s.setWnc { s.wnc with mode := .jammed }) := by
        refine ⟨s.setWnc_winchStep (by constructor <;> rfl), ⟨rfl, rfl⟩, fun absent => ⟨absent, rfl⟩, fun safe => ?_⟩
        exact ⟨safe.driven, fun rests => absurd rests (Nat.ne_of_gt moves), fun _ => by simp,
          fun dark => absurd dark (active safe)⟩
      exact jammed.trans (State.endOperation_measuresTo _ (by simp))

/-- The stall time is counted while the drum is driven (R124). -/
theorem Winch.measureStall_present {b : Winch} {current jamCurrent : Nat}
    (h : 300 ≤ (b.measureStall current jamCurrent).stallTime) : 0 < b.present := by
  unfold Winch.measureStall at h
  dsimp only at h
  split at h
  next stalls => exact Nat.lt_of_lt_of_le (by decide) stalls.1
  next => omega

theorem State.judgeStall_measuresTo (s : State) (current jamCurrent : Nat) :
    s.MeasuresTo (s.setWnc (s.wnc.measureStall current jamCurrent)).judgeJam := by
  have measured : s.MeasuresTo (s.setWnc (s.wnc.measureStall current jamCurrent)) :=
    s.recorded_measuresTo Iff.rfl _ s.wnc.backOff
  refine measured.trans ?_
  unfold State.judgeJam
  split
  next declared => exact State.jam_measuresTo (show 0 < s.wnc.present from Winch.measureStall_present declared)
  next => exact .refl _

theorem State.winchMeasure_measuresTo (s : State) : s.MeasuresTo s.winchMeasure := by
  have tension (t : State) (current : Nat) : t.MeasuresTo (t.setWnc (t.wnc.measureTension current)) := by
    unfold Winch.measureTension
    cases record : t.wnc.record with
    | none => exact .refl t
    | some r => exact t.recorded_measuresTo (by simp [record]) _ _
  have starvation (t : State) (floor : Nat) : t.MeasuresTo (t.setWnc (t.wnc.measureStarvation floor)) := by
    unfold Winch.measureStarvation
    cases record : t.wnc.record with
    | none => exact .refl t
    | some r => exact t.recorded_measuresTo (by simp [record]) _ _
  exact (((tension s _).trans (State.judgeTension_measuresTo _)).trans (State.judgeStall_measuresTo _ _ _)).trans
    (starvation _ _)

/-! ### The whole update (R109) -/

/-- The part after stages 1 to 6 of an update, irreducible so that no proof below runs the stages again. -/
@[irreducible] def State.winchJudged (s : State) (level : Bool) : State :=
  (s.winchRead level).winchEnd.winchDrive.winchMeasure

theorem exec_winchUpdateExpiry (level : Bool) (s : State) :
    exec (.winchUpdateExpiry level) s = .next (s.winchJudged level).winchPost.showWinch := by
  unfold State.winchJudged
  rfl

theorem dutyDemand_eq (duty stall : Nat) : dutyDemand duty stall = demandOf duty stall :=
  congrArg (· / 1000) (Nat.add_sub_assoc (by decide) _)

section
variable (s : State) (level : Bool)

theorem State.winchJudged_winchStep : (s.winchRead level).WinchStep (s.winchJudged level) := by
  unfold State.winchJudged
  exact ((State.winchEnd_winchStep _).trans (State.winchDrive_winchStep _)).trans (State.winchMeasure_measuresTo _).step

/-- The stages after the endings leave the line as the endings left it. -/
theorem State.winchJudged_line : (s.winchRead level).winchEnd.wnc.SameLine (s.winchJudged level).wnc := by
  obtain ⟨position, warned⟩ := (State.winchMeasure_measuresTo (s.winchRead level).winchEnd.winchDrive).line
  unfold State.winchJudged
  exact ⟨position, warned⟩

/-- An operation that stage 4 has ended stays ended, and nothing more reaches PLI. -/
theorem State.winchJudged_idle (h : (s.winchRead level).winchEnd.wnc.record = none) :
    (s.winchJudged level).wnc.record = none ∧ (s.winchJudged level).pli = (s.winchRead level).winchEnd.pli := by
  unfold State.winchJudged
  exact (State.winchMeasure_measuresTo (s.winchRead level).winchEnd.winchDrive).idle h

/-- An operation goes on past an update only when none of the four endings holds (R119). -/
theorem State.winchJudged_goesOn {r : OpRecord} (h : s.wnc.record = some r)
    (on : (s.winchJudged level).wnc.record ≠ none) :
    ¬(s.bsv.stage = .cut ∨ s.bsv.stage = .fault ∨ s.bsv.power = .shutdown) ∧ (level = false ∨ r.kind = .payOut) ∧
      ¬(r.kind = .payOut ∧ (s.winchRead level).wnc.atCapacity = true) ∧ ∀ x, r.starvedFor = some x → x < 2000 := by
  obtain ⟨-, -, -, -, hook, -, -, record⟩ := s.winchRead_fields level
  have goes : (s.winchRead level).wnc.updateEnding s.bsv.stage s.bsv.power = none := by
    by_contra ends
    exact on (s.winchJudged_idle level (State.winchEnd_record (.inr ends))).1
  rw [Winch.updateEnding_eq_none (record.trans h), hook] at goes
  exact goes

/-- A HOME that the hook ends (R121, R126), in the words of the state before the update. -/
theorem State.winchRead_comesHome {r : OpRecord} : (s.winchRead level).comesHome r ↔
    s.wnc.record = some r ∧ r.kind = .home ∧ level = true ∧
      ¬(s.bsv.stage = .cut ∨ s.bsv.stage = .fault ∨ s.bsv.power = .shutdown) := by
  obtain ⟨-, -, -, -, hook, -, -, record⟩ := s.winchRead_fields level
  unfold State.comesHome
  rw [hook, record]
  rfl

/-- A HOME that the hook ends leaves the line at 0, and with IMMEDIATE nothing for PLI (R121, R163). -/
theorem State.winchJudged_home {r : OpRecord} (h : (s.winchRead level).comesHome r) :
    (s.winchJudged level).wnc.position = some 0 ∧ (s.winchJudged level).wnc.reserveWarned = false ∧
      (r.immediate = true → (s.winchJudged level).pli = s.pli) := by
  obtain ⟨ended, position, warned, pli⟩ := State.winchEnd_home h
  have line := s.winchJudged_line level
  exact ⟨line.position.trans position, line.reserveWarned.trans warned,
    fun immediate => (s.winchJudged_idle level ended).2.trans (pli immediate)⟩

/-- Otherwise the line is as stages 1 to 3 left it. -/
theorem State.winchJudged_noHome (h : ∀ r, ¬(s.winchRead level).comesHome r) :
    (s.winchRead level).wnc.SameLine (s.winchJudged level).wnc :=
  (State.winchEnd_line h).trans (s.winchJudged_line level)

/-- A hook-home arrival sets the line to 0, whatever it ends (R106). -/
theorem State.winchJudged_arrived (h : s.wnc.hookHome = false) :
    (s.winchJudged true).wnc.position = some 0 ∧ (s.winchJudged true).wnc.reserveWarned = false := by
  by_cases home : ∃ r, (s.winchRead true).comesHome r
  · obtain ⟨r, home⟩ := home
    obtain ⟨position, warned, -⟩ := s.winchJudged_home true home
    exact ⟨position, warned⟩
  · obtain ⟨position, warned⟩ := State.winchRead_arrived h
    have kept := s.winchJudged_noHome true (not_exists.mp home)
    exact ⟨kept.position.trans position, kept.reserveWarned.trans warned⟩

/-- Whatever the mode and the operation, an update leaves the drum safe (R111, R115). -/
theorem State.winchJudged_safe : (s.winchJudged level).wnc.Safe s.bsv s.pst.working.bga.winchFloor := by
  have fits : (s.winchRead level).winchEnd.wnc.ModeFits (s.winchRead level).winchEnd.bsv.power := by
    rw [State.winchEnd_bsv]
    exact State.winchEnd_modeFits (s := s.winchRead level) (s.winchRead_modeFits level)
  have safe := (State.winchMeasure_measuresTo _).safe (State.winchDrive_safe fits)
  have frame := (s.winchJudged_winchStep level).frame
  have bsv : (s.winchJudged level).bsv = s.bsv := (congrArg State.bsv frame :)
  have pst : (s.winchJudged level).pst = s.pst := (congrArg State.pst frame :)
  rw [← bsv, ← pst]
  unfold State.winchJudged
  exact safe

/-- The update writes WNC, AU, STC and PLI, and posts the demand of the requested duty (R52, R112). -/
theorem State.winchUpdate_frame {t : State} (h : t = (s.winchJudged level).winchPost.showWinch) :
    t = { s with
      wnc := t.wnc, au := t.au, stc := t.stc, pli := t.pli
      bga := { s.bga with winch := { s.bga.winch with
        demand := demandOf t.wnc.requested s.pst.working.wnc.stallCurrent } } } := by
  have frame := (s.winchJudged_winchStep level).frame
  rw [h, State.winchPost, dutyDemand_eq, frame]
  rfl

end

/-- Settles O50, stage by stage. -/
theorem winchDrivenSafely : Obligations.WinchDrivenSafely := by
  refine ⟨fun b => by unfold Winch.pins; cases b.bridge <;> rfl, fun level s => ?_⟩
  obtain ⟨grant, cap, capacity, edge, hook, stop, pulse, record⟩ := s.winchRead_fields level
  have reading := (s.winchJudged_winchStep level).reading
  have safe := s.winchJudged_safe level
  have goesOn {r : OpRecord} (held : s.wnc.record = some r) := s.winchJudged_goesOn level held
  refine ⟨_, exec_winchUpdateExpiry level s, s.winchUpdate_frame level rfl, reading.grant.trans grant,
    reading.cap.trans cap, reading.capacity.trans capacity, reading.edge.trans edge, reading.hookHome.trans hook,
    reading.stopMark.trans stop, reading.pulseSinceScan.trans pulse, Winch.showNow_shownCurrent _,
    fun arrived before => ?_, fun unarrived other => ?_, ?_, safe.still, fun dark => ?_, safe.dark,
    fun r held => ⟨?_, fun active kind => ?_, fun active home cut fault dark => ?_, fun payOut full => ?_⟩⟩
  · obtain rfl : level = true := arrived
    exact s.winchJudged_arrived before
  · obtain ⟨warned, position⟩ := State.winchRead_unarrived unarrived
    have kept := s.winchJudged_noHome level fun r home => by
      obtain ⟨held, home, active, lit⟩ := (s.winchRead_comesHome level).mp home
      rcases other with inactive | notHome | dark
      · exact absurd (inactive.symm.trans active) (by decide)
      · exact notHome r held home
      · exact lit dark
    exact ⟨kept.reserveWarned.trans warned, fun p => (Eq.congr_left kept.position).trans (position p)⟩
  · rw [← grant, ← reading.grant]
    exact safe.driven
  · by_contra on
    obtain ⟨r, held⟩ : ∃ r, s.wnc.record = some r := Option.ne_none_iff_exists'.mp fun absent =>
      on (s.winchJudged_idle level (State.winchEnd_record (.inl (record.trans absent)))).1
    exact (goesOn held on).1 dark
  · rintro ⟨x, starved, long⟩
    by_contra on
    obtain ⟨-, -, -, short⟩ := goesOn held on
    exact absurd (short x starved) (Nat.not_lt.mpr long)
  · by_contra on
    obtain ⟨-, away | payOut, -, -⟩ := goesOn held on
    · exact absurd (active.symm.trans away) (by decide)
    · exact kind payOut
  · exact s.winchJudged_home level
      ((s.winchRead_comesHome level).mpr ⟨held, home, active, not_or.mpr ⟨cut, not_or.mpr ⟨fault, dark⟩⟩⟩)
  · by_contra on
    have kept := s.winchJudged_noHome level fun q home => by
      obtain ⟨again, home, -, -⟩ := (s.winchRead_comesHome level).mp home
      cases held.symm.trans again
      exact absurd (payOut.symm.trans home) (by decide)
    have position : (s.winchJudged level).wnc.position = some (s.winchJudged level).wnc.capacity := full
    rw [kept.position, reading.capacity] at position
    obtain ⟨-, -, below, -⟩ := goesOn held on
    exact below ⟨payOut, Winch.atCapacity_of_position position⟩

end Sys2Proof.Machine
end

section
/-! The duties of a driving update (R89, R93, R94, R96). -/

namespace Sys2Proof.Machine

/-! ### Targets (R89) -/

/-- The segment that holds |t|, read off the five points by its place. -/
theorem curveTarget_eq (c : Curve) (t : Nat) : curveTarget c t = c.target t := by
  have place (k : Nat) (lo : 250 * k ≤ t) (hi : t < 250 * (k + 1)) : t / 250 = k := by omega
  unfold curveTarget Curve.target segment
  dsimp only
  by_cases zero : t = 0
  · rw [if_pos zero, if_pos zero]
  rw [if_neg zero, if_neg zero]
  by_cases first : t < 250
  · rw [if_pos first, place 0 (by omega) (by omega)]
    rfl
  rw [if_neg first]
  by_cases second : t < 500
  · rw [if_pos second, place 1 (by omega) (by omega)]
    rfl
  rw [if_neg second]
  by_cases third : t < 750
  · rw [if_pos third, place 2 (by omega) (by omega)]
    rfl
  rw [if_neg third, Nat.min_eq_left (by omega : 3 ≤ t / 250)]
  rfl

/-! ### The two duties (R93, R94) -/

/-- The two duties of an update that drives at a target, by the formulas of R93 and R94. -/
def Drive.RampsTo (before after : Drive) (w : DrcSettings) (target : Nat) : Prop :=
  after.requested = ramped target (if after.dir = before.dir then before.requested else 0) w.punch ∧
    after.present = min after.requested (min
      (if before.travel = true then min after.cap w.shiftThreshold else after.cap)
      ((if after.dir = before.dir then before.present else 0) + w.punch))

/-- Stages 5 and 6 ramp the duties toward the target of a choice that drives. -/
theorem Drive.update_ramps {d : Drive} {grant : Nat} {i : DriveInput} {target : Nat}
    (h : (d.choice grant i).want = .forward target ∨ (d.choice grant i).want = .reverse target) :
    d.RampsTo (d.update grant i) i.settings target := by
  have driven (bridge : DriveBridge)
      (applied : (d.readied grant i).apply (d.choice grant i) i.settings =
        (d.readied grant i).driving (d.choice grant i) target bridge i.settings) :
      d.RampsTo (d.update grant i) i.settings target := by
    rw [Drive.update_eq, applied]
    have entry (n : Nat) : (if d.dir ≠ (d.choice grant i).dir then 0 else n) =
        if (d.choice grant i).dir = d.dir then n else 0 := by
      rw [ite_not]
      exact if_congr eq_comm rfl rfl
    constructor
    · show requestedDuty target (if d.dir ≠ (d.choice grant i).dir then 0 else d.requested) i.settings.punch = _
      rw [entry]
      rfl
    · show min _ (min _ ((if d.dir ≠ (d.choice grant i).dir then 0 else d.present) + i.settings.punch)) = _
      rw [entry]
      rfl
  rcases h with want | want
  · exact driven .driveForward (by unfold Drive.apply; rw [want])
  · exact driven .driveReverse (by unfold Drive.apply; rw [want])

/-- An update whose choice does not drive leaves both duties at 0. -/
theorem Drive.update_idle {d : Drive} {grant : Nat} {i : DriveInput} (forward : (d.choice grant i).dir ≠ .forward)
    (reverse : (d.choice grant i).dir ≠ .reverse) :
    (d.update grant i).requested = 0 ∧ (d.update grant i).present = 0 :=
  Drive.apply_idle (i.govern_agrees _) forward reverse _ _

/-! ### What the machine and the assist logic ask for (R90, R91, R96) -/

theorem DriveInput.toGate_idle (i : DriveInput) : i.toGate.dir ≠ .forward ∧ i.toGate.dir ≠ .reverse := by
  unfold DriveInput.toGate
  split <;> exact ⟨nofun, nofun⟩

/-- FORWARD is reached by a throttle ahead only, and REVERSE by a throttle back only. -/
theorem DriveInput.machine_drives (i : DriveInput) (dir : DirState) (gate : Option Nat) :
    ((i.machine dir gate).dir = .forward → i.machine dir gate = i.ahead) ∧
      ((i.machine dir gate).dir = .reverse → i.machine dir gate = i.back) := by
  have ahead : (i.ahead.dir = .forward → i.ahead = i.ahead) ∧ (i.ahead.dir = .reverse → i.ahead = i.back) :=
    ⟨fun _ => rfl, nofun⟩
  have back : (i.back.dir = .forward → i.back = i.ahead) ∧ (i.back.dir = .reverse → i.back = i.back) :=
    ⟨nofun, fun _ => rfl⟩
  have idle {c : DriveChoice} (h : c.dir ≠ .forward ∧ c.dir ≠ .reverse) :
      (c.dir = .forward → c = i.ahead) ∧ (c.dir = .reverse → c = i.back) :=
    ⟨fun e => absurd e h.1, fun e => absurd e h.2⟩
  unfold DriveInput.machine
  dsimp only
  split
  · exact ahead
  split
  · cases dir with
    | forward | brake => exact idle i.toGate_idle
    | neutral | gate | reverse => exact ⟨nofun, nofun⟩
  · cases dir with
    | neutral | reverse => exact back
    | brake | gate => exact ⟨nofun, nofun⟩
    | forward =>
      dsimp only
      split
      · exact back
      · exact ⟨nofun, nofun⟩

/-- Settles O47: the target is read off the choice that governs the update, and stages 5 and 6 ramp toward it. -/
theorem driveDutiesRamp : Obligations.DriveDutiesRamp := by
  intro s h active running armed
  refine ⟨_, execDriveUpdateExpiry_eq h, fun driven formulas => ?_⟩
  have ramps {target : Nat} (want : (s.drc.choice s.bga.drive.grant s.driveInput).want = .forward target ∨
      (s.drc.choice s.bga.drive.grant s.driveInput).want = .reverse target) : driven target :=
    (formulas target).mpr (Drive.update_ramps want)
  obtain ⟨dir, -, bridge, flag⟩ := s.drc.update_chosen s.bga.drive.grant s.driveInput
  have ready : (s.drc.readied s.bga.drive.grant s.driveInput).armed = true :=
    (Drive.readied_armed _ _ _).mpr (.inl armed)
  have governed (kind : s.driveInput.entry.kind ≠ .fullBrake) : s.drc.choice s.bga.drive.grant s.driveInput =
      if s.driveInput.entry.kind = .assist then s.driveInput.assist
      else s.driveInput.machine s.drc.dir s.drc.gateTimer :=
    (s.driveInput.govern_running active running kind _).trans (if_neg (by simp [ready]))
  have machine (command : s.au.image.drive.kind = .command) :
      s.drc.choice s.bga.drive.grant s.driveInput = s.driveInput.machine s.drc.dir s.drc.gateTimer := by
    have kind : s.driveInput.entry.kind = .command := command
    exact (governed (by rw [kind]; decide)).trans (if_neg (by rw [kind]; decide))
  obtain ⟨ahead, back⟩ := s.driveInput.machine_drives s.drc.dir s.drc.gateTimer
  refine ⟨fun command forward => ?_, fun command reverse => ?_, fun assist => ?_⟩
  · have choice := machine command
    rw [curveTarget_eq]
    exact ramps (.inl (by rw [choice, ahead (by rw [← choice, ← dir]; exact forward)]; rfl))
  · have choice := machine command
    rw [curveTarget_eq]
    exact ramps (.inr (by rw [choice, back (by rw [← choice, ← dir]; exact reverse)]; rfl))
  · have kind : s.driveInput.entry.kind = .assist := assist
    have choice := (governed (by rw [kind]; decide)).trans (if_pos kind)
    by_cases loaded : s.pst.working.wnc.assistThreshold ≤ s.bsv.winchCurrent ∧ 0 < s.pst.working.drc.assistDuty
    · have pushes : s.drc.choice s.bga.drive.grant s.driveInput =
          ⟨.forward, none, .forward s.pst.working.drc.assistDuty⟩ := choice.trans (if_pos loaded)
      rw [pushes] at dir bridge
      rw [if_pos loaded]
      exact ⟨dir, bridge, ramps (.inl (by rw [pushes]))⟩
    · have holds : s.drc.choice s.bga.drive.grant s.driveInput = ⟨.neutral, none, .brake 1000 true⟩ :=
        choice.trans (if_neg loaded)
      obtain ⟨requested, present⟩ := Drive.update_idle (d := s.drc) (grant := s.bga.drive.grant) (i := s.driveInput)
        (by rw [holds]; decide) (by rw [holds]; decide)
      rw [holds] at dir bridge flag
      rw [if_neg loaded]
      exact ⟨dir, bridge, flag, requested, present⟩

end Sys2Proof.Machine
end

section
/-! WRITE SETTING of one value: number and length, range, lock, order (R170, R171). -/

namespace Sys2Proof.Machine

/-! ### The number and the length (R170) -/

theorem SettingId.ofNumber_number {i : SettingId} (h : i ∈ SettingId.list) : SettingId.ofNumber i.number = some i := by
  have each : ∀ j ∈ SettingId.list, SettingId.ofNumber j.number = some j := by decide
  exact each i h

theorem settingValueParam_eq {lo hi : Byte} {value : List Byte} {i : SettingId} (h : i ∈ SettingId.list)
    (number : i.number = wordOf lo hi) (least : 1 ≤ value.length) (most : value.length ≤ 14) :
    settingValueParam (lo :: hi :: value) = some (i, value) := by
  have found : SettingId.ofNumber (ofLe16 lo hi) = some i := by
    rw [← SettingId.ofNumber_number h, number]
    rfl
  refine (if_pos ⟨least, most⟩).trans ?_
  rw [found]
  rfl

/-! ### The lock and the order (R108, R170, R171) -/

theorem SettingId.locked_iff (i : SettingId) (record : Option OpRecord) :
    i.locked record.isSome = true ↔
      record ≠ none ∧ (i = .scalar .spoolCapacity ∨ i = .scalar .countEdge) := by
  simp [SettingId.locked, Option.isSome_iff_ne_none]

theorem positionFits_iff (position : Option Nat) (capacity : Nat) :
    positionFits position capacity = true ↔ ∀ p, position = some p → p ≤ capacity := by
  cases position <;> simp [positionFits]

/-- The order check of a setting asks for some of the orders of the table, and for the spool capacity for the place of a
KNOWN line as well. -/
theorem SettingId.inOrder_of_ordered {i : SettingId} {w : Settings} {position : Option Nat} (h : w.Ordered)
    (fits : i = .scalar .spoolCapacity → positionFits position w.wnc.spoolCapacity = true) :
    i.inOrder w position = true := by
  obtain ⟨thresholds, sag, front, rear, curve, line⟩ := h
  cases i with
  | scalar x =>
    cases x with
    | warn | storage => exact thresholds
    | cut => exact (Bool.and_eq_true _ _).mpr ⟨thresholds, ((Bool.and_eq_true _ _).mp sag).1⟩
    | sagStart | sagEnd => exact sag
    | frontMin | frontCentre | frontMax => exact front
    | rearMin | rearCentre | rearMax => exact rear
    | curve0 | curve1 | curve2 | curve3 | curve4 => exact curve
    | spoolCapacity => exact (Bool.and_eq_true _ _).mpr ⟨line, fits rfl⟩
    | lineReserve => exact line
    | _ => rfl
  | _ => rfl

/-- The order check of a spool capacity holds the line's place against it (R108). -/
theorem SettingId.fits_of_inOrder {i : SettingId} {w : Settings} {position : Option Nat}
    (h : i.inOrder w position = true) (spool : i = .scalar .spoolCapacity) :
    positionFits position w.wnc.spoolCapacity = true := by
  subst spool
  exact ((Bool.and_eq_true _ _).mp h).2

/-- From a legal copy, a value within its range passes its order check exactly when every order of the table holds
afterwards and a written spool capacity is not below a KNOWN line position (R108, R170). -/
theorem SettingId.inOrder_iff {w t : Settings} (legal : w.legal = true) {i : SettingId} {v : List Byte}
    (written : writeValue w i v = some t) (position : Option Nat) :
    i.inOrder t position = true ↔
      t.legal = true ∧ (i = .scalar .spoolCapacity → ∀ p, position = some p → p ≤ t.wnc.spoolCapacity) := by
  simp only [← positionFits_iff]
  constructor
  · exact fun checked => ⟨writeValue_legal legal written checked, SettingId.fits_of_inOrder checked⟩
  · rintro ⟨after, fits⟩
    obtain ⟨-, -, ordered⟩ := t.legal_iff.mp after
    exact SettingId.inOrder_of_ordered ordered fits

/-! ### The answer -/

theorem writeSettingAnswer_whole {b : Block} {i : SettingId} {v : List Byte} (l : Bool) (s : State)
    (params : settingValueParam b.params = some (i, v)) (plain : ∀ k, i ≠ .pattern k) :
    writeSettingAnswer b l s = writeWhole s i v := by
  unfold writeSettingAnswer
  rw [params, withParam_some]
  cases i with
  | pattern k => exact absurd rfl (plain k)
  | _ => rfl

theorem writeWhole_refused {s : State} {i : SettingId} {v : List Byte} (h : writeValue s.pst.working i v = none) :
    writeWhole s i v = .check s .badParameter := by
  unfold writeWhole
  rw [h]

theorem writeWhole_written {s : State} {i : SettingId} {v : List Byte} {w : Settings}
    (h : writeValue s.pst.working i v = some w) :
    writeWhole s i v =
      if i.locked s.wnc.record.isSome then .check s .settingInUse
      else if i.inOrder w s.wnc.position then .good (s.setWorking w) []
      else .check s .settingOrder := by
  unfold writeWhole
  rw [h]

/-- Settles O31: the answer follows the checks of R170 in their order, with the order check as the whole table's. -/
theorem writeSettingDecided : Obligations.WriteSettingDecided := by
  intro b lo hi value i s h legal params least most listed number plain
  have parsed : settingValueParam b.params = some (i, value) :=
    params ▸ settingValueParam_eq listed number least most
  have answer := writeSettingAnswer_whole (isLastBlock s.pli.currentBatch b) s parsed plain
  refine ⟨fun refused => ?_, fun w written => ?_⟩
  · exact congrArg Host.Outcome.next (h.run_check rfl (answer.trans (writeWhole_refused refused)))
  · have decided := answer.trans (writeWhole_written written)
    have lock := i.locked_iff s.wnc.record
    have order := SettingId.inOrder_iff legal written s.wnc.position
    refine congrArg Host.Outcome.next ?_
    by_cases locked : s.wnc.record ≠ none ∧ (i = .scalar .spoolCapacity ∨ i = .scalar .countEdge)
    · rw [if_pos (lock.mpr locked)] at decided
      rw [if_pos locked]
      exact h.run_check rfl decided
    rw [if_neg (mt lock.mp locked)] at decided
    rw [if_neg locked]
    by_cases ordered : w.legal = true ∧
        (i = .scalar .spoolCapacity → ∀ p, s.wnc.position = some p → p ≤ w.wnc.spoolCapacity)
    · rw [if_pos (order.mpr ordered)] at decided
      rw [if_pos ordered]
      exact h.run_good rfl decided rfl rfl
    · rw [if_neg (mt order.mp ordered)] at decided
      rw [if_neg ordered]
      exact h.run_check rfl decided

end Sys2Proof.Machine
end

section
/-! The drive's duties and the line position (R84, R91 to R95, R105, R108): what each operation on DRC and WNC keeps of
them. -/

namespace Sys2Proof.Machine

/-- What a step has to keep: the agreement of the drive's duties, bridge, gate timer and flags, and a KNOWN line position
within the spool capacity. -/
structure State.KeepsMotion (s t : State) : Prop where
  dutied : s.drc.Dutied → t.drc.Dutied
  positioned : s.wnc.Positioned → t.wnc.Positioned

theorem State.KeepsMotion.refl (s : State) : s.KeepsMotion s := ⟨id, id⟩

theorem State.KeepsMotion.trans {s t u : State} (h : s.KeepsMotion t) (k : t.KeepsMotion u) : s.KeepsMotion u :=
  ⟨k.dutied ∘ h.dutied, k.positioned ∘ h.positioned⟩

/-- A change that leaves DRC and WNC as they were keeps both. -/
theorem State.KeepsMotion.of_eq {s t : State} (drc : t.drc = s.drc) (wnc : t.wnc = s.wnc) : s.KeepsMotion t :=
  ⟨fun h => drc ▸ h, fun h => wnc ▸ h⟩

/-- A change of DRC alone. -/
theorem State.KeepsMotion.of_drive {s t : State} (drc : s.drc.Dutied → t.drc.Dutied) (wnc : t.wnc = s.wnc) :
    s.KeepsMotion t := ⟨drc, fun h => wnc ▸ h⟩

/-- A change of WNC alone. -/
theorem State.KeepsMotion.of_winch {s t : State} (drc : t.drc = s.drc) (wnc : s.wnc.Positioned → t.wnc.Positioned) :
    s.KeepsMotion t := ⟨fun h => drc ▸ h, wnc⟩

theorem State.setAu_keepsMotion (s : State) (b : Authority) : s.KeepsMotion (s.setAu b) := ⟨id, id⟩
theorem State.setRxl_keepsMotion (s : State) (b : Receiver) : s.KeepsMotion (s.setRxl b) := ⟨id, id⟩
theorem State.setPli_keepsMotion (s : State) (b : PitLink) : s.KeepsMotion (s.setPli b) := ⟨id, id⟩
theorem State.winchBoundary_keepsMotion (s : State) : s.KeepsMotion s.winchBoundary := .of_eq (by simp) (by simp)

/-! ### DRC outside its update (R88, R91, R99) -/

theorem Drive.reset_dutied (w : Settings) : (Drive.reset w).Dutied := by
  simp [Drive.Dutied, Drive.reset]

/-- The arming state has no share in the agreement but the range of its count. -/
theorem Drive.Dutied.disarmed {d : Drive} (h : d.Dutied) : d.disarmed.Dutied := by
  obtain ⟨requested, cap, limit, forward, reverse, idle, gate, flag, -, neutral⟩ := h
  exact ⟨requested, cap, limit, forward, reverse, idle, gate, flag, Nat.zero_le _, neutral⟩

/-- In GATE nothing drives, so GATE may become NEUTRAL under the same bridge (R91). -/
theorem Drive.Dutied.gateExpired {d : Drive} (h : d.Dutied) (runs : d.gateTimer ≠ none) :
    Drive.Dutied { d with dir := .neutral, gateTimer := none } := by
  obtain ⟨requested, cap, limit, forward, reverse, idle, gate, flag, arm, neutral⟩ := h
  have inGate := gate.mp runs
  rw [inGate] at forward reverse idle flag
  exact ⟨requested, cap, limit, fun e => absurd (forward e) (by decide), fun e => absurd (reverse e) (by decide),
    fun _ => idle ⟨by decide, by decide⟩, ⟨fun e => absurd rfl e, nofun⟩, flag.trans ⟨nofun, nofun⟩, arm, neutral⟩

/-- A shift servo refresh touches neither duty, nor the direction state, nor a flag (R97 to R100). -/
theorem Drive.Dutied.shiftRefresh {d : Drive} (h : d.Dutied) (requested : Option Gear) (railEn : Bool) (w : DrcSettings) :
    (d.shiftRefresh requested railEn w).Dutied := by
  have shifted (e : Drive) (he : e.Dutied) : (e.shift railEn w.shiftThreshold).Dutied := by
    unfold Drive.shift
    split
    · exact he
    · split <;> exact he
  have gear := shifted { d with pendingGear := nextPendingGear requested d.gear } h
  unfold Drive.shiftRefresh
  cases railEn <;> exact gear

/-! ### The drive update (R85 to R95) -/

/-- The present duty is within the requested duty and the cap (R93, R94). -/
theorem Drive.apply_capped (d : Drive) (c : DriveChoice) (w : DrcSettings) :
    (d.apply c w).present ≤ (d.apply c w).requested ∧ (d.apply c w).present ≤ (d.apply c w).cap := by
  have driven (target : Nat) (bridge : DriveBridge) :
      (d.driving c target bridge w).present ≤ (d.driving c target bridge w).requested ∧
        (d.driving c target bridge w).present ≤ (d.driving c target bridge w).cap := by
    have limit : d.dutyLimit w.shiftThreshold ≤ d.cap := by
      unfold Drive.dutyLimit
      split
      · exact Nat.min_le_left _ _
      · exact le_rfl
    exact ⟨Nat.min_le_left _ _, ((Nat.min_le_right _ _).trans (Nat.min_le_left _ _)).trans limit⟩
  unfold Drive.apply
  split
  · exact driven _ _
  · exact driven _ _
  · exact ⟨le_rfl, Nat.zero_le _⟩
  · exact ⟨le_rfl, Nat.zero_le _⟩

/-- The bridge drives in the direction state of the choice only. -/
theorem DriveChoice.Agrees.dir {c : DriveChoice} (h : c.Agrees) :
    (c.want.bridge = .driveForward → c.dir = .forward) ∧ (c.want.bridge = .driveReverse → c.dir = .reverse) := by
  obtain ⟨forward, reverse⟩ := h
  cases want : c.want with
  | forward t => exact ⟨fun _ => forward.mpr ⟨t, want⟩, nofun⟩
  | reverse t => exact ⟨nofun, fun _ => reverse.mpr ⟨t, want⟩⟩
  | brake strength flagged =>
    simp only [DriveWant.bridge, brakeAction]
    split <;> exact ⟨nofun, nofun⟩
  | opened => exact ⟨nofun, nofun⟩

/-- A choice runs the gate timer exactly in GATE (R91), if the drive did so before. -/
theorem DriveInput.govern_gate (i : DriveInput) {d : Drive} (h : d.gateTimer ≠ none ↔ d.dir = .gate) :
    (i.govern d).gate ≠ none ↔ (i.govern d).dir = .gate := by
  have stopped (want : DriveWant) : (DriveChoice.mk .neutral none want).gate ≠ none ↔
      (DriveChoice.mk .neutral none want).dir = .gate := by simp
  have assist : i.assist.gate ≠ none ↔ i.assist.dir = .gate := by
    unfold DriveInput.assist
    split <;> simp
  have machine : (i.machine d.dir d.gateTimer).gate ≠ none ↔ (i.machine d.dir d.gateTimer).dir = .gate := by
    rw [i.machine_gate]
    by_cases gate : (i.machine d.dir d.gateTimer).dir = .gate
    · rw [if_pos gate]
      by_cases before : d.dir = .gate
      · rw [if_pos before]
        exact iff_of_true (h.mpr before) gate
      · rw [if_neg before]
        exact iff_of_true (Option.some_ne_none _) gate
    · rw [if_neg gate]
      exact iff_of_false (fun e => e rfl) gate
  unfold DriveInput.govern
  split
  · exact stopped _
  split
  · exact stopped _
  split
  · exact stopped _
  split
  · exact stopped _
  split
  · exact stopped _
  split
  · exact assist
  · exact machine

theorem Drive.readied_armCount (d : Drive) (grant : Nat) (i : DriveInput) : (d.readied grant i).armCount ≤ 250 := by
  unfold Drive.readied Drive.arm
  dsimp only
  split
  · exact Nat.min_le_left _ _
  · exact Nat.zero_le _

theorem Drive.Dutied.update {d : Drive} (h : d.Dutied) (grant : Nat) (i : DriveInput) : (d.update grant i).Dutied := by
  obtain ⟨-, -, -, -, -, -, gate, -, -, -⟩ := h
  obtain ⟨dir, timer, bridge, -⟩ := d.update_chosen grant i
  obtain ⟨forward, reverse⟩ := (i.govern_agrees (d.readied grant i)).dir
  obtain ⟨requested, cap⟩ := (d.readied grant i).apply_capped (d.choice grant i) i.settings
  have fields := d.update_fields grant i
  refine ⟨requested, cap, ?_, fun e => ?_, fun e => ?_, fun e => ?_, ?_, ?_, ?_, ?_⟩
  · rw [fields]
    exact Nat.min_le_left _ _
  · rw [dir]
    exact forward (bridge ▸ e)
  · rw [dir]
    exact reverse (bridge ▸ e)
  · rw [dir] at e
    exact Drive.update_idle e.1 e.2
  · rw [dir, timer]
    exact i.govern_gate gate
  · rw [fields]
    exact decide_eq_true_iff
  · rw [fields]
    exact d.readied_armCount grant i
  · rw [fields]
    dsimp only
    split
    · exact Nat.min_le_left _ _
    · exact Nat.zero_le _

/-! ### The line position (R105, R106, R108, R121) -/

/-- WNC replaced with the line and the capacity as they were. -/
theorem State.setWnc_keepsMotion (s : State) {b : Winch} (position : b.position = s.wnc.position)
    (capacity : b.capacity = s.wnc.capacity) : s.KeepsMotion (s.setWnc b) :=
  .of_winch rfl fun h p e => capacity ▸ h p (position ▸ e)

/-- A pulse that would take the line past either end leaves its position UNKNOWN (R105). -/
theorem Winch.Positioned.moved {b : Winch} (h : b.Positioned) {dir : WinchDir} {p : Nat}
    (moved : b.movedPosition dir = some p) : p ≤ b.capacity := by
  unfold Winch.movedPosition at moved
  cases known : b.position with
  | none => rw [known] at moved; cases moved
  | some q =>
    rw [known] at moved
    cases dir with
    | out =>
      dsimp only at moved
      split at moved
      · cases moved
      next fits => cases moved; exact Nat.not_lt.mp fits
    | inward =>
      cases q with
      | zero =>
        dsimp only at moved
        split at moved
        · cases moved; exact Nat.zero_le _
        · cases moved
      | succ q => cases moved; exact (Nat.le_succ p).trans (h _ known)

theorem Winch.Positioned.countPulse {b : Winch} (h : b.Positioned) (reserve : Nat) : (b.countPulse reserve).Positioned := by
  have line : (b.countPulse reserve).position = b.movedPosition b.pulseDir ∧
      (b.countPulse reserve).capacity = b.capacity := by
    unfold Winch.countPulse
    dsimp only
    split <;> exact ⟨rfl, rfl⟩
  obtain ⟨position, capacity⟩ := line
  intro p known
  rw [capacity]
  exact h.moved (position ▸ known)

/-- A HOME that ends GOOD sets the line to 0, and any other ending leaves it (R121). -/
theorem State.endOperation_keepsMotion (s : State) (o : Option SenseKind) : s.KeepsMotion (s.endOperation o) := by
  cases record : s.wnc.record with
  | none => rw [s.endOperation_none o record]; exact .refl s
  | some r =>
    refine .of_winch (by simp) fun h => ?_
    rw [State.endOperation_wnc o record]
    unfold Winch.homed
    split
    · intro p known
      cases known
      exact Nat.zero_le _
    · exact h

theorem State.takeEnding_keepsMotion (s : State) (e : Ending) : s.KeepsMotion (s.takeEnding e) := by
  cases e with
  | none => exact .refl s
  | some o => exact s.endOperation_keepsMotion o

theorem State.hookArrived_keepsMotion (s : State) : s.KeepsMotion (s.setWnc s.wnc.hookArrived) :=
  .of_winch rfl fun _ p known => by cases known; exact Nat.zero_le _

/-- An update puts the capacity in force and forgets a line beyond it (R108). -/
theorem State.winchRead_positioned (s : State) (level : Bool) : (s.winchRead level).wnc.Positioned := by
  obtain ⟨-, -, capacity, -⟩ := s.winchRead_fields level
  intro p known
  by_cases arrives : level = true ∧ s.wnc.hookHome = false
  · obtain ⟨rfl, before⟩ := arrives
    rw [(State.winchRead_arrived before).1] at known
    cases known
    exact Nat.zero_le _
  · have unarrived : level = false ∨ s.wnc.hookHome = true := by
      cases level <;> simp_all
    rw [capacity]
    exact (((State.winchRead_unarrived unarrived).2 p).mp known).2

/-! ### The winch update, the pulse and the switch -/

theorem State.judgeTension_keepsMotion (s : State) : s.KeepsMotion s.judgeTension := by
  unfold State.judgeTension
  split
  · split
    · exact s.endOperation_keepsMotion none
    · exact .refl s
  · exact .refl s

theorem State.judgeJam_keepsMotion (s : State) : s.KeepsMotion s.judgeJam := by
  have jam : s.KeepsMotion s.jam := by
    unfold State.jam
    split
    · split
      · exact s.setWnc_keepsMotion rfl rfl
      · exact (s.setWnc_keepsMotion (b := { s.wnc with mode := .jammed }) rfl rfl).trans
          (State.endOperation_keepsMotion _ _)
    · exact s.setWnc_keepsMotion rfl rfl
  unfold State.judgeJam
  split
  · exact jam
  · exact .refl s

theorem State.winchMeasure_keepsMotion (s : State) : s.KeepsMotion s.winchMeasure := by
  have tension (t : State) (current : Nat) : t.KeepsMotion (t.setWnc (t.wnc.measureTension current)) := by
    unfold Winch.measureTension
    split <;> exact t.setWnc_keepsMotion rfl rfl
  have starvation (t : State) (floor : Nat) : t.KeepsMotion (t.setWnc (t.wnc.measureStarvation floor)) := by
    unfold Winch.measureStarvation
    split <;> exact t.setWnc_keepsMotion rfl rfl
  have judged := (tension s s.bsv.winchCurrent).trans (State.judgeTension_keepsMotion _)
  have stall (t : State) : t.KeepsMotion (t.setWnc (t.wnc.measureStall t.bsv.winchCurrent t.w.wnc.jamCurrent)) :=
    t.setWnc_keepsMotion rfl rfl
  exact ((judged.trans (stall _)).trans (State.judgeJam_keepsMotion _)).trans (starvation _ _)

theorem execWinchUpdateExpiry_keepsMotion (level : Bool) {s t : State} (h : execWinchUpdateExpiry level s = .next t) :
    s.KeepsMotion t := by
  cases h
  have read : s.KeepsMotion (s.winchRead level) := .of_winch rfl fun _ => s.winchRead_positioned level
  have ended (t : State) : t.KeepsMotion t.winchEnd := t.takeEnding_keepsMotion _
  have driven (t : State) : t.KeepsMotion t.winchDrive := t.setWnc_keepsMotion rfl rfl
  have shown (t : State) : t.KeepsMotion t.winchPost.showWinch := ⟨id, id⟩
  exact (((read.trans (ended _)).trans (driven _)).trans (State.winchMeasure_keepsMotion _)).trans (shown _)

theorem State.drumPulse_keepsMotion (s : State) : s.KeepsMotion s.drumPulse := by
  have counted : s.KeepsMotion (s.setWnc (s.wnc.countPulse s.w.wnc.lineReserve)) :=
    .of_winch rfl fun h => h.countPulse _
  have shown (t : State) : t.KeepsMotion t.showWinch.winchBoundary :=
    State.KeepsMotion.trans (t := t.showWinch) ⟨id, id⟩ (State.winchBoundary_keepsMotion _)
  exact (counted.trans (State.takeEnding_keepsMotion _ _)).trans (shown _)

theorem execHookHomeArrival_keepsMotion {s t : State} (h : execHookHomeArrival s = .next t) : s.KeepsMotion t := by
  unfold execHookHomeArrival at h
  dsimp only at h
  split at h
  · cases h; exact s.hookArrived_keepsMotion
  · cases h; exact s.hookArrived_keepsMotion.trans (State.takeEnding_keepsMotion _ _)

/-! ### Changes of holder and wake (R44, R88) -/

theorem State.giveDrive_keepsMotion (s : State) (h : Holder) (p : Option PendingHolder) :
    s.KeepsMotion (s.giveDrive h p) := by
  refine .of_drive (fun dutied => ?_) (by simp)
  rw [State.giveDrive_drc]
  split
  · exact dutied.disarmed
  · exact dutied

theorem State.give_keepsMotion (s : State) (r : Row) (h : Holder) : s.KeepsMotion (s.give r h) := by
  cases r with
  | drive => exact s.giveDrive_keepsMotion h _
  | steer | gear | winch => exact .of_eq (by simp [State.give]) (by simp [State.give])

theorem State.driveBoundary_keepsMotion (s : State) : s.KeepsMotion s.driveBoundary := by
  unfold State.driveBoundary
  split
  · exact .refl s
  · exact s.giveDrive_keepsMotion _ _

theorem State.wake_keepsMotion (s : State) : s.KeepsMotion s.wake := by
  refine .of_drive (fun dutied => ?_) (by simp)
  rw [State.wake_drc]
  split
  · exact dutied.disarmed
  · exact dutied

theorem State.radioTakesWinch_keepsMotion (s : State) : s.KeepsMotion s.radioTakesWinch :=
  (s.setAu_keepsMotion _).trans (State.endOperation_keepsMotion _ _)

/-! ### The receiver link (R8, R10, R43, R153) -/

theorem State.enterLive_keepsMotion (s : State) : s.KeepsMotion s.enterLive := by
  have drive (t : State) : t.KeepsMotion t.driveLive := by
    unfold State.driveLive
    split
    · split
      · exact t.giveDrive_keepsMotion _ _
      · exact .refl t
    · exact .of_eq rfl rfl
    · exact .of_eq rfl rfl
    · exact .refl t
  have winch (t : State) : t.KeepsMotion t.winchLive := by
    unfold State.winchLive
    split
    · split
      · exact .of_eq (by simp) (by simp)
      · exact .refl t
    · exact t.radioTakesWinch_keepsMotion
    · exact t.radioTakesWinch_keepsMotion
    · exact .refl t
  have steer := s.driveLive.steerLive_only
  have gear := s.driveLive.steerLive.gearLive_only
  exact (((drive s).trans (.of_eq steer.drc steer.wnc)).trans (.of_eq gear.drc gear.wnc)).trans (winch _)

theorem State.reportLink_keepsMotion (s : State) (before : LinkState) : s.KeepsMotion (s.reportLink before) := by
  unfold State.reportLink
  split
  · exact .refl s
  split
  · exact s.enterLive_keepsMotion
  · rw [State.enterLost_eq]
    exact .of_eq rfl rfl
  · exact .refl s

theorem State.litPublished_keepsMotion (s : State) (before : Option Int) : s.KeepsMotion (s.litPublished before) := by
  have drive (t : State) : t.KeepsMotion t.drivePublished := by
    unfold State.drivePublished
    split
    · exact t.giveDrive_keepsMotion _ _
    · exact .of_eq rfl rfl
    · split
      · exact t.giveDrive_keepsMotion _ _
      · exact .refl t
    · split
      · exact .of_eq rfl rfl
      · exact .refl t
    · exact .refl t
  have winch (t : State) : t.KeepsMotion (t.winchPublished before) := by
    unfold State.winchPublished
    split
    · exact .of_eq (by simp) (by simp)
    · exact .of_eq rfl rfl
    · split
      · exact .of_eq (by simp) (by simp)
      · exact .refl t
    · split
      · exact t.radioTakesWinch_keepsMotion
      · exact .refl t
    · exact .refl t
  have steer := s.drivePublished.steerPublished_only
  have gear := s.drivePublished.steerPublished.gearPublished_only
  have rows := (((drive s).trans (.of_eq steer.drc steer.wnc)).trans (.of_eq gear.drc gear.wnc)).trans (winch _)
  exact rows.trans (.of_eq rfl rfl)

theorem State.takeFrame_keepsMotion (s : State) (f : ReceiverFrame) : s.KeepsMotion (s.takeFrame f) := by
  have moved : s.KeepsMotion ((s.setRxl (s.rxl.afterFrame s.w.rxl f)).reportLink s.rxl.link) :=
    (s.setRxl_keepsMotion _).trans (State.reportLink_keepsMotion _ _)
  have published (t : State) (before : Option Int) : t.KeepsMotion (t.publish before) := by
    rw [State.publish_wakes]
    split
    · exact (t.litPublished_keepsMotion before).trans (State.wake_keepsMotion _)
    · exact t.litPublished_keepsMotion before
  unfold State.takeFrame
  dsimp only
  split
  · exact moved.trans (published _ _)
  · exact moved

/-! ### A scan, the program engine and the resets -/

/-- Steps 1 to 5 of a scan leave DRC as it was (R21). -/
theorem State.judged_drc (s : State) (r : Readings) : (s.judged r).drc = s.drc := by
  by_cases ident : s.bsv.stage = .ident
  · have identify (t : State) : t.identify.drc = t.drc := by
      unfold State.identify
      split
      · simp
      · split <;> simp
    have judged : s.judged r = (s.measure r).stageStep := by
      unfold State.judged
      rw [decide_eq_true ident]
      rfl
    have stage : (s.measure r).bsv.stage = .ident := by
      rw [State.measure_bsv]
      exact ident
    rw [judged, State.stageStep, if_pos stage, ← (s.measure_supplyOnly r).drc]
    split
    · exact identify _
    · rfl
  · exact (State.judged_supplyOnly ident r).drc

theorem State.scan_keepsMotion (s : State) (r : Readings) : s.KeepsMotion (s.scan r) := by
  by_cases up : s.bsv.power = .shutdown
  · unfold State.scan
    rw [if_pos up]
    exact .refl s
  · have idle := State.scan_idlesTo up r
    have judged : s.KeepsMotion (s.judged r) := .of_eq (s.judged_drc r) (s.judged_sameBudget r).wnc
    exact judged.trans (.of_winch idle.drc fun h => by rw [idle.wnc]; exact h)

theorem State.engineIdle_keepsMotion (s : State) (last : Bool) : s.KeepsMotion (s.engineIdle last) := by
  unfold State.engineIdle
  dsimp only
  split
  · exact .of_eq rfl rfl
  · split <;> exact .of_eq rfl rfl

theorem execCommitProgrammingEnd_keepsMotion (verified : Bool) {s t : State}
    (h : execCommitProgrammingEnd verified s = .next t) : s.KeepsMotion t := by
  unfold execCommitProgrammingEnd at h
  split at h
  · cases h
    refine State.KeepsMotion.trans ?_ (State.engineIdle_keepsMotion _ _)
    exact .of_eq (by simp) (by simp)
  · cases h; exact .refl s

theorem execPackSaveEnd_keepsMotion (verified : Bool) {s t : State} (h : execPackSaveEnd verified s = .next t) :
    s.KeepsMotion t := by
  unfold execPackSaveEnd at h
  split at h
  · cases h
    refine State.KeepsMotion.trans ?_ (State.engineIdle_keepsMotion _ _)
    exact .of_eq rfl rfl
  · cases h; exact .refl s

/-- The position that a power-on restores is within the capacity (R107). -/
theorem State.powerOn_keepsMotion (s : State) (cause : ResetCause) : s.KeepsMotion (s.powerOn cause) :=
  ⟨fun _ => Drive.reset_dutied _, fun _ p known => ((StoredPack.position_eq_some _ _ p).mp known).1⟩

/-- A RESET request keeps the line position and the capacity in force (R103). -/
theorem State.requestReset_keepsMotion (s : State) : s.KeepsMotion s.requestReset := by
  unfold State.requestReset
  dsimp only
  refine State.KeepsMotion.trans ?_ (.of_eq (State.drawnIf_drc _ _) (State.drawnIf_wnc _ _))
  refine State.KeepsMotion.trans ?_ (.of_eq (State.restartParkTimer_drc _) (State.restartParkTimer_wnc _))
  exact ⟨fun _ => Drive.reset_dutied _, id⟩

/-- A change of the working copy marks the pulse settings in DRC, and neither a duty nor the capacity in force. -/
theorem State.setWorking_keepsMotion (s : State) (w : Settings) : s.KeepsMotion (s.setWorking w) := ⟨id, id⟩

theorem State.replaceWorking_keepsMotion (s : State) (w : Settings) : s.KeepsMotion (s.replaceWorking w) :=
  (s.setWorking_keepsMotion w).trans (.of_eq rfl rfl)

theorem State.selectProfile_keepsMotion (s : State) (k : Fin 4) : s.KeepsMotion (s.selectProfile k) := by
  have loaded := s.replaceWorking_keepsMotion (s.pst.load k s.free)
  unfold State.selectProfile
  exact loaded.trans (.of_eq (by simp) (by simp))

end Sys2Proof.Machine
end

section
/-! Each command keeps the drive's duties and the line position (O11). -/

namespace Sys2Proof.Machine

/-! ### What surrounds the meaning of a request block (R160 to R162) -/

/-- A relation between a state and a later one that PLI's own bookkeeping, the park idle timer and a wake keep. -/
structure BlockFrame (R : State → State → Prop) : Prop where
  refl : ∀ s : State, R s s
  trans : ∀ {s t u : State}, R s t → R t u → R s u
  setPli : ∀ (s : State) (p : PitLink), R s (s.setPli p)
  restart : ∀ s : State, R s s.restartParkTimer
  wake : ∀ s : State, R s s.wake

section
variable {R : State → State → Prop}

theorem BlockFrame.finishBlock (frame : BlockFrame R) (bt : Batch) (l : Bool) (c : Byte) (exempt : Bool) (a : Answer) :
    R a.state (finishBlock bt l c exempt a) := by
  have executed (t : State) : R t (t.executed exempt) := by
    cases exempt
    · exact frame.restart t
    · exact frame.refl t
  cases a with
  | good s d => exact frame.trans (frame.setPli s _) (executed _)
  | owes s => exact frame.trans (frame.setPli s _) (executed _)
  | check s k => exact frame.trans (frame.setPli s _) (executed _)
  | busy s k => exact frame.setPli s _

theorem BlockFrame.runForm (frame : BlockFrame R) (bt : Batch) (l : Bool) (req : Option Request) (c : Byte)
    (exempt : Bool) {m : Bool → State → Answer} {s : State} (h : R s (m l s).state) :
    R s (runForm bt l req c exempt m s) := by
  unfold Machine.runForm
  split
  · exact frame.finishBlock bt l c exempt (.check s .badParameter)
  · exact frame.trans h (frame.finishBlock bt l c exempt _)

theorem BlockFrame.runReports (frame : BlockFrame R) (bt : Batch) (l : Bool) (req : Option Request) (c : Byte)
    {m : Bool → State → Answer} {s : State} (h : R s (m l s).state) : R s (runReports bt l req c m s) := by
  unfold Machine.runReports
  split
  · exact frame.trans (frame.trans (frame.setPli s _) (frame.setPli _ _)) (frame.restart _)
  · exact frame.trans (frame.trans (frame.setPli s _) (frame.setPli _ _)) (frame.restart _)
  · exact frame.runForm bt l req c false h

theorem BlockFrame.runNonExempt (frame : BlockFrame R) (bt : Batch) (l : Bool) (req : Option Request) (c : Byte)
    {m : Bool → State → Answer} (s : State) (h : ∀ t : State, R t (m l t).state) :
    R s (runNonExempt bt l req c m s) := by
  unfold Machine.runNonExempt
  split
  · exact frame.setPli s _
  split
  · exact frame.setPli s _
  split
  · exact frame.setPli s _
  split
  · exact frame.trans (frame.wake s) (frame.runForm bt l req c false (h _))
  · exact frame.trans (frame.wake s) (frame.runReports bt l req c (h _))

/-- A block leads where its meaning leads, with a wake before it at most and bookkeeping after it. -/
theorem BlockFrame.runBlock (frame : BlockFrame R) (s : State) (req : Option Request) (c : Byte) (b : Block)
    {m : Bool → State → Answer} (h : ∀ (l : Bool) (t : State), R t (m l t).state) : R s (s.runBlock req c b m) := by
  unfold State.runBlock
  dsimp only
  split
  · exact frame.setPli s _
  split
  · exact frame.setPli s _
  split
  · exact frame.runForm _ _ _ _ _ (h _ s)
  · exact frame.runNonExempt _ _ _ _ s (h _)

end

/-- An answer behind the parameter check leaves what holds of the state before and of the answer to each parameter. -/
theorem withParam_state {P : State → Prop} {α : Type} {s : State} {p : Option α} {k : α → Answer} (before : P s)
    (h : ∀ a, P (k a).state) : P (withParam s p k).state := by
  cases p with
  | none => exact before
  | some a => exact h a

theorem whenLast_state {P : State → Prop} {s : State} {l : Bool} {k : Answer} (before : P s) (h : P k.state) :
    P (whenLast s l k).state := by
  cases l
  · exact before
  · exact h

theorem whenStoreFree_state {P : State → Prop} {s : State} {k : Answer} (before : P s) (h : P k.state) :
    P (whenStoreFree s k).state := by
  unfold whenStoreFree
  split
  · exact h
  · exact before

theorem keepsMotion_blockFrame : BlockFrame State.KeepsMotion where
  refl := .refl
  trans := .trans
  setPli := State.setPli_keepsMotion
  restart _ := .of_eq (by simp) (by simp)
  wake := State.wake_keepsMotion

theorem State.runRequest_keepsMotion (s : State) (r : Request) (b : Block) {m : Bool → State → Answer}
    (h : ∀ (l : Bool) (t : State), t.KeepsMotion (m l t).state) : s.KeepsMotion (s.runRequest r b m) :=
  keepsMotion_blockFrame.runBlock s (some r) r.code b h

/-! ### The meanings of the requests -/

theorem reportStatusAnswer_keepsMotion (b : Block) (l : Bool) (s : State) :
    s.KeepsMotion (reportStatusAnswer b l s).state := by
  refine withParam_state (.refl s) fun k => ?_
  show s.KeepsMotion (s.reportDraws k)
  unfold State.reportDraws
  split
  · exact .of_eq (by simp) (by simp)
  · exact .refl s

theorem claimAnswer_keepsMotion (b : Block) (l : Bool) (s : State) : s.KeepsMotion (claimAnswer b l s).state := by
  refine withParam_state (.refl s) fun r => ?_
  split
  · exact .refl s
  · exact s.setAu_keepsMotion _
  · exact s.give_keepsMotion r .pit

theorem releaseAnswer_keepsMotion (b : Block) (l : Bool) (s : State) : s.KeepsMotion (releaseAnswer b l s).state := by
  refine withParam_state (.refl s) fun r => ?_
  split
  · exact .refl s
  split
  · exact .refl s
  · exact s.give_keepsMotion r _

theorem setDriveAnswer_keepsMotion (b : Block) (l : Bool) (s : State) : s.KeepsMotion (setDriveAnswer b l s).state := by
  refine withParam_state (.refl s) fun v => ?_
  split
  · exact .refl s
  · exact s.setAu_keepsMotion _

theorem setSteerAnswer_keepsMotion (b : Block) (l : Bool) (s : State) : s.KeepsMotion (setSteerAnswer b l s).state := by
  refine withParam_state (.refl s) fun v => ?_
  split
  · exact .refl s
  split
  · exact .refl s
  · exact s.setAu_keepsMotion _

theorem setGearAnswer_keepsMotion (b : Block) (l : Bool) (s : State) : s.KeepsMotion (setGearAnswer b l s).state := by
  refine withParam_state (.refl s) fun g => ?_
  split
  · exact .refl s
  · exact s.setAu_keepsMotion _

/-- A new record changes neither the line nor the capacity (R116). -/
theorem startOperation_keepsMotion (s : State) (r : OpRecord) (x : Option SenseKind) :
    s.KeepsMotion (startOperation s r x).state := by
  unfold startOperation
  split
  · exact .refl s
  · exact .refl s
  · rw [operationTaken_state]
    exact ⟨id, id⟩

theorem assistHaulAnswer_keepsMotion (b : Block) (l : Bool) (s : State) :
    s.KeepsMotion (assistHaulAnswer b l s).state := by
  refine withParam_state (.refl s) fun n => whenLast_state (.refl s) ?_
  split
  · exact .refl s
  · exact .refl s
  · rw [operationTaken_state]
    exact ⟨id, id⟩

theorem freespoolAnswer_keepsMotion (b : Block) (l : Bool) (s : State) : s.KeepsMotion (freespoolAnswer b l s).state := by
  refine withParam_state (.refl s) fun _ => ?_
  split
  · exact .refl s
  split
  · exact .refl s
  split
  · exact .refl s
  · exact s.setAu_keepsMotion _

theorem winchStopAnswer_keepsMotion (b : Block) (l : Bool) (s : State) : s.KeepsMotion (winchStopAnswer b l s).state :=
  withParam_state (.refl s) fun _ =>
    (s.endOperation_keepsMotion (some .byRequest)).trans ((State.setAu_keepsMotion _ _).trans
      (State.setWnc_keepsMotion _ rfl rfl))

theorem writePart_keepsMotion (s : State) (k : Fin 8) (v : List Byte) : s.KeepsMotion (writePart s k v).state := by
  unfold writePart
  split
  · exact .of_eq rfl rfl
  split
  · exact .refl s
  · dsimp only
    split
    · exact .of_eq rfl rfl
    split
    · exact ⟨id, id⟩
    · exact .of_eq rfl rfl

theorem writeWhole_keepsMotion (s : State) (i : SettingId) (v : List Byte) : s.KeepsMotion (writeWhole s i v).state := by
  unfold writeWhole
  split
  · exact .refl s
  split
  · exact .refl s
  split
  · exact s.setWorking_keepsMotion _
  · exact .refl s

theorem writeSettingAnswer_keepsMotion (b : Block) (l : Bool) (s : State) :
    s.KeepsMotion (writeSettingAnswer b l s).state := by
  refine withParam_state (.refl s) fun p => ?_
  split
  · exact writePart_keepsMotion s _ _
  · exact writeWhole_keepsMotion s _ _

theorem selectAnswer_keepsMotion (b : Block) (l : Bool) (s : State) : s.KeepsMotion (selectAnswer b l s).state := by
  refine withParam_state (.refl s) fun k => whenStoreFree_state (.refl s) ?_
  split
  · exact s.selectProfile_keepsMotion k
  · exact .refl s

theorem parkAnswer_keepsMotion (b : Block) (l : Bool) (s : State) : s.KeepsMotion (parkAnswer b l s).state := by
  refine withParam_state (.refl s) fun _ => ?_
  split
  · exact .of_eq s.enterParked_drc s.enterParked_wnc
  · exact .refl s

theorem resetAnswer_keepsMotion (b : Block) (l : Bool) (s : State) : s.KeepsMotion (resetAnswer b l s).state := by
  refine withParam_state (.refl s) fun _ => whenLast_state (.refl s) ?_
  split <;> exact .refl s

/-! ### Every command -/

theorem exec_keepsMotion (c : Instr) {s t : State} (h : exec c s = .next t) : s.KeepsMotion t := by
  cases c with
  | powerOnReset => cases h; exact s.powerOn_keepsMotion _
  | brownoutReset => cases h; exact s.powerOn_keepsMotion _
  | scanCompletion r => cases h; exact s.scan_keepsMotion r
  | parkIdleTimerExpiry =>
    simp only [exec, execParkIdleTimerExpiry] at h
    split at h
    · cases h; exact .refl s
    split at h
    · cases h; exact .of_eq (by simp) (by simp)
    · cases h; exact .of_eq (by simp) (by simp)
  | servoRefreshExpiry => cases h; exact .of_eq s.steerBoundary_drc s.steerBoundary_wnc
  | driveUpdateExpiry =>
    have update (u : State) : u.KeepsMotion u.driveUpdate := .of_drive (fun dutied => dutied.update _ _) rfl
    simp only [exec, execDriveUpdateExpiry] at h
    split at h
    · cases h; exact update s
    · cases h; exact s.driveBoundary_keepsMotion.trans (update _)
  | gateTimerExpiry =>
    simp only [exec, execGateTimerExpiry] at h
    split at h
    · cases h; exact .refl s
    next runs => cases h; exact .of_drive (fun dutied => dutied.gateExpired (by simpa using runs)) rfl
  | shiftServoRefresh =>
    have refresh (u : State) : u.KeepsMotion u.shiftRefresh := .of_drive (fun dutied => dutied.shiftRefresh _ _ _) rfl
    simp only [exec, execShiftServoRefresh] at h
    split at h
    · cases h; exact refresh s
    · cases h
      exact State.KeepsMotion.trans (.of_eq s.gearBoundary_drc s.gearBoundary_wnc) (refresh _)
  | shiftTravelTimerExpiry => cases h; exact ⟨id, id⟩
  | winchUpdateExpiry level => exact execWinchUpdateExpiry_keepsMotion level h
  | backOffTimerExpiry =>
    simp only [exec, execBackOffTimerExpiry] at h
    split at h
    · cases h; exact s.setWnc_keepsMotion rfl rfl
    · cases h; exact .refl s
  | drumPulseArrival e =>
    simp only [exec, execDrumPulseArrival] at h
    split at h
    · cases h; exact s.drumPulse_keepsMotion
    · cases h; exact .refl s
  | hookHomeArrival => exact execHookHomeArrival_keepsMotion h
  | winchBoundaryTimerExpiry =>
    simp only [exec, execWinchBoundaryTimerExpiry] at h
    split at h
    · cases h; exact (s.setAu_keepsMotion _).trans (State.winchBoundary_keepsMotion _)
    · cases h; exact .refl s
  | pitHoldDeadlineExpiry row =>
    simp only [exec, execPitHoldDeadlineExpiry] at h
    cases row with
    | drive =>
      dsimp only at h
      split at h
      · cases h; exact s.giveDrive_keepsMotion _ _
      · cases h; exact .refl s
    | steer =>
      dsimp only at h
      split at h
      · cases h; exact .of_eq (by simp) (by simp)
      · cases h; exact .refl s
  | lightStepExpiry => cases h; exact .of_eq rfl rfl
  | channelFrame bytes =>
    simp only [exec, execChannelFrame] at h
    split at h
    · cases h; exact s.takeFrame_keepsMotion _
    · cases h; exact s.setRxl_keepsMotion _
  | rxlByteGapTimeout => cases h; exact s.setRxl_keepsMotion _
  | holdMarkExpiry => cases h; exact s.setRxl_keepsMotion _
  | failsafeMarkExpiry => cases h; exact (s.setRxl_keepsMotion _).trans (State.reportLink_keepsMotion _ _)
  | pitByteGapTimeout => cases h; exact s.setPli_keepsMotion _
  | replyTransmit => cases h; exact s.setPli_keepsMotion _
  | resetRequestEffect =>
    simp only [exec, execResetRequestEffect] at h
    split at h
    · cases h; exact s.requestReset_keepsMotion
    · cases h; exact .refl s
  | commitProgrammingEnd v => exact execCommitProgrammingEnd_keepsMotion v h
  | packSaveEnd v => exact execPackSaveEnd_keepsMotion v h
  | reportStatus b => cases h; exact s.runRequest_keepsMotion _ b (reportStatusAnswer_keepsMotion b)
  | requestSense b =>
    cases h
    exact s.runRequest_keepsMotion _ b fun _ t => withParam_state (.refl t) fun _ => t.setPli_keepsMotion _
  | identify b => cases h; exact s.runRequest_keepsMotion _ b fun _ t => withParam_state (.refl t) fun _ => .refl t
  | claim b => cases h; exact s.runRequest_keepsMotion _ b (claimAnswer_keepsMotion b)
  | release b => cases h; exact s.runRequest_keepsMotion _ b (releaseAnswer_keepsMotion b)
  | setDrive b => cases h; exact s.runRequest_keepsMotion _ b (setDriveAnswer_keepsMotion b)
  | setSteer b => cases h; exact s.runRequest_keepsMotion _ b (setSteerAnswer_keepsMotion b)
  | setGear b => cases h; exact s.runRequest_keepsMotion _ b (setGearAnswer_keepsMotion b)
  | setScene b =>
    cases h; exact s.runRequest_keepsMotion _ b fun _ t => withParam_state (.refl t) fun _ => .of_eq rfl rfl
  | winchPayOut b | winchHaulIn b | winchHaulToTension b | winchHome b =>
    cases h
    exact s.runRequest_keepsMotion _ b fun _ t =>
      withParam_state (.refl t) fun _ => whenLast_state (.refl t) (startOperation_keepsMotion t _ _)
  | winchAssistHaul b => cases h; exact s.runRequest_keepsMotion _ b (assistHaulAnswer_keepsMotion b)
  | winchFreespool b => cases h; exact s.runRequest_keepsMotion _ b (freespoolAnswer_keepsMotion b)
  | winchStop b => cases h; exact s.runRequest_keepsMotion _ b (winchStopAnswer_keepsMotion b)
  | abort b =>
    cases h
    exact s.runRequest_keepsMotion _ b fun _ t => withParam_state (.refl t) fun _ => t.endOperation_keepsMotion _
  | readSetting b => cases h; exact s.runRequest_keepsMotion _ b fun _ t => withParam_state (.refl t) fun _ => .refl t
  | writeSetting b => cases h; exact s.runRequest_keepsMotion _ b (writeSettingAnswer_keepsMotion b)
  | selectProfile b => cases h; exact s.runRequest_keepsMotion _ b (selectAnswer_keepsMotion b)
  | commitProfile b =>
    cases h
    exact s.runRequest_keepsMotion _ b fun _ t => withParam_state (.refl t) fun _ =>
      whenLast_state (.refl t) (whenStoreFree_state (.refl t) (.of_eq rfl rfl))
  | loadDefaults b =>
    cases h
    exact s.runRequest_keepsMotion _ b fun _ t => withParam_state (.refl t) fun _ =>
      whenStoreFree_state (.refl t) (t.replaceWorking_keepsMotion _)
  | park b => cases h; exact s.runRequest_keepsMotion _ b (parkAnswer_keepsMotion b)
  | reset b => cases h; exact s.runRequest_keepsMotion _ b (resetAnswer_keepsMotion b)
  | receiverFrameDiscard why => cases h; exact s.setRxl_keepsMotion _
  | pitFrameDiscard why => cases h; exact s.setPli_keepsMotion _
  | unknownCode code b => cases h; exact keepsMotion_blockFrame.runBlock s none code b fun _ t => .refl t

/-- Settles O11, operation by operation on DRC and WNC. -/
theorem motionKept : Obligations.MotionKept := by
  intro s t dutied positioned h
  have kept : s.KeepsMotion t := by
    unfold step at h
    split at h
    · cases h; exact .refl s
    next c rest _ => exact State.KeepsMotion.trans (t := s.setPending rest) (.of_eq rfl rfl) (exec_keepsMotion c h)
  exact ⟨kept.dutied dutied, kept.positioned positioned⟩

end Sys2Proof.Machine
end

section
/-! An owed reply and the work it waits for (R162): what each operation on PLI, on the program engine and on the operation
record leaves of them. -/

namespace Sys2Proof.Machine

/-- Work in flight for a reply that a block of a CODE owes (R162): a commit, or an operation of that CODE without
IMMEDIATE. -/
def State.HasWork (s : State) (c : Byte) : Prop :=
  (c = Request.commitProfile.code ∧ ∃ k v, s.pst.engine = .commit k v) ∨
    ∃ r, s.wnc.record = some r ∧ r.immediate = false ∧ c = r.kind.request.code

theorem State.owedHasWork_iff (s : State) : s.OwedHasWork ↔
    (∀ o, s.pli.owed = some o → s.HasWork o.code) ∧
      ∀ bt, s.pli.batch = some bt → s.pli.owed ≠ none → bt.restricted = true := by
  unfold State.OwedHasWork State.HasWork
  refine and_congr_left' (forall₂_congr fun o _ => or_congr_right (exists_congr fun r =>
    and_congr_right' (and_congr_right' ?_)))
  cases r.kind <;> exact Iff.rfl

/-- What keeps an owed reply with its work: no reply becomes owed and no batch begins, and a reply that stays owed keeps its
work in flight. -/
structure State.OwedKept (s t : State) : Prop where
  owed : ∀ o, t.pli.owed = some o → s.pli.owed = some o
  batch : ∀ bt, t.pli.batch = some bt → s.pli.batch = some bt
  work : ∀ o, t.pli.owed = some o → s.HasWork o.code → t.HasWork o.code

theorem State.OwedKept.refl (s : State) : s.OwedKept s := ⟨fun _ => id, fun _ => id, fun _ _ => id⟩

theorem State.OwedKept.trans {s t u : State} (h : s.OwedKept t) (k : t.OwedKept u) : s.OwedKept u where
  owed o e := h.owed o (k.owed o e)
  batch bt e := h.batch bt (k.batch bt e)
  work o e work := k.work o e (h.work o (k.owed o e) work)

theorem State.OwedKept.holds {s t : State} (k : s.OwedKept t) (h : s.OwedHasWork) : t.OwedHasWork := by
  rw [State.owedHasWork_iff] at h ⊢
  obtain ⟨work, restricted⟩ := h
  refine ⟨fun o e => k.work o e (work o (k.owed o e)), fun bt e owed => restricted bt (k.batch bt e) ?_⟩
  obtain ⟨o, e⟩ := Option.ne_none_iff_exists'.mp owed
  exact Option.ne_none_iff_exists'.mpr ⟨o, k.owed o e⟩

/-- No reply is owed and no batch in progress right after a reset (R159). -/
theorem State.OwedKept.of_none {s t : State} (owed : t.pli.owed = none) (batch : t.pli.batch = none) : s.OwedKept t where
  owed o e := by rw [owed] at e; cases e
  batch bt e := by rw [batch] at e; cases e
  work o e := by rw [owed] at e; cases e

/-- A change that leaves the owed reply, the batch and the record as they were, and no commit without its end. -/
theorem State.OwedKept.of_commit {s t : State} (owed : t.pli.owed = s.pli.owed) (batch : t.pli.batch = s.pli.batch)
    (record : t.wnc.record = s.wnc.record)
    (commit : ∀ k v, s.pst.engine = .commit k v → t.pst.engine = .commit k v) : s.OwedKept t where
  owed o e := owed ▸ e
  batch bt e := batch ▸ e
  work o _ work := by
    unfold State.HasWork
    rw [record]
    exact work.imp_left fun ⟨c, k, v, e⟩ => ⟨c, k, v, commit k v e⟩

/-- A change that leaves PLI, the engine and the record as they were. -/
theorem State.OwedKept.of_eq {s t : State} (pli : t.pli = s.pli) (engine : t.pst.engine = s.pst.engine)
    (record : t.wnc.record = s.wnc.record) : s.OwedKept t :=
  .of_commit (by rw [pli]) (by rw [pli]) record fun _ _ e => engine.trans e

/-- A change of PLI alone that leaves the owed reply and the batch. -/
theorem State.setPli_owedKept (s : State) {p : PitLink} (owed : p.owed = s.pli.owed) (batch : p.batch = s.pli.batch) :
    s.OwedKept (s.setPli p) := .of_commit owed batch rfl fun _ _ => id

theorem State.setAu_owedKept (s : State) (b : Authority) : s.OwedKept (s.setAu b) := .of_eq rfl rfl rfl
theorem State.setRxl_owedKept (s : State) (b : Receiver) : s.OwedKept (s.setRxl b) := .of_eq rfl rfl rfl
theorem State.setLtc_owedKept (s : State) (b : Lights) : s.OwedKept (s.setLtc b) := .of_eq rfl rfl rfl
theorem State.wake_owedKept (s : State) : s.OwedKept s.wake := .of_eq (by simp) (by simp) (by simp)
theorem State.restartParkTimer_owedKept (s : State) : s.OwedKept s.restartParkTimer := .of_eq (by simp) (by simp) (by simp)
theorem State.drawnIf_owedKept (s : State) (c : Bool) : s.OwedKept (s.drawnIf c) := .of_eq (by simp) (by simp) (by simp)
theorem State.winchBoundary_owedKept (s : State) : s.OwedKept s.winchBoundary := .of_eq (by simp) (by simp) (by simp)

theorem State.give_owedKept (s : State) (r : Row) (h : Holder) : s.OwedKept (s.give r h) := by
  cases r <;> exact .of_eq (by simp [State.give]) (by simp [State.give]) (by simp [State.give])

/-! ### The operation record (R116, R119) -/

/-- WNC replaced with the record absent as it was, or of the same kind and with the same reply. -/
theorem State.setWnc_owedKept (s : State) {b : Winch}
    (same : ∀ r, s.wnc.record = some r → ∃ q, b.record = some q ∧ q.immediate = r.immediate ∧ q.kind = r.kind) :
    s.OwedKept (s.setWnc b) where
  owed _ := id
  batch _ := id
  work o _ work := by
    refine work.imp_right fun ⟨r, record, owes, code⟩ => ?_
    obtain ⟨q, held, immediate, kind⟩ := same r record
    exact ⟨q, held, immediate.trans owes, kind ▸ code⟩

/-- An operation that ends completes the reply it owes; one under IMMEDIATE leaves the owed reply, which waits for a commit
(R162, R163). -/
theorem State.endOperation_owedKept (s : State) (o : Option SenseKind) : s.OwedKept (s.endOperation o) := by
  cases record : s.wnc.record with
  | none => rw [s.endOperation_none o record]; exact .refl s
  | some r =>
    have pli : (s.endOperation o).pli = s.pli.withResult r o :=
      (State.endOperation_pli o record).trans (PitLink.operationEnded_eq _ _ _)
    have batch : (s.pli.withResult r o).batch = s.pli.batch := by
      unfold PitLink.withResult
      split <;> rfl
    have owed : (s.pli.withResult r o).owed = if r.immediate = true then s.pli.owed else none := by
      unfold PitLink.withResult
      cases r.immediate <;> cases o <;> cases held : s.pli.owed <;> simp [held]
    refine ⟨fun w e => ?_, fun bt e => ?_, fun w e work => ?_⟩
    · rw [pli, owed] at e
      exact (Option.ite_none_right_eq_some.mp e).2
    · rwa [pli, batch] at e
    · rw [pli, owed] at e
      have immediate := (Option.ite_none_right_eq_some.mp e).1
      rcases work with ⟨code, k, v, commit⟩ | ⟨q, held, owes, _⟩
      · exact .inl ⟨code, k, v, (congrArg Store.engine (s.endOperation_pst o)).trans commit⟩
      · cases record.symm.trans held
        rw [immediate] at owes
        cases owes

theorem State.takeEnding_owedKept (s : State) (e : Ending) : s.OwedKept (s.takeEnding e) := by
  cases e with
  | none => exact .refl s
  | some o => exact s.endOperation_owedKept o

theorem State.radioTakesWinch_owedKept (s : State) : s.OwedKept s.radioTakesWinch :=
  (s.setAu_owedKept _).trans (State.endOperation_owedKept _ _)

/-- A record is created where none was, so a reply owed before waits for a commit (R117). -/
theorem State.OwedKept.created {s t : State} (free : s.wnc.record = none) (pli : t.pli = s.pli) (pst : t.pst = s.pst) :
    s.OwedKept t where
  owed o e := pli ▸ e
  batch bt e := pli ▸ e
  work o _ work := by
    rcases work with commit | ⟨r, record, _⟩
    · exact .inl (pst ▸ commit)
    · rw [free] at record
      cases record

/-! ### The winch's update, pulse and switch -/

theorem State.judgeTension_owedKept (s : State) : s.OwedKept s.judgeTension := by
  unfold State.judgeTension
  split
  · split
    · exact s.endOperation_owedKept none
    · exact .refl s
  · exact .refl s

theorem State.judgeJam_owedKept (s : State) : s.OwedKept s.judgeJam := by
  have jam : s.OwedKept s.jam := by
    unfold State.jam
    split
    next r record =>
      split
      · exact s.setWnc_owedKept fun q held => by cases record.symm.trans held; exact ⟨_, rfl, rfl, rfl⟩
      · exact State.OwedKept.trans (t := s.setWnc { s.wnc with mode := .jammed }) (.of_eq rfl rfl rfl)
          (State.endOperation_owedKept _ _)
    · exact .of_eq rfl rfl rfl
  unfold State.judgeJam
  split
  · exact jam
  · exact .refl s

theorem State.winchMeasure_owedKept (s : State) : s.OwedKept s.winchMeasure := by
  have tension (t : State) (current : Nat) : t.OwedKept (t.setWnc (t.wnc.measureTension current)) :=
    t.setWnc_owedKept fun r record => by simp [Winch.measureTension, record]
  have starvation (t : State) (floor : Nat) : t.OwedKept (t.setWnc (t.wnc.measureStarvation floor)) :=
    t.setWnc_owedKept fun r record => by simp [Winch.measureStarvation, record]
  have stall (t : State) (current jamCurrent : Nat) : t.OwedKept (t.setWnc (t.wnc.measureStall current jamCurrent)) :=
    .of_eq rfl rfl rfl
  exact ((((tension s _).trans (State.judgeTension_owedKept _)).trans (stall _ _ _)).trans
    (State.judgeJam_owedKept _)).trans (starvation _ _)

theorem execWinchUpdateExpiry_owedKept (level : Bool) {s t : State} (h : execWinchUpdateExpiry level s = .next t) :
    s.OwedKept t := by
  cases h
  obtain ⟨-, -, -, -, -, -, -, record⟩ := s.winchRead_fields level
  have read : s.OwedKept (s.winchRead level) := .of_eq rfl rfl record
  have driven (t : State) : t.OwedKept t.winchDrive := .of_eq rfl rfl rfl
  have shown (t : State) : t.OwedKept t.winchPost.showWinch := .of_eq rfl rfl rfl
  exact (((read.trans (State.takeEnding_owedKept _ _)).trans (driven _)).trans (State.winchMeasure_owedKept _)).trans
    (shown _)

theorem State.drumPulse_owedKept (s : State) : s.OwedKept s.drumPulse := by
  have counted : s.OwedKept (s.setWnc (s.wnc.countPulse s.w.wnc.lineReserve)) := by
    refine s.setWnc_owedKept fun r record => ?_
    simp only [Winch.countPulse, record, OpRecord.pulse]
    split <;> exact ⟨_, rfl, rfl, rfl⟩
  have shown (t : State) : t.OwedKept t.showWinch.winchBoundary :=
    State.OwedKept.trans (t := t.showWinch) (.of_eq rfl rfl rfl) (State.winchBoundary_owedKept _)
  exact (counted.trans (State.takeEnding_owedKept _ _)).trans (shown _)

theorem execHookHomeArrival_owedKept {s t : State} (h : execHookHomeArrival s = .next t) : s.OwedKept t := by
  have arrived : s.OwedKept (s.setWnc s.wnc.hookArrived) := .of_eq rfl rfl rfl
  unfold execHookHomeArrival at h
  dsimp only at h
  split at h
  · cases h; exact arrived
  · cases h; exact arrived.trans (State.takeEnding_owedKept _ _)

/-! ### The receiver link (R8, R10, R153) -/

theorem State.DriveOnly.owedKept {s t : State} (h : s.DriveOnly t) : s.OwedKept t :=
  .of_eq h.pli (by rw [h.pst]) (by rw [h.wnc])
theorem State.SteerOnly.owedKept {s t : State} (h : s.SteerOnly t) : s.OwedKept t :=
  .of_eq h.pli (by rw [h.pst]) (by rw [h.wnc])
theorem State.GearOnly.owedKept {s t : State} (h : s.GearOnly t) : s.OwedKept t :=
  .of_eq h.pli (by rw [h.pst]) (by rw [h.wnc])

theorem State.winchLive_owedKept (s : State) : s.OwedKept s.winchLive := by
  unfold State.winchLive
  split
  · split
    · exact s.give_owedKept .winch _
    · exact .refl s
  · exact s.radioTakesWinch_owedKept
  · exact s.radioTakesWinch_owedKept
  · exact .refl s

theorem State.winchPublished_owedKept (s : State) (before : Option Int) : s.OwedKept (s.winchPublished before) := by
  unfold State.winchPublished
  split
  · exact s.give_owedKept .winch _
  · exact s.setAu_owedKept _
  · split
    · exact s.give_owedKept .winch _
    · exact .refl s
  · split
    · exact s.radioTakesWinch_owedKept
    · exact .refl s
  · exact .refl s

theorem State.reportLink_owedKept (s : State) (before : LinkState) : s.OwedKept (s.reportLink before) := by
  have live : s.OwedKept s.enterLive :=
    (s.driveLive_only.owedKept.trans (State.steerLive_only _).owedKept).trans
      ((State.gearLive_only _).owedKept.trans (State.winchLive_owedKept _))
  unfold State.reportLink
  split
  · exact .refl s
  split
  · exact live
  · rw [State.enterLost_eq]
    exact .of_eq rfl rfl rfl
  · exact .refl s

theorem State.publish_owedKept (s : State) (before : Option Int) : s.OwedKept (s.publish before) := by
  have rows : s.OwedKept (s.litPublished before) :=
    ((s.drivePublished_only.owedKept.trans (State.steerPublished_only _).owedKept).trans
      ((State.gearPublished_only _).owedKept.trans (State.winchPublished_owedKept _ before))).trans (.of_eq rfl rfl rfl)
  rw [State.publish_wakes]
  split
  · exact rows.trans (State.wake_owedKept _)
  · exact rows

theorem State.takeFrame_owedKept (s : State) (f : ReceiverFrame) : s.OwedKept (s.takeFrame f) := by
  have moved : s.OwedKept ((s.setRxl (s.rxl.afterFrame s.w.rxl f)).reportLink s.rxl.link) :=
    (s.setRxl_owedKept _).trans (State.reportLink_owedKept _ _)
  unfold State.takeFrame
  dsimp only
  split
  · exact moved.trans (State.publish_owedKept _ _)
  · exact moved

/-! ### A scan and pack record saves (R21, R35) -/

/-- A save begins only while the engine is IDLE (R35). -/
theorem State.requestPackSave_owedKept (s : State) : s.OwedKept s.requestPackSave := by
  refine .of_commit (by simp) (by simp) (by simp) fun k v commit => ?_
  unfold State.requestPackSave
  split
  · exact commit
  split
  next idle => rw [idle] at commit; cases commit
  next => exact commit

theorem State.enterParked_owedKept (s : State) : s.OwedKept s.enterParked :=
  State.OwedKept.trans (t := s.setBsv s.bsv.parked) (.of_eq rfl rfl rfl) (State.requestPackSave_owedKept _)

theorem State.stageStep_owedKept (s : State) : s.OwedKept s.stageStep := by
  have started (b : Battery) : s.OwedKept (s.setBsv b).restartParkTimer := .of_eq (by simp) (by simp) (by simp)
  have identify : s.OwedKept s.identify := by
    unfold State.identify
    split
    · exact started _
    split
    · exact started _
    · refine State.OwedKept.trans ?_ (State.requestPackSave_owedKept _)
      exact (started _).trans (State.setPli_owedKept _ rfl rfl)
  have supervise : s.OwedKept s.supervise := by
    have supervised : s.OwedKept (s.setBsv (s.bsv.supervise s.w.bsv)) := .of_eq rfl rfl rfl
    unfold State.supervise
    dsimp only
    split
    · exact supervised.trans (State.requestPackSave_owedKept _)
    · exact supervised
  unfold State.stageStep
  split
  · split
    · exact identify
    · exact .of_eq rfl rfl rfl
  · exact supervise

theorem State.storageStep_owedKept (s : State) (wasIdent : Bool) : s.OwedKept (s.storageStep wasIdent) := by
  cases wasIdent with
  | true => exact .refl s
  | false =>
    rcases Nat.lt_or_ge s.nextStorageRun 2500 with short | full
    · rw [State.storageStep_short short]
      exact .of_eq rfl rfl rfl
    · rw [State.storageStep_full full, State.enterShutdown_eq]
      have counted (t : State) (b : Battery) : t.OwedKept (t.setBsv b) := .of_eq rfl rfl rfl
      exact (((counted s _).trans (counted _ _)).trans (State.requestPackSave_owedKept _)).trans (counted _ _)

theorem State.scan_owedKept (s : State) (r : Readings) : s.OwedKept (s.scan r) := by
  by_cases down : s.bsv.power = .shutdown
  · unfold State.scan
    rw [if_pos down]
    exact .refl s
  · have idle := State.scan_idlesTo down r
    have measured := s.measure_supplyOnly r
    have engine : (s.measure r).pst.engine = s.pst.engine := by rw [s.measure_pst r]
    have judged : s.OwedKept (s.judged r) :=
      (State.OwedKept.of_eq measured.pli engine (by rw [measured.wnc])).trans
        ((State.stageStep_owedKept _).trans (State.storageStep_owedKept _ _))
    exact judged.trans (.of_eq idle.pli (by rw [idle.pst]) (by rw [idle.wnc]))

/-! ### The program engine and the resets (R172, R47, R48) -/

/-- The engine becomes IDLE where no owed reply waits for a commit. -/
theorem State.engineIdle_owedKept {s : State} (last : Bool)
    (h : ∀ o, s.pli.owed = some o → o.code = Request.commitProfile.code → ∀ k v, s.pst.engine ≠ .commit k v) :
    s.OwedKept (s.engineIdle last) := by
  have left : (s.engineIdle last).pli = s.pli ∧ (s.engineIdle last).wnc = s.wnc := by
    unfold State.engineIdle
    dsimp only
    split
    · exact ⟨by simp, by simp⟩
    · split <;> exact ⟨rfl, rfl⟩
  obtain ⟨pli, wnc⟩ := left
  refine ⟨fun o e => pli ▸ e, fun bt e => pli ▸ e, fun o e work => ?_⟩
  rw [pli] at e
  rcases work with ⟨code, k, v, commit⟩ | operation
  · exact absurd commit (h o e code k v)
  · exact .inr (wnc ▸ operation)

/-- The end of a commit completes the reply it owes, and no other (R162, R172). -/
theorem PitLink.commitEnded_owed (p : PitLink) (verified : Bool) :
    (p.commitEnded verified).batch = p.batch ∧
      ∀ o, (p.commitEnded verified).owed = some o → p.owed = some o ∧ o.code ≠ Request.commitProfile.code := by
  unfold PitLink.commitEnded PitLink.completeOwedCheck PitLink.completeOwed
  cases owed : p.owed with
  | none => simp [owed]
  | some w =>
    by_cases commit : w.code = Request.commitProfile.code
    · cases verified <;> simp [commit]
    · simp only [Option.map_some, Option.some.injEq, commit, if_false, owed, true_and]
      rintro o rfl
      exact ⟨rfl, commit⟩

theorem execCommitProgrammingEnd_owedKept (verified : Bool) {s t : State}
    (h : execCommitProgrammingEnd verified s = .next t) : s.OwedKept t := by
  unfold execCommitProgrammingEnd at h
  split at h
  next slot contents engine =>
    cases h
    obtain ⟨batch, owed⟩ := s.pli.commitEnded_owed verified
    refine State.OwedKept.trans ⟨fun o e => (owed o ?_).1, fun bt e => ?_, fun o e work => ?_⟩
      (State.engineIdle_owedKept _ fun o e code => absurd code (owed o ?_).2)
    · simpa using e
    · simpa [batch] using e
    · simpa [State.HasWork, Store.committed] using work
    · simpa using e
  next => cases h; exact .refl s

theorem execPackSaveEnd_owedKept (verified : Bool) {s t : State} (h : execPackSaveEnd verified s = .next t) :
    s.OwedKept t := by
  unfold execPackSaveEnd at h
  split at h
  next r engine =>
    cases h
    have link : (s.pli.saveEnded verified).owed = s.pli.owed ∧ (s.pli.saveEnded verified).batch = s.pli.batch := by
      unfold PitLink.saveEnded
      split <;> exact ⟨rfl, rfl⟩
    obtain ⟨owed, batch⟩ := link
    have saved : s.OwedKept ((s.setPst (s.pst.saved r verified)).setPli (s.pli.saveEnded verified)) :=
      .of_commit owed batch rfl fun _ _ => id
    refine saved.trans (State.engineIdle_owedKept _ fun _ _ _ k v commit => ?_)
    cases engine.symm.trans commit
  next => cases h; exact .refl s

theorem State.powerOn_owedKept (s : State) (cause : ResetCause) : s.OwedKept (s.powerOn cause) := .of_none rfl rfl

theorem State.requestReset_owedKept (s : State) : s.OwedKept s.requestReset := by
  unfold State.requestReset
  exact .of_none (by simp [PitLink.reset]) (by simp [PitLink.reset])

theorem State.setWorking_owedKept (s : State) (w : Settings) : s.OwedKept (s.setWorking w) := .of_eq rfl rfl rfl

theorem State.replaceWorking_owedKept (s : State) (w : Settings) : s.OwedKept (s.replaceWorking w) := .of_eq rfl rfl rfl

theorem State.writePattern_owedKept (s : State) (k : Fin 8) (l : List PatternStep) : s.OwedKept (s.writePattern k l) :=
  .of_eq rfl rfl rfl

theorem State.selectProfile_owedKept (s : State) (k : Fin 4) : s.OwedKept (s.selectProfile k) := by
  have loaded := s.replaceWorking_owedKept (s.pst.load k s.free)
  unfold State.selectProfile
  exact (loaded.trans (State.drawnIf_owedKept _ _)).trans (.of_eq rfl rfl rfl)

end Sys2Proof.Machine
end

section
/-! Request blocks and owed replies (R162), and then each command keeps an owed reply with its work (O10). -/

namespace Sys2Proof.Machine

/-! ### Answers and the entries they form (R160 to R162) -/

/-- An answer that keeps what is owed, and owes a reply of its own only with the work of its CODE in flight. -/
def Answer.OwesWork (s : State) (c : Byte) : Answer → Prop
  | .owes t => s.OwedKept t ∧ t.HasWork c
  | .good t _ | .check t _ | .busy t _ => s.OwedKept t

theorem Answer.OwesWork.good {s t : State} (h : s.OwedKept t) (c : Byte) (data : List Byte) :
    (Answer.good t data).OwesWork s c := h

theorem Answer.OwesWork.check {s t : State} (h : s.OwedKept t) (c : Byte) (k : SenseKind) :
    (Answer.check t k).OwesWork s c := h

theorem withParam_owesWork {α : Type} {s : State} {c : Byte} {p : Option α} {k : α → Answer}
    (h : ∀ a, (k a).OwesWork s c) : (withParam s p k).OwesWork s c := by
  cases p with
  | none => exact .check (.refl s) c _
  | some a => exact h a

theorem whenLast_owesWork {s : State} {c : Byte} {l : Bool} {a : Answer} (h : a.OwesWork s c) :
    (whenLast s l a).OwesWork s c := by
  cases l
  · exact .check (.refl s) c _
  · exact h

theorem whenStoreFree_owesWork {s : State} {c : Byte} {a : Answer} (h : s.pst.engine = .idle → a.OwesWork s c) :
    (whenStoreFree s a).OwesWork s c := by
  unfold whenStoreFree
  split
  next idle => exact h idle
  next => exact State.OwedKept.refl s

/-- The batch is one whose frame completed under the reply that is owed, if one is (R162). -/
def Batch.Covers (bt : Batch) (p : PitLink) : Prop := p.owed ≠ none → bt.restricted = true

theorem State.OwedHasWork.covers {s : State} (h : s.OwedHasWork) : s.pli.currentBatch.Covers s.pli := by
  obtain ⟨-, restricted⟩ := s.owedHasWork_iff.mp h
  intro owed
  unfold PitLink.currentBatch
  cases batch : s.pli.batch with
  | none => exact Option.isSome_iff_ne_none.mpr owed
  | some bt => exact restricted bt batch owed

/-- An entry formed in a batch that covers what was owed. -/
theorem State.OwedHasWork.entry {s t : State} {bt : Batch} (h : s.OwedHasWork) (covers : bt.Covers s.pli)
    (kept : s.OwedKept t) {p : PitLink} (owed : p.owed = t.pli.owed) (l : Bool) (e : ReplyEntry) :
    (t.setPli (p.answerBlock bt l e)).OwedHasWork := by
  obtain ⟨answered, -⟩ := p.answerBlock_kept bt l e
  obtain ⟨work, -⟩ := s.owedHasWork_iff.mp h
  refine (State.owedHasWork_iff _).mpr ⟨fun o ho => ?_, fun x hx ho => ?_⟩
  · have before : t.pli.owed = some o := owed ▸ answered ▸ ho
    exact kept.work o before (work o (kept.owed o before))
  · obtain ⟨o, still⟩ := Option.ne_none_iff_exists'.mp ho
    have before : s.pli.owed = some o := kept.owed o (owed ▸ answered ▸ still)
    have restricted := covers (by rw [before]; exact Option.some_ne_none o)
    have batch : (p.answerBlock bt l e).batch = some x := hx
    unfold PitLink.answerBlock at batch
    cases l <;> cases batch
    exact restricted

/-- A CHECK entry changes the sense record beside the batch (R164). -/
theorem State.OwedHasWork.checked {s t : State} {bt : Batch} (h : s.OwedHasWork) (covers : bt.Covers s.pli)
    (kept : s.OwedKept t) (l : Bool) (c : Byte) (e : Sense) (tail : List Byte) :
    (t.checkBlock bt l c e tail).OwedHasWork := h.entry (p := { t.pli with sense := e }) covers kept rfl l _

/-- A block that owes its reply leaves no batch in progress. -/
theorem State.HasWork.owes {t : State} {c : Byte} (work : t.HasWork c) (bt : Batch) :
    (t.setPli (t.pli.owe bt c)).OwedHasWork := by
  refine (State.owedHasWork_iff _).mpr ⟨fun o ho => ?_, fun x hx => ?_⟩
  · cases ho; exact work
  · cases hx

theorem State.executed_owedKept (s : State) (exempt : Bool) : s.OwedKept (s.executed exempt) := by
  cases exempt
  · exact s.restartParkTimer_owedKept
  · exact .refl s

theorem finishBlock_owed {s : State} {bt : Batch} (h : s.OwedHasWork) (covers : bt.Covers s.pli) (l : Bool) {c : Byte}
    (exempt : Bool) {a : Answer} (owes : a.OwesWork s c) : (finishBlock bt l c exempt a).OwedHasWork := by
  cases a with
  | good t data => exact (State.executed_owedKept _ _).holds (h.entry covers owes rfl l _)
  | owes t =>
    obtain ⟨-, work⟩ := owes
    exact (State.executed_owedKept _ _).holds (work.owes bt)
  | check t k => exact (State.executed_owedKept _ _).holds (h.checked covers owes l c _ _)
  | busy t k => exact h.entry covers owes rfl l _

section
variable {req : Option Request} {c : Byte} {m : Bool → State → Answer}

theorem runForm_owed {s : State} {bt : Batch} (h : s.OwedHasWork) (covers : bt.Covers s.pli) (l exempt : Bool)
    (owes : ∀ l t, (m l t).OwesWork t c) : (runForm bt l req c exempt m s).OwedHasWork := by
  refine finishBlock_owed h covers l exempt ?_
  split
  · exact .check (.refl s) c _
  · exact owes l s

theorem runReports_owed {s : State} {bt : Batch} (h : s.OwedHasWork) (covers : bt.Covers s.pli) (l : Bool)
    (owes : ∀ l t, (m l t).OwesWork t c) : (runReports bt l req c m s).OwedHasWork := by
  unfold runReports
  split
  next a rest _ =>
    have taken : s.OwedKept (s.setPli { s.pli with attention := rest }) := s.setPli_owedKept rfl rfl
    exact (State.restartParkTimer_owedKept _).holds (h.checked covers taken l c _ _)
  next d _ =>
    have taken : s.OwedKept (s.setPli { s.pli with deferred := none }) := s.setPli_owedKept rfl rfl
    exact (State.restartParkTimer_owedKept _).holds (h.checked covers taken l c _ _)
  next => exact runForm_owed h covers l false owes

theorem runNonExempt_owed {s : State} {bt : Batch} (h : s.OwedHasWork) (covers : bt.Covers s.pli) (l : Bool)
    (owes : ∀ l t, (m l t).OwesWork t c) : (runNonExempt bt l req c m s).OwedHasWork := by
  have woken := s.wake_owedKept.holds h
  have covered : bt.Covers s.wake.pli := s.wake_pli.symm ▸ covers
  unfold runNonExempt
  split
  · exact h.entry covers (.refl s) rfl l _
  split
  · exact h.entry covers (.refl s) rfl l _
  split
  · exact h.entry covers (.refl s) rfl l _
  split
  · exact runForm_owed woken covered l false owes
  · exact runReports_owed woken covered l owes

/-- A block keeps every owed reply with its work, and owes one of its own only for the work that it has begun. -/
theorem State.OwedHasWork.runBlock {s : State} (h : s.OwedHasWork) (b : Block) (owes : ∀ l t, (m l t).OwesWork t c) :
    (s.runBlock req c b m).OwedHasWork := by
  have covers := h.covers
  unfold State.runBlock
  dsimp only
  split
  · exact h.entry covers (.refl s) rfl _ _
  split
  · exact h.entry covers (.refl s) rfl _ _
  split
  · exact runForm_owed h covers _ _ owes
  · exact runNonExempt_owed h covers _ owes

end

/-! ### The meanings of the requests -/

/-- A new operation without IMMEDIATE is the work that its own reply waits for (R116, R162). -/
theorem operationTaken_owesWork {s t : State} {r : OpRecord} (free : s.wnc.record = none) (pli : t.pli = s.pli)
    (pst : t.pst = s.pst) (record : t.wnc.record = some r) :
    (operationTaken t r.immediate).OwesWork s r.kind.request.code := by
  have kept : s.OwedKept t := .created free pli pst
  cases immediate : r.immediate with
  | true => exact kept
  | false => exact ⟨kept, .inr ⟨r, record, immediate, rfl⟩⟩

/-- An operation that no case of R117 refuses finds no record (R117, case 1). -/
theorem operationRefusal_record {s : State} (h : operationRefusal s = none) : s.wnc.record = none := by
  unfold operationRefusal at h
  split at h
  · cases h
  split at h
  · cases h
  next free => simpa using free

theorem startOperation_owesWork (s : State) (r : OpRecord) (x : Option SenseKind) :
    (startOperation s r x).OwesWork s r.kind.request.code := by
  unfold startOperation
  split
  · exact .check (.refl s) _ _
  · exact .check (.refl s) _ _
  next _ taken => exact operationTaken_owesWork (operationRefusal_record taken) rfl rfl rfl

theorem assistHaulAnswer_owesWork (b : Block) (l : Bool) (s : State) :
    (assistHaulAnswer b l s).OwesWork s Request.winchAssistHaul.code := by
  refine withParam_owesWork fun n => whenLast_owesWork ?_
  split
  · exact .check (.refl s) _ _
  · exact .check (.refl s) _ _
  next taken _ =>
    exact operationTaken_owesWork (r := .new .assistHaul n 0 0 (isImmediate b)) (operationRefusal_record taken) rfl rfl rfl

/-- A commit begins on an idle engine, so a reply owed before waits for an operation; its own waits for it (R172). -/
theorem commitAnswer_owesWork (b : Block) (l : Bool) (s : State) :
    (commitAnswer b l s).OwesWork s Request.commitProfile.code := by
  refine withParam_owesWork fun _ => whenLast_owesWork (whenStoreFree_owesWork fun idle => ⟨?_, .inl ⟨rfl, _, _, rfl⟩⟩)
  exact .of_commit rfl rfl rfl fun k v commit => by cases idle.symm.trans commit

theorem reportStatusAnswer_owesWork (b : Block) (l : Bool) (s : State) (c : Byte) :
    (reportStatusAnswer b l s).OwesWork s c := by
  refine withParam_owesWork fun k => .good ?_ c _
  unfold State.reportDraws
  split
  · exact (s.drawnIf_owedKept _).trans (State.drawnIf_owedKept _ _)
  · exact .refl s

theorem requestSenseAnswer_owesWork (b : Block) (l : Bool) (s : State) (c : Byte) :
    (requestSenseAnswer b l s).OwesWork s c := by
  have link : s.pli.takeSense.2.owed = s.pli.owed ∧ s.pli.takeSense.2.batch = s.pli.batch := by
    unfold PitLink.takeSense
    repeat' split
    all_goals exact ⟨rfl, rfl⟩
  obtain ⟨owed, batch⟩ := link
  exact withParam_owesWork fun _ => .good (s.setPli_owedKept owed batch) c _

theorem claimAnswer_owesWork (b : Block) (l : Bool) (s : State) (c : Byte) : (claimAnswer b l s).OwesWork s c := by
  refine withParam_owesWork fun r => ?_
  split
  · exact .check (.refl s) c _
  · exact .good (s.setAu_owedKept _) c _
  · exact .good (s.give_owedKept r .pit) c _

theorem releaseAnswer_owesWork (b : Block) (l : Bool) (s : State) (c : Byte) : (releaseAnswer b l s).OwesWork s c := by
  refine withParam_owesWork fun r => ?_
  split
  · exact .check (.refl s) c _
  split
  · exact .check (.refl s) c _
  · exact .good (s.give_owedKept r _) c _

theorem setDriveAnswer_owesWork (b : Block) (l : Bool) (s : State) (c : Byte) : (setDriveAnswer b l s).OwesWork s c := by
  refine withParam_owesWork fun v => ?_
  split
  · exact .check (.refl s) c _
  · exact .good (s.setAu_owedKept _) c _

theorem setSteerAnswer_owesWork (b : Block) (l : Bool) (s : State) (c : Byte) : (setSteerAnswer b l s).OwesWork s c := by
  refine withParam_owesWork fun v => ?_
  split
  · exact .check (.refl s) c _
  split
  · exact .check (.refl s) c _
  · exact .good (s.setAu_owedKept _) c _

theorem setGearAnswer_owesWork (b : Block) (l : Bool) (s : State) (c : Byte) : (setGearAnswer b l s).OwesWork s c := by
  refine withParam_owesWork fun g => ?_
  split
  · exact .check (.refl s) c _
  · exact .good (s.setAu_owedKept _) c _

theorem freespoolAnswer_owesWork (b : Block) (l : Bool) (s : State) (c : Byte) :
    (freespoolAnswer b l s).OwesWork s c := by
  refine withParam_owesWork fun _ => ?_
  split
  · exact .check (.refl s) c _
  split
  · exact .check (.refl s) c _
  split
  · exact .check (.refl s) c _
  · exact .good (s.setAu_owedKept _) c _

theorem winchStopAnswer_owesWork (b : Block) (l : Bool) (s : State) (c : Byte) :
    (winchStopAnswer b l s).OwesWork s c := by
  have stopped : s.OwedKept s.winchStop := (s.endOperation_owedKept (some .byRequest)).trans (.of_eq rfl rfl rfl)
  exact withParam_owesWork fun _ => .good stopped c _

theorem writePart_owesWork (s : State) (k : Fin 8) (v : List Byte) (c : Byte) : (writePart s k v).OwesWork s c := by
  have staged (st : Option Staging) : s.OwedKept (s.stage st) := .of_eq rfl rfl rfl
  unfold writePart
  split
  · exact .check (staged none) c _
  split
  · exact .check (.refl s) c _
  dsimp only
  split
  · exact .good (staged _) c _
  split
  · exact .good (s.writePattern_owedKept k _) c _
  · exact .check (staged none) c _

theorem writeWhole_owesWork (s : State) (i : SettingId) (v : List Byte) (c : Byte) :
    (writeWhole s i v).OwesWork s c := by
  unfold writeWhole
  split
  · exact .check (.refl s) c _
  split
  · exact .check (.refl s) c _
  split
  · exact .good (s.setWorking_owedKept _) c _
  · exact .check (.refl s) c _

theorem writeSettingAnswer_owesWork (b : Block) (l : Bool) (s : State) (c : Byte) :
    (writeSettingAnswer b l s).OwesWork s c := by
  refine withParam_owesWork fun p => ?_
  split
  · exact writePart_owesWork s _ _ c
  · exact writeWhole_owesWork s _ _ c

theorem selectAnswer_owesWork (b : Block) (l : Bool) (s : State) (c : Byte) : (selectAnswer b l s).OwesWork s c := by
  refine withParam_owesWork fun k => whenStoreFree_owesWork fun _ => ?_
  split
  · exact .good (s.selectProfile_owedKept k) c _
  · exact .check (.refl s) c _

theorem parkAnswer_owesWork (b : Block) (l : Bool) (s : State) (c : Byte) : (parkAnswer b l s).OwesWork s c := by
  refine withParam_owesWork fun _ => ?_
  split
  · exact .good s.enterParked_owedKept c _
  · exact .check (.refl s) c _

theorem resetAnswer_owesWork (b : Block) (l : Bool) (s : State) (c : Byte) : (resetAnswer b l s).OwesWork s c := by
  refine withParam_owesWork fun _ => whenLast_owesWork ?_
  split
  · exact .good (.refl s) c _
  · exact .check (.refl s) c _

/-! ### Every command -/

/-- Every command keeps an owed reply with its work and the batch under it restricted. -/
theorem exec_owed (i : Instr) {s t : State} (h : exec i s = .next t) (owed : s.OwedHasWork) : t.OwedHasWork := by
  cases i with
  | powerOnReset => cases h; exact (s.powerOn_owedKept _).holds owed
  | brownoutReset => cases h; exact (s.powerOn_owedKept _).holds owed
  | scanCompletion r => cases h; exact (s.scan_owedKept r).holds owed
  | parkIdleTimerExpiry =>
    simp only [exec, execParkIdleTimerExpiry] at h
    split at h
    · cases h; exact owed
    split at h
    · cases h; exact s.restartParkTimer_owedKept.holds owed
    · cases h; exact s.enterParked_owedKept.holds owed
  | servoRefreshExpiry =>
    cases h
    exact (State.OwedKept.of_eq (t := s.steerBoundary) (by simp) (by simp) (by simp)).holds owed
  | driveUpdateExpiry =>
    simp only [exec, execDriveUpdateExpiry] at h
    split at h
    · cases h; exact owed
    · cases h; exact (State.OwedKept.of_eq (t := s.driveBoundary) (by simp) (by simp) (by simp)).holds owed
  | gateTimerExpiry =>
    simp only [exec, execGateTimerExpiry] at h
    split at h <;> (cases h; exact owed)
  | shiftServoRefresh =>
    simp only [exec, execShiftServoRefresh] at h
    split at h
    · cases h; exact owed
    · cases h; exact (State.OwedKept.of_eq (t := s.gearBoundary) (by simp) (by simp) (by simp)).holds owed
  | shiftTravelTimerExpiry => cases h; exact owed
  | winchUpdateExpiry level => exact (execWinchUpdateExpiry_owedKept level h).holds owed
  | backOffTimerExpiry =>
    have expired : s.OwedKept (s.setWnc s.wnc.backOffOver) :=
      s.setWnc_owedKept fun r record => by simp [Winch.backOffOver, record]
    simp only [exec, execBackOffTimerExpiry] at h
    split at h
    · cases h; exact expired.holds owed
    · cases h; exact owed
  | drumPulseArrival e =>
    simp only [exec, execDrumPulseArrival] at h
    split at h
    · cases h; exact s.drumPulse_owedKept.holds owed
    · cases h; exact owed
  | hookHomeArrival => exact (execHookHomeArrival_owedKept h).holds owed
  | winchBoundaryTimerExpiry =>
    simp only [exec, execWinchBoundaryTimerExpiry] at h
    split at h
    · cases h; exact ((s.setAu_owedKept _).trans (State.winchBoundary_owedKept _)).holds owed
    · cases h; exact owed
  | pitHoldDeadlineExpiry row =>
    simp only [exec, execPitHoldDeadlineExpiry] at h
    cases row with
    | drive =>
      dsimp only at h
      split at h
      · cases h; exact (State.OwedKept.of_eq (by simp) (by simp) (by simp)).holds owed
      · cases h; exact owed
    | steer =>
      dsimp only at h
      split at h
      · cases h; exact (State.OwedKept.of_eq (by simp) (by simp) (by simp)).holds owed
      · cases h; exact owed
  | lightStepExpiry => cases h; exact owed
  | channelFrame bytes =>
    simp only [exec, execChannelFrame] at h
    split at h
    · cases h; exact (s.takeFrame_owedKept _).holds owed
    · cases h; exact owed
  | rxlByteGapTimeout => cases h; exact owed
  | holdMarkExpiry => cases h; exact owed
  | failsafeMarkExpiry => cases h; exact ((s.setRxl_owedKept _).trans (State.reportLink_owedKept _ _)).holds owed
  | pitByteGapTimeout => cases h; exact owed
  | replyTransmit =>
    have link : s.pli.transmit.owed = s.pli.owed ∧ s.pli.transmit.batch = s.pli.batch := by
      unfold PitLink.transmit
      repeat' split
      all_goals exact ⟨rfl, rfl⟩
    obtain ⟨owing, batch⟩ := link
    cases h
    exact (s.setPli_owedKept owing batch).holds owed
  | resetRequestEffect =>
    simp only [exec, execResetRequestEffect] at h
    split at h
    · cases h; exact s.requestReset_owedKept.holds owed
    · cases h; exact owed
  | commitProgrammingEnd v => exact (execCommitProgrammingEnd_owedKept v h).holds owed
  | packSaveEnd v => exact (execPackSaveEnd_owedKept v h).holds owed
  | reportStatus b => cases h; exact owed.runBlock b fun l t => reportStatusAnswer_owesWork b l t _
  | requestSense b => cases h; exact owed.runBlock b fun l t => requestSenseAnswer_owesWork b l t _
  | identify b => cases h; exact owed.runBlock b fun _ t => withParam_owesWork fun _ => .good (.refl t) _ _
  | claim b => cases h; exact owed.runBlock b fun l t => claimAnswer_owesWork b l t _
  | release b => cases h; exact owed.runBlock b fun l t => releaseAnswer_owesWork b l t _
  | setDrive b => cases h; exact owed.runBlock b fun l t => setDriveAnswer_owesWork b l t _
  | setSteer b => cases h; exact owed.runBlock b fun l t => setSteerAnswer_owesWork b l t _
  | setGear b => cases h; exact owed.runBlock b fun l t => setGearAnswer_owesWork b l t _
  | setScene b =>
    cases h; exact owed.runBlock b fun _ t => withParam_owesWork fun _ => .good (t.setLtc_owedKept _) _ _
  | winchPayOut b | winchHaulIn b | winchHaulToTension b | winchHome b =>
    cases h
    exact owed.runBlock b fun _ t => withParam_owesWork fun _ => whenLast_owesWork (startOperation_owesWork t _ _)
  | winchAssistHaul b => cases h; exact owed.runBlock b (assistHaulAnswer_owesWork b)
  | winchFreespool b => cases h; exact owed.runBlock b fun l t => freespoolAnswer_owesWork b l t _
  | winchStop b => cases h; exact owed.runBlock b fun l t => winchStopAnswer_owesWork b l t _
  | abort b =>
    cases h
    exact owed.runBlock b fun _ t => withParam_owesWork fun _ => .good (t.endOperation_owedKept _) _ _
  | readSetting b => cases h; exact owed.runBlock b fun _ t => withParam_owesWork fun _ => .good (.refl t) _ _
  | writeSetting b => cases h; exact owed.runBlock b fun l t => writeSettingAnswer_owesWork b l t _
  | selectProfile b => cases h; exact owed.runBlock b fun l t => selectAnswer_owesWork b l t _
  | commitProfile b => cases h; exact owed.runBlock b (commitAnswer_owesWork b)
  | loadDefaults b =>
    cases h
    exact owed.runBlock b fun _ t => withParam_owesWork fun _ =>
      whenStoreFree_owesWork fun _ => .good (t.replaceWorking_owedKept _) _ _
  | park b => cases h; exact owed.runBlock b fun l t => parkAnswer_owesWork b l t _
  | reset b => cases h; exact owed.runBlock b fun l t => resetAnswer_owesWork b l t _
  | receiverFrameDiscard why => cases h; exact owed
  | pitFrameDiscard why => cases h; exact owed
  | unknownCode code b => cases h; exact owed.runBlock b fun _ t => .check (.refl t) _ _

/-- Settles O10: operation by operation on PLI, the program engine and the record, and then block by block, where a batch
under an owed reply is restricted from its first block on. -/
theorem owedReplyHasWorkKept : Obligations.OwedReplyHasWorkKept := by
  intro s t owed h
  unfold step at h
  split at h
  · cases h; exact owed
  next c rest _ =>
    have queued : s.OwedKept (s.setPending rest) := .of_eq rfl rfl rfl
    exact exec_owed c h (queued.holds owed)

end Sys2Proof.Machine
end

section
/-! The refusals of an operation request that the pit may make (R117). -/

namespace Sys2Proof.Machine

theorem startOperation_refused {s : State} {k : SenseKind} (h : operationRefusal s = some k) (r : OpRecord)
    (x : Option SenseKind) : startOperation s r x = .check s k := by
  simp [startOperation, h]

/-- What refuses every operation request refuses the one at hand, once its parameters and its place are good (R117). -/
theorem exec_operation_refused {s : State} {r : Request} {b : Block} {k : SenseKind} (hr : r ∈ operationRequests)
    (reaches : s.Reaches r) (good : GoodParams r b.params) (placed : s.WellPlaced r b)
    (refused : operationRefusal s = some k) : exec (r.command b) s = .next (s.checked b r k) := by
  obtain ⟨-, place⟩ := placed
  have last := State.MayOperate.last (place hr)
  have started (rec : OpRecord) (x : Option SenseKind) :
      whenLast s (lastUnlessImmediate b (isLastBlock s.pli.currentBatch b)) (startOperation s rec x) = .check s k := by
    rw [last, startOperation_refused refused]
    rfl
  cases r with
  | winchPayOut =>
    obtain ⟨lo, hi, hb, low, high⟩ := good
    refine congrArg Host.Outcome.next (reaches.run_check rfl ?_)
    rw [payOutAnswer, hb, wordParam_eq low high]
    exact started _ _
  | winchHaulIn =>
    obtain ⟨lo, hi, hb, low, high⟩ := good
    refine congrArg Host.Outcome.next (reaches.run_check rfl ?_)
    rw [haulInAnswer, hb, wordParam_eq low high]
    exact started _ _
  | winchHaulToTension =>
    have params := good
    obtain ⟨lo, hi, tlo, thi, n, hb, -⟩ := good
    rw [hb] at params
    refine congrArg Host.Outcome.next (reaches.run_check rfl ?_)
    rw [haulToTensionAnswer, hb, tensionParam_eq params]
    exact started _ _
  | winchHome =>
    have hb : b.params = [] := good
    refine congrArg Host.Outcome.next (reaches.run_check rfl ?_)
    rw [homeAnswer, hb]
    exact started _ _
  | winchAssistHaul =>
    obtain ⟨lo, hi, hb, low, high⟩ := good
    refine congrArg Host.Outcome.next (reaches.run_check rfl ?_)
    rw [assistHaulAnswer, hb, wordParam_eq low high, last]
    simp [withParam, whenLast, refused]
  | _ => simp [operationRequests] at hr

/-- A PAY_OUT that no other case refuses is refused with the position UNKNOWN (R117, case 5). -/
theorem exec_payOut_unknown {s : State} {b : Block} (reaches : s.Reaches .winchPayOut)
    (good : GoodParams .winchPayOut b.params) (place : s.MayOperate b) (free : s.OperationFree)
    (unknown : s.wnc.position = none) :
    exec (Request.winchPayOut.command b) s = .next (s.checked b .winchPayOut .positionUnknown) := by
  obtain ⟨lo, hi, hb, low, high⟩ := good
  refine congrArg Host.Outcome.next (reaches.run_check rfl ?_)
  rw [payOutAnswer, hb, wordParam_eq low high, place.last]
  simp [withParam, whenLast, startOperation, operationRefusal_free free, unknown]

/-- Settles O25: the chain of cases 1 to 4, read from the top, refuses every operation request alike, and case 5 is the
PAY_OUT's own. -/
theorem operationRefused : Obligations.OperationRefused := by
  intro r b s hr reaches good placed pit
  have refused {k : SenseKind} := exec_operation_refused (k := k) hr reaches good placed
  refine ⟨fun record => refused ?_, fun record radio => refused ?_, fun record radio jammed => refused ?_,
    fun record radio mode stage => refused ?_, fun free payOut unknown => ?_⟩
  · simp [operationRefusal, pit, Option.isSome_iff_ne_none.mpr record]
  · simp [operationRefusal, pit, record, radio]
  · simp [operationRefusal, pit, record, radio, jammed]
  · simp [operationRefusal, pit, record, radio, mode, stage]
  · subst payOut
    obtain ⟨-, place⟩ := placed
    exact exec_payOut_unknown reaches good (place hr) free unknown

end Sys2Proof.Machine
end

section
/-! A drum pulse while an operation is in flight (R104, R105, R116, R118 to R122). -/

namespace Sys2Proof.Machine

/-! ### The counts (R118, R120, R124) -/

theorem OpKind.dir_eq (k : OpKind) : k.dir = if k = .payOut then .out else .inward := by
  cases k <;> rfl

/-- The reserve is entered by a PAY_OUT within the line reserve, unless it has been warned of since the position was 0
(R120). -/
theorem Winch.entersReserve_iff (b : Winch) (r : OpRecord) (reserve : Nat) :
    b.entersReserve r reserve = true ↔
      r.kind = .payOut ∧ b.reserveWarned = false ∧ ∃ p, b.position = some p ∧ b.capacity - p ≤ reserve := by
  unfold Winch.entersReserve Winch.remaining
  cases b.position <;> simp [and_assoc]

/-- A PAY_OUT within the line reserve after this pulse (R120). -/
def Winch.InReserve (b : Winch) (r : OpRecord) (reserve : Nat) : Prop :=
  r.kind = .payOut ∧ ∃ p, b.positionAfter = some p ∧ b.capacity - p ≤ reserve

/-- The record after a pulse: the moved count, the recovery of a back-off, and whether its reply is to tell of the reserve
(R118, R120, R124). -/
def OpRecord.counted (r : OpRecord) (toward : WinchDir) (noted : Bool) : OpRecord :=
  if toward = (if r.kind = .payOut then .out else .inward) then
    { r with
      moved := r.moved + 1
      reserveNoted := noted
      recoveryAwaited := false
      recovered := if r.recoveryAwaited = true then r.recovered + 1 else r.recovered }
  else { r with moved := r.moved - 1, reserveNoted := noted }

theorem OpRecord.pulse_kind (r : OpRecord) (toward : WinchDir) : (r.pulse toward).kind = r.kind := by
  unfold OpRecord.pulse
  by_cases along : toward = r.kind.dir
  · rw [if_pos along]
  · rw [if_neg along]

theorem OpRecord.pulse_reserveNoted (r : OpRecord) (toward : WinchDir) :
    (r.pulse toward).reserveNoted = r.reserveNoted := by
  unfold OpRecord.pulse
  by_cases along : toward = r.kind.dir
  · rw [if_pos along]
  · rw [if_neg along]

/-- The model's count of a pulse is that of the statement. -/
theorem OpRecord.pulse_counted (r : OpRecord) (toward : WinchDir) (noted : Bool) :
    { r.pulse toward with reserveNoted := noted } = r.counted toward noted := by
  unfold OpRecord.pulse OpRecord.counted
  rw [OpKind.dir_eq]
  by_cases along : toward = if r.kind = .payOut then .out else .inward
  · rw [if_pos along, if_pos along]
  · rw [if_neg along, if_neg along]

section
variable (r : OpRecord) (toward : WinchDir) (noted : Bool)

@[simp] theorem OpRecord.counted_kind : (r.counted toward noted).kind = r.kind := by
  rw [← OpRecord.pulse_counted]
  exact r.pulse_kind toward
@[simp] theorem OpRecord.counted_target : (r.counted toward noted).target = r.target := by
  unfold OpRecord.counted
  by_cases along : toward = if r.kind = .payOut then .out else .inward
  · rw [if_pos along]
  · rw [if_neg along]
@[simp] theorem OpRecord.counted_reserveNoted : (r.counted toward noted).reserveNoted = noted := by
  rw [← OpRecord.pulse_counted]

end

/-- WNC with the line moved by a pulse (R104, R105, R120). -/
def Winch.lineMoved (b : Winch) : Winch :=
  { b with
    pulseSinceScan := true
    position := b.positionAfter
    reserveWarned := if b.positionAfter = some 0 then false else b.reserveWarned }

/-- The reserve is entered at a pulse that takes a PAY_OUT within the line reserve, at the position 0 or with no warning
since (R120). -/
theorem Winch.lineMoved_entersReserve (b : Winch) (r : OpRecord) (reserve : Nat) :
    b.lineMoved.entersReserve r reserve = true ↔
      b.InReserve r reserve ∧ (b.reserveWarned = false ∨ b.positionAfter = some 0) := by
  rw [Winch.entersReserve_iff]
  unfold Winch.lineMoved Winch.InReserve
  by_cases zero : b.positionAfter = some 0 <;> simp [zero, and_comm, and_left_comm]

/-- A pulse counts in the record and enters the reserve on the line as it has moved (R118, R120, R124). -/
theorem Winch.countPulse_some {b : Winch} {r : OpRecord} (h : b.record = some r) (reserve : Nat) :
    b.countPulse reserve = { b.lineMoved with
      stallTime := if b.pulseToward = r.kind.dir then 0 else b.stallTime
      reserveWarned := b.lineMoved.reserveWarned || b.lineMoved.entersReserve r reserve
      record := some (r.counted b.pulseToward (r.reserveNoted || b.lineMoved.entersReserve r reserve)) } := by
  have enters (c : Winch) (q : OpRecord) (kind : q.kind = r.kind) :
      c.entersReserve q reserve = c.entersReserve r reserve := by
    unfold Winch.entersReserve
    rw [kind]
  unfold Winch.countPulse
  rw [h]
  dsimp only
  rw [Winch.movedPosition_eq, Winch.pulseDir_eq, enters _ _ (r.pulse_kind _), r.pulse_reserveNoted, r.pulse_counted]
  rfl

/-- WNC after a pulse with an operation in flight, before its endings are judged (R104, R105, R118, R120, R124). -/
structure Winch.PulseCounted (b : Winch) (r : OpRecord) (noted : Bool) (reserve : Nat) (c : Winch) : Prop where
  record : c.record = some (r.counted b.pulseToward noted)
  position : c.position = b.positionAfter
  warned : c.reserveWarned = true ↔ b.reserveWarned = true ∧ b.positionAfter ≠ some 0 ∨ b.InReserve r reserve
  stall : c.stallTime = if b.pulseToward = (if r.kind = .payOut then .out else .inward) then 0 else b.stallTime
  seen : c.pulseSinceScan = true
  capacity : c.capacity = b.capacity
  hookHome : c.hookHome = b.hookHome

theorem Winch.countPulse_operation {b : Winch} {r : OpRecord} {noted : Bool} {reserve : Nat} (h : b.record = some r)
    (note : noted = true ↔ r.reserveNoted = true ∨ r.kind = .payOut ∧ ∃ p, b.positionAfter = some p ∧
      b.capacity - p ≤ reserve ∧ (b.reserveWarned = false ∨ p = 0)) :
    b.PulseCounted r noted reserve (b.countPulse reserve) := by
  have enters := b.lineMoved_entersReserve r reserve
  have noted_eq : (r.reserveNoted || b.lineMoved.entersReserve r reserve) = noted := by
    rw [Bool.eq_iff_iff, Bool.or_eq_true, enters, note]
    refine or_congr_right ⟨fun ⟨⟨payOut, p, after, left⟩, first⟩ => ⟨payOut, p, after, left, first.imp_right fun e => ?_⟩,
      fun ⟨payOut, p, after, left, first⟩ => ⟨⟨payOut, p, after, left⟩, first.imp_right fun e => by rw [after, e]⟩⟩
    exact Option.some.inj (after.symm.trans e)
  rw [Winch.countPulse_some h, noted_eq, OpKind.dir_eq]
  refine ⟨rfl, rfl, ?_, rfl, rfl, rfl, rfl⟩
  dsimp only
  rw [Bool.or_eq_true, enters]
  unfold Winch.lineMoved
  by_cases zero : b.positionAfter = some 0
  · simp [zero]
  · cases b.reserveWarned <;> simp [zero]

/-! ### The endings of a pulse (R119 to R122) -/

/-- A pulse ends a HOME with GOOD exactly when the hook was last seen home (R119, R121). -/
theorem Winch.pulseEnding_home {c : Winch} {q : OpRecord} (h : c.record = some q) (home : q.kind = .home) :
    c.pulseEnding = some none ↔ c.hookHome = true := by
  unfold Winch.pulseEnding Winch.countEnding Winch.capacityEnding Winch.hookEnding
  rw [h]
  by_cases below : q.moved < q.target <;> cases c.hookHome <;> simp [home, below, Ending.first]

/-- An operation below its count goes on, unless it is a PAY_OUT at the capacity or a haul with the hook home (R119). -/
theorem Winch.pulseEnding_eq_none {c : Winch} {q : OpRecord} (h : c.record = some q) (below : q.moved < q.target)
    (inside : q.kind = .payOut → ∀ p, c.position = some p → p < c.capacity)
    (away : c.hookHome = true → q.kind = .payOut) : c.pulseEnding = none := by
  have count : c.countEnding q = none := if_pos below
  have capacity : c.capacityEnding q = none := by
    refine Winch.capacityEnding_eq_none.mpr fun ⟨payOut, full⟩ => ?_
    unfold Winch.atCapacity at full
    cases position : c.position with
    | none => simp [position] at full
    | some p =>
      have := inside payOut p position
      simp [position] at full
      omega
  have hook : c.hookEnding q = none := by
    rw [Winch.hookEnding_eq_none]
    cases home : c.hookHome with
    | false => exact .inl rfl
    | true => exact .inr (away home)
  unfold Winch.pulseEnding
  rw [h]
  simp [count, capacity, hook, Ending.first]

/-- The count completes an operation with the outcome of its kind (R120 to R122). -/
theorem Winch.pulseEnding_reached {c : Winch} {q : OpRecord} {outcome : Option SenseKind} (h : c.record = some q)
    (reached : q.target ≤ q.moved)
    (outcomes : q.kind ∈ [OpKind.haulIn, .assistHaul] ∧ outcome = none ∨
      q.kind = .payOut ∧ outcome = (if q.reserveNoted then some .lineReserve else none) ∨
      q.kind = .haulToTension ∧ outcome = some .tensionNotReached ∨
      q.kind = .home ∧ outcome = (if c.hookHome then none else some .lineEnd)) : c.pulseEnding = some outcome := by
  have count : c.countEnding q = some outcome := by
    unfold Winch.countEnding
    rw [if_neg (Nat.not_lt.mpr reached)]
    rcases outcomes with ⟨kind, rfl⟩ | ⟨kind, rfl⟩ | ⟨kind, rfl⟩ | ⟨kind, rfl⟩
    · rcases List.mem_pair.mp kind with kind | kind <;> rw [kind]
    all_goals rw [kind]
  unfold Winch.pulseEnding
  rw [h]
  simp [count, Ending.first]

/-- Below the count a PAY_OUT ends at the capacity, and a haul with the hook home (R120, R121). -/
theorem Winch.pulseEnding_below {c : Winch} {q : OpRecord} {outcome : Option SenseKind} (h : c.record = some q)
    (below : q.moved < q.target)
    (outcomes : q.kind = .payOut ∧ c.position = some c.capacity ∧ outcome = some .lineEnd ∨
      q.kind = .home ∧ c.hookHome = true ∧ outcome = none ∨
      q.kind ∉ [OpKind.payOut, .home] ∧ c.hookHome = true ∧ outcome = some .hookHome) : c.pulseEnding = some outcome := by
  have count : c.countEnding q = none := if_pos below
  unfold Winch.pulseEnding
  rw [h]
  rcases outcomes with ⟨payOut, full, rfl⟩ | ⟨home, active, rfl⟩ | ⟨haul, active, rfl⟩
  · simp [count, Winch.capacityEnding, payOut, Winch.atCapacity_of_position full, Ending.first]
  · simp [count, Winch.capacityEnding, Winch.hookEnding, home, active, Ending.first]
  · cases kind : q.kind <;> simp [kind] at haul <;>
      simp [count, Winch.capacityEnding, Winch.hookEnding, kind, active, Ending.first]

/-- The line after an ending of a pulse: a HOME that ends GOOD leaves it at 0 (R121). -/
theorem State.takeEnding_line {s : State} {q : OpRecord} (h : s.wnc.record = some q) (e : Ending) :
    (s.takeEnding e).wnc.position = (if q.kind = .home ∧ e = some none then some 0 else s.wnc.position) ∧
      (s.takeEnding e).wnc.reserveWarned =
        (if q.kind = .home ∧ e = some none then false else s.wnc.reserveWarned) ∧
      (s.takeEnding e).wnc.pulseSinceScan = s.wnc.pulseSinceScan := by
  cases e with
  | none => simp [State.takeEnding]
  | some o =>
    show (s.endOperation o).wnc.position = _ ∧ (s.endOperation o).wnc.reserveWarned = _ ∧
      (s.endOperation o).wnc.pulseSinceScan = _
    rw [State.endOperation_wnc o h]
    by_cases good : q.kind = .home ∧ o = none <;> simp [Winch.homed, good, Winch.ended]

/-- An ending of a pulse removes the record, brakes the drum and reaches PLI (R119, R162, R163). -/
theorem State.endOperation_result {s : State} {q : OpRecord} (h : s.wnc.record = some q) (o : Option SenseKind) :
    (s.endOperation o).wnc.record = none ∧ (s.endOperation o).wnc.requested = 0 ∧ (s.endOperation o).wnc.present = 0 ∧
      (s.endOperation o).pli = s.pli.withResult q o := by
  rw [State.endOperation_wnc o h, State.endOperation_pli o h, PitLink.operationEnded_eq]
  unfold Winch.homed
  split <;> exact ⟨rfl, rfl, rfl, rfl⟩

/-- A counted pulse with nothing pending on WINCH. -/
theorem State.drumPulse_settled {s : State} (h : s.au.winch.pending = none) {c : Winch}
    (count : s.wnc.countPulse s.w.wnc.lineReserve = c) :
    s.drumPulse = ((s.setWnc c).takeEnding c.pulseEnding).showWinch := by
  have pending : ((s.setWnc c).takeEnding c.pulseEnding).showWinch.au.winch.pending = none := by
    cases c.pulseEnding with
    | none => exact h
    | some o =>
      show ((s.setWnc c).endOperation o).au.winch.pending = none
      rw [State.endOperation_winch]
      exact h
  unfold State.drumPulse
  rw [count]
  exact State.winchBoundary_none pending

/-- Settles O54: the counts first, then the endings by count, capacity and hook in their order. -/
theorem pulsesCountTheOperation : Obligations.PulsesCountTheOperation := by
  intro e r q noted s record edge pending note hq
  obtain rfl : q = r.counted s.wnc.pulseToward noted := hq
  obtain ⟨c, count⟩ : ∃ c, s.wnc.countPulse s.w.wnc.lineReserve = c := ⟨_, rfl⟩
  have counted : s.wnc.PulseCounted r noted s.w.wnc.lineReserve c := count ▸ Winch.countPulse_operation record note
  obtain ⟨held, position, warned, stall, seen, capacity, hook⟩ := counted
  have run : exec (.drumPulseArrival e) s = .next ((s.setWnc c).takeEnding c.pulseEnding).showWinch := by
    rw [← State.drumPulse_settled pending count]
    exact if_pos ((s.wnc.edge.counts_iff e).mpr edge)
  obtain ⟨line, warning, scan⟩ := State.takeEnding_line (s := s.setWnc c) held c.pulseEnding
  have home : (r.counted s.wnc.pulseToward noted).kind = .home ∧ c.pulseEnding = some none ↔
      r.kind = .home ∧ s.wnc.hookHome = true := by
    rw [OpRecord.counted_kind]
    exact and_congr_right fun home => (Winch.pulseEnding_home held (by simpa using home)).trans (by rw [hook])
  refine ⟨_, run, scan.trans seen, Winch.showNow_shownCurrent _, ?_, ?_, fun below inside away => ?_,
    fun outcome outcomes => ?_⟩
  · refine line.trans ?_
    simp only [home]
    rw [State.setWnc_wnc, position]
  · refine (Eq.congr_left warning).trans ?_
    simp only [home]
    rw [State.setWnc_wnc]
    by_cases good : r.kind = .home ∧ s.wnc.hookHome = true
    · simp [good]
    · rw [if_neg good, warned]
      simp only [good, not_false_eq_true, true_and]
      exact Iff.rfl
  · have goesOn : c.pulseEnding = none :=
      Winch.pulseEnding_eq_none held (by simpa using below) (by simpa [position, capacity] using inside)
        (by simpa [hook] using away)
    rw [goesOn]
    exact ⟨held, rfl, rfl, rfl, stall⟩
  · have ends : c.pulseEnding = some outcome := by
      rcases outcomes with ⟨reached, kinds⟩ | ⟨below, kinds⟩
      · exact Winch.pulseEnding_reached held (by simpa using reached) (by simpa [hook] using kinds)
      · exact Winch.pulseEnding_below held (by simpa using below) (by simpa [hook, position, capacity] using kinds)
    rw [ends]
    exact State.endOperation_result (s := s.setWnc c) held outcome

end Sys2Proof.Machine
end

section
/-! The winch update under the radio's speed (R109 to R113, R124, R125): what each stage does to a winch that holds no
operation record. -/

namespace Sys2Proof.Machine

/-! ### Stages 1 to 4 (R109, R110, R119) -/

/-- WNC after stages 1 to 3 of an update: what the update reads anew, the mode it finds, and what it keeps. -/
structure State.Reads (s : State) (level : Bool) (b : Winch) : Prop where
  mode : b.mode = findMode s.wnc s.bsv.power s.au.winch.holder s.au.image.winch
  capacity : b.capacity = s.pst.working.wnc.spoolCapacity
  hookHome : b.hookHome = level
  record : b.record = s.wnc.record
  requested : b.requested = s.wnc.requested
  present : b.present = s.wnc.present
  requestedDir : b.requestedDir = s.wnc.requestedDir
  stallTime : b.stallTime = s.wnc.stallTime
  backOff : b.backOff = s.wnc.backOff

theorem State.winchRead_reads (s : State) (level : Bool) : s.Reads level (s.winchRead level).wnc := by
  obtain ⟨position, warned, read⟩ := (s.wnc.applySettings s.bga.winch.grant s.w.wnc).readHook_eq level
  unfold State.winchRead
  rw [read]
  exact ⟨rfl, rfl, rfl, rfl, rfl, rfl, rfl, rfl, rfl⟩

/-- JAMMED stays without a WINCH STOP and without the radio's stick at neutral (R125). -/
theorem findMode_jammed {b : Winch} {holder : Holder} {e : WinchEntry} (jammed : b.mode = .jammed)
    (stop : b.stopMark = false) (stick : ¬(holder = .radio ∧ e.speed = 0)) :
    findMode b .active holder e = .jammed := by
  have stays : mayLeaveJam b holder e = false := by
    simpa [mayLeaveJam, stop] using stick
  simp [findMode, jammed, stays]

/-- JAMMED is left by a WINCH STOP or by the radio's stick at neutral (R125). -/
theorem jam_left {b : Winch} {holder : Holder} {e : WinchEntry}
    (leaves : b.mode ≠ .jammed ∨ b.stopMark = true ∨ holder = .radio ∧ e.speed = 0) :
    ¬(b.mode = .jammed ∧ mayLeaveJam b holder e = false) := by
  rintro ⟨jammed, stays⟩
  rcases leaves with other | stop | ⟨radio, neutral⟩
  · exact other jammed
  · simp [mayLeaveJam, stop] at stays
  · simp [mayLeaveJam, radio, neutral] at stays

/-- Without a record the radio's stick gives HOLD or DRIVEN (R110). -/
theorem findMode_speed {b : Winch} {holder : Holder} {v : Int} (record : b.record = none)
    (leaves : b.mode ≠ .jammed ∨ b.stopMark = true ∨ holder = .radio ∧ v = 0) :
    findMode b .active holder ⟨.speed, v⟩ = if v = 0 then .hold else .driven := by
  unfold findMode
  rw [if_neg (by decide), if_neg (jam_left leaves), if_neg (by decide), record]
  rfl

theorem State.winchEnd_none {s : State} (h : s.wnc.record = none) : s.winchEnd = s := by
  unfold State.winchEnd Winch.updateEnding
  rw [h]
  rfl

/-! ### Stage 5 (R111, R113) -/

/-- The winch with the duties, the directions and the bridge that stage 5 gives it in ACTIVE (R111). -/
def Winch.wound (b : Winch) (dir : WinchDir) (requested present : Nat) (drivenDir : WinchDir) : Winch :=
  { b with
    requested := requested
    present := present
    requestedDir := dir
    drivenDir := drivenDir
    bridge :=
      if 0 < present then (if dir = .out then .windOut else .windIn)
      else if b.mode = .freespool then .opened else .brake }

/-- The requested duty of an update: ramped from 0 at a change of direction or from rest (R111). -/
def Winch.duty (b : Winch) (t : WinchTarget) (ramp : Nat) : Nat :=
  ramped t.duty (if t.dir = b.requestedDir then b.requested else 0) ramp

/-- The present duty of an update (R111). -/
def Winch.granted (b : Winch) (t : WinchTarget) (ramp floor : Nat) : Nat :=
  windDuty (b.duty t ramp) b.grant floor b.cap (if t.dir = b.requestedDir ∧ b.requested ≠ 0 then b.present else 0) ramp

theorem Winch.request_eq (b : Winch) (t : WinchTarget) (ramp : Nat) :
    b.request t ramp = { b with
      requested := b.duty t ramp
      present := if t.dir = b.requestedDir ∧ b.requested ≠ 0 then b.present else 0
      requestedDir := t.dir } := by
  unfold Winch.request Winch.duty ramped
  by_cases same : t.dir = b.requestedDir
  · by_cases rest : b.requested = 0 <;> simp [same, rest]
  · simp [same]

theorem Winch.grantDuty_eq (b : Winch) (t : WinchTarget) (floor ramp : Nat) :
    (b.request t ramp).grantDuty floor ramp = { b with
      requested := b.duty t ramp
      present := b.granted t ramp floor
      requestedDir := t.dir } := by
  rw [Winch.request_eq]
  unfold Winch.grantDuty Winch.starved Winch.granted windDuty
  simp

/-- Stage 5 in ACTIVE, from the target of the mode (R111). -/
theorem Winch.drive_wound (b : Winch) (stage : Stage) (e : WinchEntry) (w : WncSettings) (floor : Nat) :
    ∃ drivenDir, b.drive stage .active e w floor =
      b.wound (b.target stage e w).dir (b.duty (b.target stage e w) w.winchRamp)
        (b.granted (b.target stage e w) w.winchRamp floor) drivenDir := by
  unfold Winch.drive
  rw [Winch.grantDuty_eq]
  exact ⟨_, rfl⟩

/-- Only DRIVEN and OPERATION have a target (R111). -/
theorem Winch.target_idle {b : Winch} (driven : b.mode ≠ .driven) (operation : b.mode ≠ .operation) (stage : Stage)
    (e : WinchEntry) (w : WncSettings) : b.target stage e w = ⟨0, b.requestedDir⟩ := by
  unfold Winch.target
  cases mode : b.mode <;> simp_all

/-- Without a target the drum is given no duty (R111). -/
theorem Winch.granted_idle (b : Winch) (dir : WinchDir) (ramp floor : Nat) :
    b.duty ⟨0, dir⟩ ramp = 0 ∧ b.granted ⟨0, dir⟩ ramp floor = 0 := by
  have duty : b.duty ⟨0, dir⟩ ramp = 0 := by
    unfold Winch.duty ramped
    split <;> simp
  refine ⟨duty, ?_⟩
  unfold Winch.granted windDuty
  rw [duty]
  simp

/-- The target of DRIVEN, toward the stick's side (R113). -/
theorem Winch.target_driven {b : Winch} {stage : Stage} {e : WinchEntry} (mode : b.mode = .driven)
    (works : stage ∈ [Stage.normal, .warn, .limit]) (displaced : e.speed ≠ 0) (w : WncSettings) :
    b.target stage e w = ⟨stickTarget e.speed b.position b.capacity b.hookHome, if 0 < e.speed then .out else .inward⟩ := by
  unfold Winch.target
  rw [mode, stage.winchWorks_iff.mpr works, if_pos rfl]
  dsimp only
  unfold Winch.drivenTarget stickTarget
  by_cases out : 0 < e.speed
  · simp [out, Int.not_lt.mpr (Int.le_of_lt out)]
  · have inward : e.speed < 0 := by omega
    simp [out, inward]

/-! ### Stage 6 (R124) -/

/-- The winch with the stall time that stage 6 counts (R124). -/
theorem Winch.measureStall_none {b : Winch} (h : b.record = none) (current jamCurrent : Nat) :
    b.measureStall current jamCurrent = { b with
      stallTime := if 200 ≤ b.present ∧ jamCurrent ≤ current ∧ b.backOff = false then min 300 (b.stallTime + 5) else 0 } := by
  unfold Winch.measureStall Winch.noTensionRun
  rw [h]
  simp

/-- Without a record stage 6 counts the stall time and judges the jam (R124). -/
theorem State.winchMeasure_none {s : State} (h : s.wnc.record = none) : s.winchMeasure =
    (s.setWnc (s.wnc.measureStall s.bsv.winchCurrent s.pst.working.wnc.jamCurrent)).judgeJam := by
  have tension : s.setWnc (s.wnc.measureTension s.bsv.winchCurrent) = s := by
    unfold Winch.measureTension
    rw [h]
    rfl
  have judged : s.judgeTension = s := by
    unfold State.judgeTension
    rw [h]
  have starvation (u : State) (idle : u.wnc.record = none) (floor : Nat) :
      u.setWnc (u.wnc.measureStarvation floor) = u := by
    unfold Winch.measureStarvation
    rw [idle]
    rfl
  have jam : (s.setWnc (s.wnc.measureStall s.bsv.winchCurrent s.pst.working.wnc.jamCurrent)).judgeJam.wnc.record =
      none := ((s.judgeStall_measuresTo _ _).idle h).1
  unfold State.winchMeasure
  dsimp only
  rw [tension, judged]
  exact starvation _ jam _

/-- A stall of less than 300 ms goes on (R124). -/
theorem State.judgeJam_short {s : State} (h : s.wnc.stallTime < 300) : s.judgeJam = s := if_neg (Nat.not_le.mpr h)

/-- In DRIVEN 300 ms of stall enter JAMMED at once (R124). -/
theorem State.judgeJam_driven {s : State} (h : 300 ≤ s.wnc.stallTime) (record : s.wnc.record = none) :
    s.judgeJam = s.setWnc s.wnc.jamDriven := by
  unfold State.judgeJam State.jam
  rw [if_pos h, record]

/-! ### The whole update (R109) -/

/-- The winch as stage 5 of an update leaves it, under the settings in force (R111). -/
def State.wound (s : State) (b : Winch) (t : WinchTarget) (drivenDir : WinchDir) : Winch :=
  b.wound t.dir (b.duty t s.pst.working.wnc.winchRamp)
    (b.granted t s.pst.working.wnc.winchRamp s.pst.working.bga.winchFloor) drivenDir

/-- The duties of stage 5 in the words of the state before the update, under the grant and the cap it has read (R111). -/
theorem State.Reads.wound_duties {s : State} {level : Bool} {b c : Winch} (reads : s.Reads level b)
    (reading : b.SameReading c) {duty requested present : Nat} {dir : WinchDir}
    (hreq : requested = ramped duty (if dir = s.wnc.requestedDir then s.wnc.requested else 0)
      s.pst.working.wnc.winchRamp)
    (hpres : present = windDuty requested c.grant s.pst.working.bga.winchFloor c.cap
      (if dir = s.wnc.requestedDir ∧ s.wnc.requested ≠ 0 then s.wnc.present else 0) s.pst.working.wnc.winchRamp)
    (drivenDir : WinchDir) :
    s.wound b ⟨duty, dir⟩ drivenDir = b.wound dir requested present drivenDir := by
  rw [reading.grant, reading.cap, ← reads.requestedDir, ← reads.requested, ← reads.present] at hpres
  rw [← reads.requestedDir, ← reads.requested] at hreq
  subst hreq hpres
  rfl

/-- An update in ACTIVE that stage 4 lets go on measures the drum as it has driven it (R109). -/
theorem State.winchJudged_active {s : State} {level : Bool} {b : Winch} (read : b = (s.winchRead level).wnc)
    (active : s.bsv.power = .active) (goesOn : (s.winchRead level).winchEnd = s.winchRead level) :
    ∃ drivenDir, s.winchJudged level =
      (s.setWnc (s.wound b (b.target s.bsv.stage s.au.image.winch s.pst.working.wnc) drivenDir)).winchMeasure := by
  obtain ⟨drivenDir, drive⟩ := b.drive_wound s.bsv.stage s.au.image.winch s.pst.working.wnc
    s.pst.working.bga.winchFloor
  refine ⟨drivenDir, ?_⟩
  unfold State.winchJudged State.wound
  rw [goesOn, ← drive, ← active, read]
  rfl

/-- Under a mode that drives nothing an update without a record rests the drum (R111, R124). -/
theorem State.winchJudged_still {s : State} {level : Bool} (record : s.wnc.record = none)
    (active : s.bsv.power = .active) {mode : WinchMode}
    (found : findMode s.wnc .active s.au.winch.holder s.au.image.winch = mode) (driven : mode ≠ .driven)
    (operation : mode ≠ .operation) :
    ∃ b drivenDir, s.Reads level b ∧
      s.winchJudged level = s.setWnc { b.wound b.requestedDir 0 0 drivenDir with stallTime := 0 } := by
  obtain ⟨b, read⟩ : ∃ b, b = (s.winchRead level).wnc := ⟨_, rfl⟩
  have reads : s.Reads level b := read ▸ s.winchRead_reads level
  have absent : b.record = none := reads.record.trans record
  obtain ⟨drivenDir, judged⟩ := State.winchJudged_active read active (State.winchEnd_none (read ▸ absent))
  have found' : b.mode = mode := reads.mode.trans (active ▸ found)
  rw [Winch.target_idle (found' ▸ driven) (found' ▸ operation)] at judged
  obtain ⟨duty, granted⟩ := b.granted_idle b.requestedDir s.pst.working.wnc.winchRamp s.pst.working.bga.winchFloor
  refine ⟨b, drivenDir, reads, ?_⟩
  unfold State.wound at judged
  rw [duty, granted, State.winchMeasure_none (by exact absent), Winch.measureStall_none (by exact absent),
    State.judgeJam_short (by simp [Winch.wound])] at judged
  exact judged

/-- The drum stalls at this update under a present duty (R124). -/
def State.Stalls (s : State) (present : Nat) : Prop :=
  200 ≤ present ∧ s.pst.working.wnc.jamCurrent ≤ s.bsv.winchCurrent ∧ s.wnc.backOff = false

/-- What an update under DRIVEN leaves, from the direction and the duties that stage 5 gives (R111, R124). -/
structure State.DrivenTo (s : State) (dir : WinchDir) (requested present : Nat) (t : State) : Prop where
  record : t.wnc.record = none
  au : t.au = s.au
  stc : t.stc = s.stc
  pli : t.pli = s.pli
  requestedDir : t.wnc.requestedDir = dir
  jams : s.Stalls present → 300 ≤ s.wnc.stallTime + 5 →
    t.wnc.mode = .jammed ∧ t.wnc.requested = 0 ∧ t.wnc.present = 0
  winds : ¬(s.Stalls present ∧ 300 ≤ s.wnc.stallTime + 5) →
    t.wnc.mode = .driven ∧ t.wnc.requested = requested ∧ t.wnc.present = present
  counts : s.Stalls present → s.wnc.stallTime + 5 < 300 → t.wnc.stallTime = s.wnc.stallTime + 5
  moves : ¬s.Stalls present → t.wnc.stallTime = 0

/-- Stage 6 of an update under DRIVEN (R124). -/
theorem State.Reads.drivenTo {s : State} {level : Bool} {b : Winch} (reads : s.Reads level b) (record : b.record = none)
    (mode : b.mode = .driven) (dir : WinchDir) (requested present : Nat) (drivenDir : WinchDir) :
    s.DrivenTo dir requested present (s.setWnc (b.wound dir requested present drivenDir)).winchMeasure := by
  obtain ⟨d, driven⟩ : ∃ d, d = b.wound dir requested present drivenDir := ⟨_, rfl⟩
  have idle : d.record = none := driven ▸ record
  have stallTime : d.stallTime = s.wnc.stallTime := driven ▸ reads.stallTime
  have backOff : d.backOff = s.wnc.backOff := driven ▸ reads.backOff
  have mode : d.mode = .driven := driven ▸ mode
  have toward : d.requestedDir = dir := driven ▸ rfl
  have asked : d.requested = requested := driven ▸ rfl
  have given : d.present = present := driven ▸ rfl
  have measured := d.measureStall_none idle s.bsv.winchCurrent s.pst.working.wnc.jamCurrent
  rw [stallTime, backOff, given] at measured
  rw [← driven, State.winchMeasure_none (by exact idle)]
  by_cases stalls : s.Stalls present
  · rw [if_pos (by exact stalls)] at measured
    by_cases long : 300 ≤ s.wnc.stallTime + 5
    · rw [State.judgeJam_driven (by simpa [measured] using long) (by exact idle)]
      exact ⟨idle, rfl, rfl, rfl, toward, fun _ _ => ⟨rfl, rfl, rfl⟩, fun goesOn => absurd ⟨stalls, long⟩ goesOn,
        fun _ short => absurd long (Nat.not_le.mpr short), fun moves => absurd stalls moves⟩
    · have short : min 300 (s.wnc.stallTime + 5) = s.wnc.stallTime + 5 := by omega
      rw [short] at measured
      rw [State.judgeJam_short (by exact (congrArg Winch.stallTime measured).trans_lt (Nat.not_le.mp long))]
      exact ⟨idle, rfl, rfl, rfl, toward, fun _ e => absurd e long, fun _ => ⟨mode, asked, given⟩,
        fun _ _ => congrArg Winch.stallTime measured, fun moves => absurd stalls moves⟩
  · rw [if_neg (by exact stalls)] at measured
    rw [State.judgeJam_short (by simp [measured])]
    exact ⟨idle, rfl, rfl, rfl, toward, fun e => absurd e stalls, fun _ => ⟨mode, asked, given⟩, fun e => absurd e stalls,
      fun _ => congrArg Winch.stallTime measured⟩

/-- Under DRIVEN an update winds toward the stick's side (R111, R113). -/
theorem State.winchJudged_driven {s : State} {level : Bool} {v : Int} (record : s.wnc.record = none)
    (active : s.bsv.power = .active) (works : s.bsv.stage ∈ [Stage.normal, .warn, .limit])
    (entry : s.au.image.winch = ⟨.speed, v⟩) (displaced : v ≠ 0)
    (found : findMode s.wnc .active s.au.winch.holder s.au.image.winch = .driven) {dir : WinchDir} {req pres : Nat}
    (hdir : dir = if 0 < v then .out else .inward)
    (hreq : req = ramped (stickTarget v (s.winchJudged level).wnc.position (s.winchJudged level).wnc.capacity level)
      (if dir = s.wnc.requestedDir then s.wnc.requested else 0) s.pst.working.wnc.winchRamp)
    (hpres : pres = windDuty req (s.winchJudged level).wnc.grant s.pst.working.bga.winchFloor
      (s.winchJudged level).wnc.cap (if dir = s.wnc.requestedDir ∧ s.wnc.requested ≠ 0 then s.wnc.present else 0)
      s.pst.working.wnc.winchRamp) :
    s.DrivenTo dir req pres (s.winchJudged level) := by
  obtain ⟨b, read⟩ : ∃ b, b = (s.winchRead level).wnc := ⟨_, rfl⟩
  have reads : s.Reads level b := read ▸ s.winchRead_reads level
  have reading : b.SameReading (s.winchJudged level).wnc := read ▸ (s.winchJudged_winchStep level).reading
  have absent : b.record = none := reads.record.trans record
  have stays : (s.winchRead level).winchEnd = s.winchRead level := State.winchEnd_none (read ▸ absent)
  have line : b.SameLine (s.winchJudged level).wnc := read ▸ stays ▸ s.winchJudged_line level
  obtain ⟨drivenDir, judged⟩ := State.winchJudged_active read active stays
  have mode : b.mode = .driven := reads.mode.trans (active ▸ found)
  have target := Winch.target_driven (e := s.au.image.winch) mode works (by rwa [entry]) s.pst.working.wnc
  rw [entry, reads.hookHome, ← line.position, ← reading.capacity, ← hdir] at target
  rw [entry, target, reads.wound_duties reading hreq hpres] at judged
  rw [judged]
  exact reads.drivenTo absent mode dir req pres drivenDir

/-- Settles O51: the mode that stage 3 finds, the target that it has, and the stall time of stage 6. -/
theorem winchFollowsStick : Obligations.WinchFollowsStick := by
  intro level v s record active works entry
  refine ⟨fun jammed stop stick => ?_, fun leaves => ?_⟩
  · have found : findMode s.wnc .active s.au.winch.holder s.au.image.winch = .jammed :=
      findMode_jammed jammed stop (by rwa [entry])
    obtain ⟨b, drivenDir, reads, judged⟩ := State.winchJudged_still (level := level) record active found nofun nofun
    have mode : b.mode = .jammed := reads.mode.trans (active ▸ found)
    refine ⟨_, exec_winchUpdateExpiry level s, ?_⟩
    rw [judged]
    exact ⟨mode, rfl, rfl, by simp [State.winchPost, Winch.wound, mode], rfl, rfl⟩
  have found : findMode s.wnc .active s.au.winch.holder s.au.image.winch = if v = 0 then .hold else .driven := by
    rw [entry]
    exact findMode_speed record leaves
  by_cases neutral : v = 0
  · rw [if_pos neutral] at found
    obtain ⟨b, drivenDir, reads, judged⟩ := State.winchJudged_still (level := level) record active found nofun nofun
    refine ⟨_, exec_winchUpdateExpiry level s, ?_⟩
    rw [judged]
    exact ⟨reads.record.trans record, rfl, rfl, rfl, fun _ => ⟨reads.mode.trans (active ▸ found), rfl, rfl, rfl⟩,
      fun displaced => absurd neutral displaced⟩
  · rw [if_neg neutral] at found
    have driven {dir : WinchDir} {req pres : Nat} := State.winchJudged_driven (level := level) (dir := dir) (req := req)
      (pres := pres) record active works entry neutral found
    obtain ⟨gone, au, stc, pli, -⟩ := driven rfl rfl rfl
    refine ⟨_, exec_winchUpdateExpiry level s, gone, au, stc, pli, fun e => absurd e neutral,
      fun _ dir req pres jam hdir hreq hpres hjam => ?_⟩
    obtain ⟨-, -, -, -, toward, jams, winds, counts, moves⟩ := driven hdir hreq hpres
    have declared : jam ↔ s.Stalls pres ∧ 300 ≤ s.wnc.stallTime + 5 := by
      rw [hjam, State.Stalls, and_assoc, and_assoc]
    rw [declared]
    refine ⟨toward, fun ⟨stalls, long⟩ => jams stalls long, fun goesOn => ?_⟩
    obtain ⟨mode, requested, present⟩ := winds goesOn
    refine ⟨mode, requested, present, ?_⟩
    by_cases stalls : s.Stalls pres
    · exact (counts stalls (Nat.not_le.mp fun long => goesOn ⟨stalls, long⟩)).trans (if_pos stalls).symm
    · exact (moves stalls).trans (if_neg stalls).symm

end Sys2Proof.Machine
end

section
/-! The winch update with an operation in flight (R109 to R111, R118, R119, R122 to R124). -/

namespace Sys2Proof.Machine

/-! ### Stages 1 to 5 -/

/-- An operation in flight is found OPERATION, unless JAMMED stays (R110). -/
theorem findMode_operation {b : Winch} {r : OpRecord} (record : b.record = some r)
    (leaves : b.mode ≠ .jammed ∨ b.stopMark = true) (holder : Holder) (e : WinchEntry) :
    findMode b .active holder e = .operation := by
  have left := jam_left (holder := holder) (e := e) (leaves.imp_right .inl)
  unfold findMode
  rw [if_neg (by decide), if_neg left, if_neg (by decide), record]
  rfl

/-- A PAY_OUT short of a capacity above 0 is short of it after stages 1 to 3, wherever the hook is (R106, R108). -/
theorem State.winchRead_short {s : State} (level : Bool) (capacity : 0 < s.pst.working.wnc.spoolCapacity)
    (short : s.wnc.position ≠ some s.pst.working.wnc.spoolCapacity) : (s.winchRead level).wnc.atCapacity = false := by
  have inside (p : Nat) (known : (s.winchRead level).wnc.position = some p) : p < (s.winchRead level).wnc.capacity := by
    rw [(s.winchRead_reads level).capacity]
    by_cases arrives : level = true ∧ s.wnc.hookHome = false
    · obtain ⟨rfl, before⟩ := arrives
      rw [(State.winchRead_arrived before).1] at known
      cases known
      exact capacity
    · have unarrived : level = false ∨ s.wnc.hookHome = true := by
        cases level <;> simp_all
      obtain ⟨before, within⟩ := ((State.winchRead_unarrived unarrived).2 p).mp known
      exact Nat.lt_of_le_of_ne within fun full => short (full ▸ before)
  unfold Winch.atCapacity
  cases known : (s.winchRead level).wnc.position with
  | none => rfl
  | some p => simpa using inside p known

/-- The target of an operation, in its direction or in the opposite one during a back-off (R118, R124). -/
theorem Winch.target_operation {b : Winch} {r : OpRecord} {stage : Stage} (mode : b.mode = .operation)
    (record : b.record = some r) (works : stage ∈ [Stage.normal, .warn, .limit])
    (short : r.kind = .payOut → b.atCapacity = false) (away : b.hookHome = true → r.kind = .payOut) (e : WinchEntry)
    (w : WncSettings) : b.target stage e w =
      ⟨w.operationDuty, if r.kind = .payOut ↔ b.backOff = false then .out else .inward⟩ := by
  have goes : ¬(r.kind = .payOut ∧ b.atCapacity = true ∨ r.kind ≠ .payOut ∧ r.kind ≠ .home ∧ b.hookHome = true) := by
    rintro (⟨payOut, full⟩ | ⟨haul, -, home⟩)
    · rw [short payOut] at full
      cases full
    · exact haul (away home)
  unfold Winch.target
  rw [mode, record, stage.winchWorks_iff.mpr works, if_pos rfl]
  dsimp only
  unfold Winch.operationTarget
  rw [if_neg goes]
  cases b.backOff <;> cases r.kind <;> rfl

/-- The bridge winds IN exactly when it drives toward the drum (R111). -/
theorem Winch.wound_windIn (b : Winch) (dir : WinchDir) (requested present : Nat) (drivenDir : WinchDir) :
    (b.wound dir requested present drivenDir).bridge = .windIn ↔ dir = .inward ∧ 0 < present := by
  unfold Winch.wound
  by_cases moves : 0 < present
  · cases dir <;> simp [moves]
  · by_cases free : b.mode = .freespool <;> simp [moves, free]

/-! ### Stage 6 (R122 to R124) -/

/-- The tension run that stage 6 measures counts updates under a duty IN and the set tension (R122). -/
theorem Winch.wound_tensionRun (b : Winch) (dir : WinchDir) (requested present : Nat) (drivenDir : WinchDir)
    (r : OpRecord) (current : Nat) : r.tensionRun (b.wound dir requested present drivenDir).bridge current =
      if r.kind = .haulToTension ∧ dir = .inward ∧ 0 < present ∧ r.tension ≤ current then r.run + 1 else 0 := by
  unfold OpRecord.tensionRun
  simp only [Winch.wound_windIn, and_assoc]

/-- The winch starves under a requested duty that the grant or the cap withholds (R123). -/
theorem Winch.wound_starved (b : Winch) (dir : WinchDir) (requested present : Nat) (drivenDir : WinchDir) {c : Winch}
    (reading : b.SameReading c) (floor : Nat) : (b.wound dir requested present drivenDir).starved floor = true ↔
      0 < requested ∧ (c.grant < floor ∨ c.cap = 0) := by
  rw [reading.grant, reading.cap]
  change (decide (0 < requested) && (decide (b.grant < floor) || decide (b.cap = 0))) = true ↔ _
  simp

/-- The stall time that an update counts, a tension run apart (R124). -/
def Winch.stallAfter (b : Winch) (current jamCurrent run : Nat) : Nat :=
  if 200 ≤ b.present ∧ jamCurrent ≤ current ∧ b.backOff = false ∧ run = 0 then b.stallTime + 5 else 0

/-- The stall time is held at 300 ms (R103, R124). -/
theorem Winch.measureStall_some {b : Winch} {q : OpRecord} (h : b.record = some q) (current jamCurrent : Nat) :
    b.measureStall current jamCurrent = { b with stallTime := min 300 (b.stallAfter current jamCurrent q.run) } := by
  unfold Winch.measureStall Winch.noTensionRun Winch.stallAfter
  rw [h]
  simp only [decide_eq_true_eq]
  split <;> rfl

/-- The starvation that an update measures (R123). -/
theorem Winch.measureStarvation_some {b : Winch} {q : OpRecord} (h : b.record = some q) (floor : Nat) :
    b.measureStarvation floor = { b with record := some { q with starvedFor := q.starvation (b.starved floor) } } := by
  unfold Winch.measureStarvation
  rw [h]

theorem Winch.measureStarvation_none {b : Winch} (h : b.record = none) (floor : Nat) : b.measureStarvation floor = b := by
  unfold Winch.measureStarvation
  rw [h]

section
variable {s : State} {r q : OpRecord}

/-- WNC and the record with the tension run measured (R122). -/
def State.tensed (s : State) (q : OpRecord) : State := s.setWnc { s.wnc with record := some q }

theorem State.measureTension_tensed (record : s.wnc.record = some r)
    (run : q = { r with run := r.tensionRun s.wnc.bridge s.bsv.winchCurrent }) :
    s.setWnc (s.wnc.measureTension s.bsv.winchCurrent) = s.tensed q := by
  unfold Winch.measureTension State.tensed
  rw [record, run]

/-- An ended operation leaves nothing for the rest of stage 6 to measure. -/
theorem State.endOperation_measured (record : s.wnc.record = some q) (o : Option SenseKind) (current jamCurrent : Nat) :
    (s.endOperation o).wnc.measureStall current jamCurrent = (s.endOperation o).wnc := by
  have rests : (s.endOperation o).wnc.present = 0 ∧ (s.endOperation o).wnc.stallTime = 0 := by
    rw [State.endOperation_wnc o record]
    unfold Winch.homed
    split <;> exact ⟨rfl, rfl⟩
  obtain ⟨present, stallTime⟩ := rests
  rw [Winch.measureStall_none (s.endOperation_record o), if_neg (by omega), ← stallTime]

/-- The tension run completes a HAUL_TO_TENSION with GOOD (R122). -/
theorem State.winchMeasure_settled (record : s.wnc.record = some r)
    (run : q = { r with run := r.tensionRun s.wnc.bridge s.bsv.winchCurrent }) (settled : q.settled = true) :
    s.winchMeasure = (s.tensed q).endOperation none := by
  have held : (s.tensed q).wnc.record = some q := rfl
  have judged : (s.tensed q).judgeTension = (s.tensed q).endOperation none := by
    unfold State.judgeTension
    rw [held]
    exact if_pos settled
  have measured := State.endOperation_measured held none
  have rests : ((s.tensed q).endOperation none).wnc.stallTime < 300 := by
    rw [State.endOperation_wnc none held]
    unfold Winch.homed
    split <;> exact Nat.zero_lt_succ 299
  have goes : (((s.tensed q).endOperation none).setWnc ((s.tensed q).endOperation none).wnc).judgeJam =
      (s.tensed q).endOperation none := State.judgeJam_short rests
  unfold State.winchMeasure
  dsimp only
  rw [State.measureTension_tensed record run, judged, measured, goes,
    Winch.measureStarvation_none (State.endOperation_record _ _)]
  rfl

/-- The tension run and the stall time measured (R122, R124). -/
def State.stalled (s : State) (q : OpRecord) : State :=
  s.setWnc { s.wnc with
    record := some q
    stallTime := min 300 (s.wnc.stallAfter s.bsv.winchCurrent s.pst.working.wnc.jamCurrent q.run) }

/-- Otherwise the stall time and its jam are judged, and then the starvation is measured (R123, R124, entry 31). -/
theorem State.winchMeasure_unsettled (record : s.wnc.record = some r)
    (run : q = { r with run := r.tensionRun s.wnc.bridge s.bsv.winchCurrent }) (settled : q.settled = false) :
    s.winchMeasure = (s.stalled q).judgeJam.setWnc
      ((s.stalled q).judgeJam.wnc.measureStarvation s.pst.working.bga.winchFloor) := by
  have held : (s.tensed q).wnc.record = some q := rfl
  have judged : (s.tensed q).judgeTension = s.tensed q := by
    unfold State.judgeTension
    rw [held]
    exact if_neg (by rw [settled]; decide)
  have stalled : (s.tensed q).setWnc ((s.tensed q).wnc.measureStall (s.tensed q).bsv.winchCurrent
      (s.tensed q).w.wnc.jamCurrent) = s.stalled q := by
    rw [Winch.measureStall_some held]
    rfl
  have pst : (s.stalled q).judgeJam.pst = s.pst := by
    unfold State.judgeJam State.jam
    repeat' split
    all_goals simp [State.stalled]
  unfold State.winchMeasure
  dsimp only
  rw [State.measureTension_tensed record run, judged, stalled]
  unfold State.w
  rw [pst]

variable (record : s.wnc.record = some r)
  (run : q = { r with run := r.tensionRun s.wnc.bridge s.bsv.winchCurrent }) (settled : q.settled = false)
include record run settled

/-- A stall of less than 300 ms lets the operation go on (R124). -/
theorem State.winchMeasure_goesOn
    (short : s.wnc.stallAfter s.bsv.winchCurrent s.pst.working.wnc.jamCurrent q.run < 300) :
    s.winchMeasure = s.setWnc { s.wnc with
      stallTime := s.wnc.stallAfter s.bsv.winchCurrent s.pst.working.wnc.jamCurrent q.run
      record := some { q with starvedFor := q.starvation (s.wnc.starved s.pst.working.bga.winchFloor) } } := by
  have counted : min 300 (s.wnc.stallAfter s.bsv.winchCurrent s.pst.working.wnc.jamCurrent q.run) =
      s.wnc.stallAfter s.bsv.winchCurrent s.pst.working.wnc.jamCurrent q.run := by omega
  have goes : (s.stalled q).judgeJam = s.stalled q :=
    State.judgeJam_short (by unfold State.stalled; rw [counted]; exact short)
  rw [State.winchMeasure_unsettled record run settled, goes, Winch.measureStarvation_some rfl]
  unfold State.stalled
  rw [counted]
  rfl

/-- A jam with a retry left starts a back-off (R124). -/
theorem State.winchMeasure_retries
    (long : 300 ≤ s.wnc.stallAfter s.bsv.winchCurrent s.pst.working.wnc.jamCurrent q.run) (left : q.retries < 3) :
    s.winchMeasure = s.setWnc { s.wnc with
      stallTime := 0
      backOff := true
      record := some { q with
        retries := q.retries + 1
        starvedFor := q.starvation (s.wnc.starved s.pst.working.bga.winchFloor) } } := by
  have jams : (s.stalled q).judgeJam = (s.stalled q).setWnc ((s.stalled q).wnc.jamRetry q) := by
    have declared : 300 ≤ (s.stalled q).wnc.stallTime := Nat.le_min.mpr ⟨le_rfl, long⟩
    have held : (s.stalled q).wnc.record = some q := rfl
    unfold State.judgeJam State.jam
    rw [if_pos declared, held]
    exact if_pos left
  rw [State.winchMeasure_unsettled record run settled, jams, Winch.measureStarvation_some rfl]
  rfl

/-- The fourth jam ends the operation in JAMMED (R124). -/
theorem State.winchMeasure_fails
    (long : 300 ≤ s.wnc.stallAfter s.bsv.winchCurrent s.pst.working.wnc.jamCurrent q.run) (spent : 3 ≤ q.retries) :
    s.winchMeasure = ((s.stalled q).setWnc { (s.stalled q).wnc with mode := .jammed }).endOperation
      (some .winchJammed) := by
  have jams : (s.stalled q).judgeJam = ((s.stalled q).setWnc { (s.stalled q).wnc with mode := .jammed }).endOperation
      (some .winchJammed) := by
    have declared : 300 ≤ (s.stalled q).wnc.stallTime := Nat.le_min.mpr ⟨le_rfl, long⟩
    have held : (s.stalled q).wnc.record = some q := rfl
    unfold State.judgeJam State.jam
    rw [if_pos declared, held]
    exact if_neg (Nat.not_lt.mpr spent)
  rw [State.winchMeasure_unsettled record run settled, jams, Winch.measureStarvation_none (State.endOperation_record _ _)]
  rfl

end

/-! ### The whole update (R109) -/

/-- An operation that no ending of stage 4 ends winds the drum, and stage 6 measures it (R109, R111, R118). -/
theorem State.winchJudged_operation {s : State} {level : Bool} {r : OpRecord} (record : s.wnc.record = some r)
    (active : s.bsv.power = .active) (works : s.bsv.stage ∈ [Stage.normal, .warn, .limit])
    (leaves : s.wnc.mode ≠ .jammed ∨ s.wnc.stopMark = true) (away : level = true → r.kind = .payOut)
    (line : r.kind = .payOut → 0 < s.pst.working.wnc.spoolCapacity ∧
      s.wnc.position ≠ some s.pst.working.wnc.spoolCapacity)
    (starving : ∀ x, r.starvedFor = some x → x < 2000) {dir : WinchDir} {req pres : Nat}
    (hdir : dir = if r.kind = .payOut ↔ s.wnc.backOff = false then .out else .inward)
    (hreq : req = ramped s.pst.working.wnc.operationDuty (if dir = s.wnc.requestedDir then s.wnc.requested else 0)
      s.pst.working.wnc.winchRamp)
    (hpres : pres = windDuty req (s.winchJudged level).wnc.grant s.pst.working.bga.winchFloor
      (s.winchJudged level).wnc.cap (if dir = s.wnc.requestedDir ∧ s.wnc.requested ≠ 0 then s.wnc.present else 0)
      s.pst.working.wnc.winchRamp) :
    ∃ b drivenDir, s.Reads level b ∧ b.mode = .operation ∧ b.SameReading (s.winchJudged level).wnc ∧
      s.winchJudged level = (s.setWnc (b.wound dir req pres drivenDir)).winchMeasure := by
  obtain ⟨b, read⟩ : ∃ b, b = (s.winchRead level).wnc := ⟨_, rfl⟩
  have reads : s.Reads level b := read ▸ s.winchRead_reads level
  have reading : b.SameReading (s.winchJudged level).wnc := read ▸ (s.winchJudged_winchStep level).reading
  have held : b.record = some r := reads.record.trans record
  have mode : b.mode = .operation := reads.mode.trans (active ▸ findMode_operation record leaves _ _)
  have short (payOut : r.kind = .payOut) : b.atCapacity = false := by
    obtain ⟨capacity, position⟩ := line payOut
    exact read ▸ s.winchRead_short level capacity position
  have home (active : b.hookHome = true) : r.kind = .payOut := away (reads.hookHome.symm.trans active)
  have goesOn : (s.winchRead level).winchEnd = s.winchRead level := by
    have lit : ¬(s.bsv.stage = .cut ∨ s.bsv.stage = .fault ∨ s.bsv.power = .shutdown) := by
      rw [active]
      simp only [List.mem_cons, List.not_mem_nil, or_false] at works
      rcases works with stage | stage | stage <;> simp [stage]
    have ending : b.updateEnding s.bsv.stage s.bsv.power = none := by
      rw [Winch.updateEnding_eq_none held]
      refine ⟨lit, ?_, fun ⟨payOut, full⟩ => ?_, starving⟩
      · cases hook : b.hookHome with
        | false => exact .inl rfl
        | true => exact .inr (home hook)
      · rw [short payOut] at full
        cases full
    rw [read] at ending
    exact congrArg (s.winchRead level).takeEnding ending
  obtain ⟨drivenDir, judged⟩ := State.winchJudged_active read active goesOn
  rw [Winch.target_operation mode held works short home, reads.backOff, ← hdir,
    reads.wound_duties reading hreq hpres] at judged
  exact ⟨b, drivenDir, reads, mode, reading, judged⟩

/-! ### What an ending in stage 6 leaves (R119, R162, R163) -/

theorem PitLink.withResult_good_immediate {p : PitLink} {q : OpRecord} (immediate : q.immediate = true) :
    p.withResult q none = p := by
  unfold PitLink.withResult
  rw [immediate]

theorem PitLink.withResult_good_owed {p : PitLink} {q : OpRecord} {o : Owed} (immediate : q.immediate = false)
    (owed : p.owed = some o) : p.withResult q none = { p with
      owed := none
      ready := p.ready ++ [⟨o.entries ++ [⟨o.code, .good, q.resultBytes⟩], true⟩] } := by
  unfold PitLink.withResult
  rw [immediate, owed]

/-- Without IMMEDIATE an outcome other than GOOD is the sense of the owed reply (R162). -/
theorem PitLink.withResult_check_owed {p : PitLink} {q : OpRecord} {k : SenseKind} (immediate : q.immediate = false)
    (owed : p.owed ≠ none) : (p.withResult q (some k)).owed = none ∧ (p.withResult q (some k)).sense = q.resultSense k := by
  obtain ⟨o, held⟩ := Option.ne_none_iff_exists'.mp owed
  unfold PitLink.withResult
  rw [immediate, held]
  exact ⟨rfl, rfl⟩

/-- Under IMMEDIATE an outcome other than GOOD fills an empty deferred slot (R163). -/
theorem PitLink.withResult_check_deferred {p : PitLink} {q : OpRecord} {k : SenseKind} (immediate : q.immediate = true)
    (free : p.deferred = none) :
    (p.withResult q (some k)).deferred = some ⟨q.kind.code, q.resultSense k, q.moved, q.recovered, false⟩ := by
  unfold PitLink.withResult
  rw [immediate]
  dsimp only
  rw [free]

theorem OpRecord.resultSense_kind (q : OpRecord) (k : SenseKind) : (q.resultSense k).kind = k := by
  unfold OpRecord.resultSense
  split <;> rfl

theorem OpRecord.starvation_eq (q : OpRecord) (starved : Bool) : q.starvation starved =
    if starved then some (match q.starvedFor with | none => 0 | some x => x + 5) else none := by
  unfold OpRecord.starvation
  cases q.starvedFor <;> rfl

theorem OpRecord.settled_iff (q : OpRecord) : q.settled = true ↔ q.kind = .haulToTension ∧ q.settle ≤ q.run := by
  simp [OpRecord.settled]

/-- An ending in ACTIVE brakes the drum, ends a back-off and keeps the mode (R110, R119). -/
theorem State.endOperation_brakes {s : State} {q : OpRecord} (record : s.wnc.record = some q)
    (active : s.bsv.power = .active) (o : Option SenseKind) : (s.endOperation o).wnc.bridge = .brake ∧
      (s.endOperation o).wnc.backOff = false ∧ (s.endOperation o).wnc.mode = s.wnc.mode := by
  rw [State.endOperation_wnc o record, active, Winch.ended_active]
  unfold Winch.homed
  split <;> exact ⟨rfl, rfl, rfl⟩

section
variable {u : State} {r q : OpRecord} (record : u.wnc.record = some r)
  (run : q = { r with run := r.tensionRun u.wnc.bridge u.bsv.winchCurrent })
include record run

/-- A settled tension run ends the operation with GOOD and the drum at rest (R119, R122). -/
theorem State.winchMeasure_completes (active : u.bsv.power = .active) (settled : q.settled = true) :
    u.winchMeasure.wnc.record = none ∧ u.winchMeasure.wnc.present = 0 ∧ u.winchMeasure.wnc.requested = 0 ∧
      u.winchMeasure.wnc.bridge = .brake ∧ u.winchMeasure.pli = u.pli.withResult q none := by
  have held : (u.tensed q).wnc.record = some q := rfl
  obtain ⟨ended, requested, present, pli⟩ := State.endOperation_result held none
  obtain ⟨brake, -, -⟩ := State.endOperation_brakes held active none
  rw [State.winchMeasure_settled record run settled]
  exact ⟨ended, present, requested, brake, pli⟩

variable (unsettled : q.settled = false) {stall : Nat}
  (counted : u.wnc.stallAfter u.bsv.winchCurrent u.pst.working.wnc.jamCurrent q.run = stall)
include unsettled counted

/-- Short of the fourth jam the operation goes on, at a jam with a back-off (R123, R124). -/
theorem State.winchMeasure_continues (goesOn : stall < 300 ∨ q.retries < 3) :
    u.winchMeasure = u.setWnc { u.wnc with
      stallTime := if stall < 300 then stall else 0
      backOff := if stall < 300 then u.wnc.backOff else true
      record := some { q with
        retries := if stall < 300 then q.retries else q.retries + 1
        starvedFor := q.starvation (u.wnc.starved u.pst.working.bga.winchFloor) } } := by
  subst counted
  by_cases short : u.wnc.stallAfter u.bsv.winchCurrent u.pst.working.wnc.jamCurrent q.run < 300
  · simp only [if_pos short]
    exact State.winchMeasure_goesOn record run unsettled short
  · simp only [if_neg short]
    exact State.winchMeasure_retries record run unsettled (Nat.not_lt.mp short) (goesOn.resolve_left short)

/-- The fourth jam leaves the winch JAMMED with the drum at rest (R119, R124). -/
theorem State.winchMeasure_jams (active : u.bsv.power = .active) (long : 300 ≤ stall) (spent : 3 ≤ q.retries) :
    u.winchMeasure.wnc.mode = .jammed ∧ u.winchMeasure.wnc.record = none ∧ u.winchMeasure.wnc.requested = 0 ∧
      u.winchMeasure.wnc.present = 0 ∧ u.winchMeasure.wnc.bridge = .brake ∧ u.winchMeasure.wnc.backOff = false ∧
      u.winchMeasure.pli = u.pli.withResult q (some .winchJammed) := by
  have held : ((u.stalled q).setWnc { (u.stalled q).wnc with mode := .jammed }).wnc.record = some q := rfl
  obtain ⟨ended, requested, present, pli⟩ := State.endOperation_result held (some .winchJammed)
  obtain ⟨brake, backOff, jammed⟩ := State.endOperation_brakes held active (some .winchJammed)
  rw [State.winchMeasure_fails record run unsettled (counted.symm ▸ long) spent]
  exact ⟨jammed, ended, requested, present, brake, backOff, pli⟩

end

/-- Settles O52: stage 5 winds the drum, and stage 6 judges the tension run, the jam and the starvation in this order. -/
theorem operationIsDriven : Obligations.OperationIsDriven := by
  intro level r s record active works leaves away line starving
  refine ⟨_, exec_winchUpdateExpiry level s, fun dir req pres run stall starved hdir hreq hpres hstarved hrun hstall => ?_⟩
  obtain ⟨b, drivenDir, reads, mode, reading, judged⟩ := State.winchJudged_operation (level := level) record active works
    leaves away line starving hdir hreq hpres
  obtain ⟨u, driven⟩ : ∃ u, u = s.setWnc (b.wound dir req pres drivenDir) := ⟨_, rfl⟩
  obtain ⟨q, ran⟩ : ∃ q, q = { r with run := run } := ⟨_, rfl⟩
  have held : u.wnc.record = some r := driven ▸ reads.record.trans record
  have lit : u.bsv.power = .active := driven ▸ active
  have measured : q = { r with run := r.tensionRun u.wnc.bridge u.bsv.winchCurrent } := by
    rw [ran, hrun, driven, State.setWnc_wnc, b.wound_tensionRun]
    rfl
  have counted : u.wnc.stallAfter u.bsv.winchCurrent u.pst.working.wnc.jamCurrent q.run = stall := by
    rw [hstall, ran, driven, ← reads.backOff, ← reads.stallTime]
    rfl
  have starves : u.wnc.starved u.pst.working.bga.winchFloor = starved := by
    rw [driven, State.setWnc_wnc]
    exact Bool.eq_iff_iff.mpr ((b.wound_starved dir req pres drivenDir reading _).trans hstarved.symm)
  have settled : q.settled = true ↔ r.kind = .haulToTension ∧ r.settle ≤ run := ran ▸ OpRecord.settled_iff _
  have pli : u.pli = s.pli := driven ▸ rfl
  rw [judged, ← driven]
  refine ⟨fun settles => ?_, fun unsettles => ?_⟩
  · obtain ⟨ended, present, requested, brake, result⟩ := State.winchMeasure_completes held measured lit
      (settled.mpr settles)
    rw [pli] at result
    refine ⟨ended, present, requested, brake, fun immediate => ?_, fun o immediate owed => ?_⟩
    · exact result.trans (PitLink.withResult_good_immediate (ran ▸ immediate))
    · refine result.trans ((PitLink.withResult_good_owed (ran ▸ immediate) owed).trans ?_)
      rw [ran]
      rfl
  have unsettled : q.settled = false := Bool.eq_false_iff.mpr fun ends => unsettles (settled.mp ends)
  refine ⟨fun goesOn => ?_, fun long spent => ?_⟩
  · rw [State.winchMeasure_continues held measured unsettled counted (ran ▸ goesOn), starves, OpRecord.starvation_eq,
      driven, ran]
    exact ⟨mode, rfl, rfl, rfl, rfl, rfl, rfl, rfl, rfl, by rw [← reads.backOff]; rfl⟩
  · obtain ⟨jammed, ended, requested, present, brake, backOff, result⟩ :=
      State.winchMeasure_jams held measured unsettled counted lit long (ran ▸ spent)
    rw [pli] at result
    refine ⟨jammed, ended, requested, present, brake, backOff, fun immediate owed => ?_, fun immediate free => ?_⟩
    · obtain ⟨answered, sense⟩ := PitLink.withResult_check_owed (q := q) (k := .winchJammed) (ran ▸ immediate) owed
      refine ⟨(congrArg _ result).trans answered, (congrArg _ result).trans (sense.trans ?_)⟩
      rw [ran]
      rfl
    · have deferred := PitLink.withResult_check_deferred (q := q) (k := .winchJammed) (ran ▸ immediate) free
      exact ⟨_, (congrArg _ result).trans deferred, q.resultSense_kind _, by rw [ran], by rw [ran]⟩

end Sys2Proof.Machine
end

section
/-! WRITE SETTING of a part of a pattern (R139, R170, section 10.5.1). -/

namespace Sys2Proof.Machine

/-! ### The bytes of a part (R170) -/

theorem stepsOf_bytes : ∀ {steps : List PatternStep}, (∀ p ∈ steps, p.level ≤ 255 ∧ p.duration ≤ 255) →
    stepsOf (steps.flatMap fun p => [BitVec.ofNat 8 p.level, BitVec.ofNat 8 p.duration]) = some steps
  | [], _ => rfl
  | p :: steps, bytes => by
    obtain ⟨⟨level, duration⟩, rest⟩ := List.forall_mem_cons.mp bytes
    have tail := stepsOf_bytes rest
    simp only [List.flatMap_cons, List.cons_append, List.nil_append, stepsOf, tail, Option.map_some,
      BitVec.toNat_ofNat, Nat.mod_eq_of_lt (Nat.lt_succ_of_le level), Nat.mod_eq_of_lt (Nat.lt_succ_of_le duration)]

theorem patternPartBytes_length (first n : Nat) (steps : List PatternStep) :
    (patternPartBytes first n steps).length = 2 + 2 * steps.length := by
  simp [patternPartBytes, List.length_flatMap]
  omega

theorem patternPartOf_bytes {first n : Nat} {steps : List PatternStep} (starts : first = 1 ∨ first = 7 ∨ first = 13)
    (within : first ≤ n) (most : n ≤ 16) (carried : steps.length = min 6 (n - first + 1))
    (bytes : ∀ p ∈ steps, p.level ≤ 255 ∧ p.duration ≤ 255) :
    patternPartOf (patternPartBytes first n steps) = some ⟨first, n, steps⟩ := by
  have firstByte : (BitVec.ofNat 8 first).toNat = first := Nat.mod_eq_of_lt (by omega)
  have countByte : (BitVec.ofNat 8 n).toNat = n := Nat.mod_eq_of_lt (by omega)
  have length := patternPartBytes_length first n steps
  simp only [patternPartBytes, List.cons_append, List.nil_append, List.length_cons] at length ⊢
  simp only [patternPartOf, firstByte, countByte]
  rw [if_pos ⟨starts, most, within, by omega⟩, stepsOf_bytes bytes]
  rfl

/-- The form of a part is refused when its length is not the one its first step and its count ask for (R170). -/
theorem patternPartOf_eq_none {f : Byte} {rest : List Byte}
    (misformed : ∀ n more, rest = n :: more → (f = 1 ∨ f = 7 ∨ f = 13) → f.toNat ≤ n.toNat → n.toNat ≤ 16 →
      more.length ≠ 2 * min 6 (n.toNat - f.toNat + 1)) : patternPartOf (f :: rest) = none := by
  cases rest with
  | nil => rfl
  | cons n more =>
    refine if_neg ?_
    rintro ⟨starts, most, within, length⟩
    exact misformed n more rfl (by simpa [BitVec.toNat_eq] using starts) within most length

/-! ### Whether a part follows on (R170) -/

theorem Staging.strays_iff (st : Option Staging) (k : Fin 8) (f : Byte) (rest : List Byte) :
    Staging.strays st k (f :: rest) = true ↔
      (f = 7 ∨ f = 13) ∧
        ¬∃ n more l, rest = n :: more ∧ st = some ⟨k, n.toNat, l⟩ ∧ l.length = f.toNat - 1 := by
  have byte : (f = 7 ∨ f = 13) ↔ (f.toNat = 7 ∨ f.toNat = 13) := by simp [BitVec.toNat_eq]
  rw [byte]
  cases st with
  | none => simp [Staging.strays]
  | some x =>
    cases rest with
    | nil => simp [Staging.strays]
    | cons n more =>
      obtain ⟨pattern, count, steps⟩ := x
      simp only [Staging.strays, Bool.and_eq_true, Bool.or_eq_true, decide_eq_true_eq, Bool.not_eq_true',
        Bool.and_eq_false_iff, decide_eq_false_iff_not, List.cons.injEq, Option.some.injEq, Staging.mk.injEq]
      refine and_congr_right fun _ => ⟨?_, fun apart => ?_⟩
      · rintro apart ⟨_, _, _, ⟨rfl, rfl⟩, ⟨rfl, rfl, rfl⟩, length⟩
        simp [length] at apart
      · by_contra! same
        exact apart ⟨n, more, steps, ⟨rfl, rfl⟩, ⟨same.1.1, same.1.2, rfl⟩, same.2⟩

/-- A part made of its first step, its count and its steps strays when it is not the first and the staging list, for the
same pattern and count, does not end just before it (R170). -/
theorem Staging.strays_bytes_iff (st : Option Staging) (k : Fin 8) {first n : Nat} (steps : List PatternStep)
    (starts : first = 1 ∨ first = 7 ∨ first = 13) (most : n ≤ 16) :
    Staging.strays st k (patternPartBytes first n steps) = true ↔
      first ≠ 1 ∧ ∀ l, st = some ⟨k, n, l⟩ → l.length ≠ first - 1 := by
  have later : (BitVec.ofNat 8 first = 7 ∨ BitVec.ofNat 8 first = 13) ↔ first ≠ 1 := by
    rcases starts with rfl | rfl | rfl <;> decide
  have firstByte : (BitVec.ofNat 8 first).toNat = first := Nat.mod_eq_of_lt (by omega)
  have countByte : (BitVec.ofNat 8 n).toNat = n := Nat.mod_eq_of_lt (by omega)
  simp only [patternPartBytes, List.cons_append, List.nil_append, Staging.strays_iff, later, firstByte]
  refine and_congr_right fun _ => ⟨fun apart l held length => ?_, ?_⟩
  · exact apart ⟨_, _, l, rfl, countByte.symm ▸ held, length⟩
  · rintro apart ⟨_, _, l, bytes, held, length⟩
    obtain ⟨rfl, -⟩ := List.cons.inj bytes
    exact apart l (countByte ▸ held) length

/-! ### The list a part completes (R138) -/

theorem PatternStep.legal_iff (p : PatternStep) :
    p.legal = true ↔ 1 ≤ p.duration ∧ p.duration ≤ 50 ∧ p.level ≤ 255 := by
  simp only [PatternStep.legal, Bool.and_eq_true, decide_eq_true_eq]
  omega

theorem patternLegal_iff (l : List PatternStep) :
    patternLegal l = true ↔
      (1 ≤ l.length ∧ l.length ≤ 16) ∧ ∀ p ∈ l, 1 ≤ p.duration ∧ p.duration ≤ 50 ∧ p.level ≤ 255 := by
  simp only [patternLegal, Bool.and_eq_true, decide_eq_true_eq, List.all_eq_true, PatternStep.legal_iff]

theorem GearMarks.changed_self (m : GearMarks) (d : DrcSettings) : m.changed d d = m := by
  simp [GearMarks.changed]

/-- A written pattern leaves the drive as it was: no shift pulse setting differs (R99). -/
theorem State.writePattern_eq (s : State) (k : Fin 8) (l : List PatternStep) :
    s.writePattern k l = { s with
      pst := { s.pst with
        staging := none
        working := { s.pst.working with ltc := { s.pst.working.ltc with
          patterns := s.pst.working.ltc.patterns.set k l } } }
      ltc := { s.ltc with patternWritten := s.ltc.patternWritten.set k true } } := by
  have marks := s.drc.pulseChanged.changed_self s.pst.working.drc
  show State.setLtc (State.setDrc _ { s.drc with pulseChanged := s.drc.pulseChanged.changed _ s.pst.working.drc }) _ = _
  rw [show (s.stage none).w.drc = s.pst.working.drc from rfl, marks]
  rfl

/-! ### The answer -/

theorem writePart_strays {s : State} {k : Fin 8} {v : List Byte} (h : Staging.strays s.pst.staging k v = true) :
    writePart s k v = .check (s.stage none) .badParameter := if_pos h

theorem writePart_misformed {s : State} {k : Fin 8} {v : List Byte} (h : ¬Staging.strays s.pst.staging k v = true)
    (misformed : patternPartOf v = none) : writePart s k v = .check s .badParameter := by
  refine (if_neg h).trans ?_
  rw [misformed]

/-- A first part, or one that follows on, is taken: what the staging list then holds decides the answer (R170). -/
theorem writePart_followsOn {s : State} {k : Fin 8} {first n : Nat} {before steps : List PatternStep}
    (starts : first = 1 ∨ first = 7 ∨ first = 13) (within : first ≤ n) (most : n ≤ 16)
    (carried : steps.length = min 6 (n - first + 1)) (bytes : ∀ p ∈ steps, p.level ≤ 255 ∧ p.duration ≤ 255)
    (length : before.length = first - 1) (follows : first = 1 ∨ s.pst.staging = some ⟨k, n, before⟩) :
    writePart s k (patternPartBytes first n steps) =
      if (before ++ steps).length < n then .good (s.stage (some ⟨k, n, before ++ steps⟩)) []
      else if patternLegal (before ++ steps) then .good (s.writePattern k (before ++ steps)) []
      else .check (s.stage none) .badParameter := by
  have stays : ¬Staging.strays s.pst.staging k (patternPartBytes first n steps) = true := by
    rw [Staging.strays_bytes_iff _ k steps starts most]
    rintro ⟨later, apart⟩
    exact apart before (follows.resolve_left later) length
  have extended : Staging.extend s.pst.staging k ⟨first, n, steps⟩ = ⟨k, n, before ++ steps⟩ := by
    by_cases fresh : first = 1
    · have empty : before = [] := List.length_eq_zero_iff.mp (by omega)
      simp [Staging.extend, fresh, empty]
    · simp [Staging.extend, fresh, follows.resolve_left fresh]
  refine (if_neg stays).trans ?_
  rw [patternPartOf_bytes starts within most carried bytes]
  simp only [extended]

theorem SettingId.pattern_mem_list (k : Fin 8) : SettingId.pattern k ∈ SettingId.list := by
  revert k
  decide

theorem writeSettingAnswer_pattern {b : Block} {lo hi : Byte} {k : Fin 8} {v : List Byte} (l : Bool) (s : State)
    (params : b.params = lo :: hi :: v) (number : (SettingId.pattern k).number = wordOf lo hi) (least : 1 ≤ v.length)
    (most : v.length ≤ 14) : writeSettingAnswer b l s = writePart s k v := by
  unfold writeSettingAnswer
  rw [params, settingValueParam_eq (SettingId.pattern_mem_list k) number least most, withParam_some]

/-- A request answered CHECK, whose effect leaves PLI and BSV as they were. -/
theorem State.Reaches.run_checkAfter {s t : State} {r : Request} (h : s.Reaches r) (he : r.exempt = false) {b : Block}
    {m : Bool → State → Answer} {k : SenseKind} (hm : m (isLastBlock s.pli.currentBatch b) s = .check t k)
    (hp : t.pli = s.pli) (hb : t.bsv = s.bsv) : s.runRequest r b m = t.checked b r k := by
  obtain ⟨open_, stage, active, _, _⟩ := h.1
  rw [State.runRequest_reaches h he b m, hm]
  exact State.finish_check b k open_.going hp (hb ▸ active) (hb ▸ stage)

/-- Settles O32: whether the part follows on, and then what the staging list holds, decides the answer. -/
theorem patternWrittenInParts : Obligations.PatternWrittenInParts := by
  refine ⟨fun b lo hi k first n before steps s h number starts within most carried bytes params length => ?_,
    fun b lo hi f k rest follows s h number params short followsOn => ?_⟩
  · have size := patternPartBytes_length first n steps
    have answer := writeSettingAnswer_pattern (v := patternPartBytes first n steps) (isLastBlock s.pli.currentBatch b) s
      params number (by omega) (by omega)
    refine ⟨fun fits => ?_, fun later apart => ?_⟩
    · have taken := answer.trans (writePart_followsOn starts within most carried bytes length fits)
      have total : (before ++ steps).length = first - 1 + steps.length := by rw [List.length_append, length]
      refine ⟨fun more => ?_, fun full legal => ?_, fun full illegal => ?_⟩
      · rw [if_pos (total ▸ more)] at taken
        exact congrArg Host.Outcome.next (h.run_good rfl taken rfl rfl)
      · have list := (patternLegal_iff (before ++ steps)).mpr ⟨by omega, legal⟩
        rw [if_neg (by omega), if_pos list, s.writePattern_eq] at taken
        exact congrArg Host.Outcome.next (h.run_good rfl taken rfl rfl)
      · have list : ¬patternLegal (before ++ steps) = true := fun list => by
          obtain ⟨p, carriedStep, duration⟩ := illegal
          have := ((patternLegal_iff _).mp list).2 p (List.mem_append_right _ carriedStep)
          omega
        rw [if_neg (by omega), if_neg list] at taken
        exact congrArg Host.Outcome.next (h.run_checkAfter rfl taken rfl rfl)
    · have strays := (Staging.strays_bytes_iff s.pst.staging k steps starts most).mpr ⟨later, apart⟩
      exact congrArg Host.Outcome.next (h.run_checkAfter rfl (answer.trans (writePart_strays strays)) rfl rfl)
  · have answer := writeSettingAnswer_pattern (v := f :: rest) (isLastBlock s.pli.currentBatch b) s params number
      (Nat.le_add_left 1 _) (Nat.succ_le_succ short)
    have strays := Staging.strays_iff s.pst.staging k f rest
    rw [← followsOn] at strays
    refine ⟨fun apart => ?_, fun stays misformed => ?_⟩
    · have refused := answer.trans (writePart_strays (strays.mpr apart))
      exact congrArg Host.Outcome.next (h.run_checkAfter rfl refused rfl rfl)
    · have refused := answer.trans (writePart_misformed (mt strays.mp stays) (patternPartOf_eq_none misformed))
      exact congrArg Host.Outcome.next (h.run_check rfl refused)

end Sys2Proof.Machine
end

section
/-! The light step (R132 to R148): turn flags, overlays, playback and selected levels, and the division of the grant. -/

namespace Sys2Proof.Machine

/-! ### Eight outputs, one at a time -/

@[simp] theorem Eight.get_zipWith {α β γ : Type} (f : α → β → γ) (t : Eight α) (u : Eight β) (k : Fin 8) :
    (t.zipWith f u).get k = f (t.get k) (u.get k) := by
  fin_cases k <;> rfl

theorem Eight.toList_eq_map_get {α : Type} (t : Eight α) : t.toList = (List.finRange 8).map t.get := rfl

/-! ### What the step leaves (R134, R148) -/

/-- An output after step 4 of R134: its overlay, playback position and selected level, with the pin still as it was. -/
def State.lightSelected (s : State) (k : Fin 8) : LightOut :=
  s.lightInput.select (s.ltc.readStep s.lightInput) (s.ltc.outs.get k) (s.pst.working.ltc.outputs.get k)

theorem State.lightStep_out (s : State) (k : Fin 8) :
    s.lightStep.ltc.outs.get k =
      s.lightInput.output s.lightStep.ltc.signalSum s.lightStep.ltc.ambientSum (s.lightSelected k)
        (s.pst.working.ltc.outputs.get k) := by
  refine (Eight.get_zipWith _ _ _ k).trans ?_
  rw [Eight.get_zipWith]
  rfl

/-- The division does not touch what step 4 formed. -/
theorem State.lightStep_shown (s : State) (k : Fin 8) :
    (s.lightStep.ltc.outs.get k).overlay = (s.lightSelected k).overlay ∧
      (s.lightStep.ltc.outs.get k).playback = (s.lightSelected k).playback ∧
      (s.lightStep.ltc.outs.get k).selected = (s.lightSelected k).selected := by
  rw [s.lightStep_out k]
  exact ⟨rfl, rfl, rfl⟩

/-! ### Turn flags (R141) -/

theorem turnFlag_of_le {flag : Bool} {toward threshold : Int} (h : threshold ≤ toward) :
    turnFlag flag toward threshold = true := by
  simp [turnFlag, h]

theorem turnFlag_of_lt {flag : Bool} {toward threshold : Int} (h : toward < threshold - 100) :
    turnFlag flag toward threshold = false := by
  have below : ¬threshold ≤ toward := by omega
  simp [turnFlag, h, below]

theorem turnFlag_between {flag : Bool} {toward threshold : Int} (low : threshold - 100 ≤ toward)
    (high : toward < threshold) : turnFlag flag toward threshold = flag := by
  simp [turnFlag, not_lt.mpr low, not_le.mpr high]

/-! ### Overlays (R140) -/

theorem find?_cons_eq_ite {α : Type} (p : α → Bool) (a : α) (l : List α) :
    (a :: l).find? p = if p a = true then some a else l.find? p := by
  rw [List.find?_cons]
  cases p a <;> rfl

/-- Outside SHUTDOWN the model's chain of conditions is a search through the priority order. -/
theorem State.find_overlay {s : State} (up : s.bsv.power ≠ .shutdown) (left right : Bool) (r : Role) :
    overlayOrder.find? (s.Raised left right r) = some (s.lightInput.overlay left right r) := by
  have turn : turnRaised left right r = true ∧ s.bsv.power = .active ↔
      s.bsv.power = .active ∧ (left = true ∧ r = .turnL ∨ right = true ∧ r = .turnR) := by
    cases r <;> simp [turnRaised, and_comm]
  rw [LightInput.overlay, if_neg (show ¬s.lightInput.power = .shutdown from up)]
  simp only [overlayOrder, find?_cons_eq_ite, apply_ite some]
  simp only [State.Raised, State.lightInput, Role.turns, turn, Bool.and_eq_true, Bool.or_eq_true, decide_eq_true_eq,
    and_assoc, if_true]
  congr

theorem Overlay.mem_overlayPattern_iff (o : Overlay) (p : Fin 8) : (o, p) ∈ overlayPattern ↔ o.pattern = some p := by
  cases o <;> simp [overlayPattern, Overlay.pattern, eq_comm]

theorem Overlay.mem_signalOverlays_iff (o : Overlay) : o ∈ signalOverlays ↔ o.signal = true := by
  cases o <;> decide

/-! ### Playback (R139) -/

theorem stepAt_eq {l : List PatternStep} {index : Nat} {step : PatternStep} (h : l[index - 1]? = some step) :
    stepAt l index = step := by
  simp [stepAt, h]

theorem playOn_restarts {before : LightOut} {now : Overlay} {written : Bool} (l : List PatternStep)
    (h : before.overlay ≠ now ∨ before.playback = none ∨ written = true) : playOn before now written l = ⟨1, 1⟩ := by
  unfold playOn
  cases playback : before.playback with
  | none => rfl
  | some p => exact if_pos (by simpa [playback] using h)

theorem playOn_advances {before : LightOut} {now : Overlay} {p : Playback} {l : List PatternStep} {step : PatternStep}
    (same : before.overlay = now) (plays : before.playback = some p) (reached : l[p.index - 1]? = some step) :
    playOn before now false l =
      if p.shown + 1 ≤ step.duration then ⟨p.index, p.shown + 1⟩
      else if p.index < l.length then ⟨p.index + 1, 1⟩ else ⟨1, 1⟩ := by
  unfold playOn
  rw [plays]
  simp only [same, ne_eq, not_true_eq_false, Bool.false_eq_true, or_self, if_false, Playback.advance, stepAt_eq reached,
    Nat.succ_le_iff]

/-! ### Selected levels (R143, R144) -/

theorem DriveType.level_eq_typed (d : DriveType) (v : Nat) : d.level v = typed d v := by
  cases d with
  | pwm => rfl
  | onOff =>
    simp only [DriveType.level, typed, if_true]
    split <;> split <;> omega

theorem State.lightSelected_level (s : State) {k : Fin 8} {o : Overlay} (h : (s.lightSelected k).overlay = o) :
    (s.lightSelected k).selected =
      typed (s.pst.working.ltc.outputs.get k).drive
        (s.lightInput.rawLevel s.ltc.scene (s.pst.working.ltc.outputs.get k).role o (s.lightSelected k).playback) := by
  subst h
  exact DriveType.level_eq_typed _ _

theorem State.lightSelected_playback (s : State) {k : Fin 8} {o : Overlay} (h : (s.lightSelected k).overlay = o) :
    (s.lightSelected k).playback =
      nextPlayback (s.ltc.outs.get k) o s.ltc.patternWritten s.pst.working.ltc.patterns := by
  subst h
  rfl

theorem nextPlayback_pattern {o : Overlay} {p : Fin 8} (h : o.pattern = some p) (before : LightOut)
    (written : Eight Bool) (patterns : Eight (List PatternStep)) :
    nextPlayback before o written patterns = some (playOn before o (written.get p) (patterns.get p)) := by
  unfold nextPlayback
  rw [h]

theorem nextPlayback_none {o : Overlay} (h : o.pattern = none) (before : LightOut)
    (written : Eight Bool) (patterns : Eight (List PatternStep)) : nextPlayback before o written patterns = none := by
  unfold nextPlayback
  rw [h]

theorem LightInput.rawLevel_pattern (i : LightInput) {o : Overlay} {p : Fin 8} (h : o.pattern = some p) (scene : Fin 4)
    (r : Role) (q : Playback) :
    i.rawLevel scene r o (some q) = (stepAt (i.settings.patterns.get p) q.index).level := by
  unfold LightInput.rawLevel
  rw [h]

/-! ### The division (R144, R145) -/

theorem dividedLevel_eq (grant signalSum ambientSum : Nat) (o : Overlay) (nominal level : Nat) :
    dividedLevel grant signalSum ambientSum o.signal nominal level =
      if nominal = 0 ∨ signalSum + ambientSum ≤ grant then level
      else if o ∈ signalOverlays then (if signalSum ≤ grant then level else level * grant / signalSum)
      else if signalSum ≤ grant then level * (grant - signalSum) / ambientSum else 0 := by
  simp only [o.mem_signalOverlays_iff]
  unfold dividedLevel
  by_cases whole : nominal = 0 ∨ signalSum + ambientSum ≤ grant
  · rw [if_pos whole]
    rcases whole with none | covered
    · rw [if_pos none]
    · rw [if_pos covered, ite_self]
  · obtain ⟨drawn, short⟩ := not_or.mp whole
    rw [if_neg whole, if_neg drawn, if_neg short]
    cases o.signal <;> simp

/-- A share of a sum that the share's numerator does not exceed is at most the whole. -/
theorem mul_div_le_of_le {a g d : Nat} (h : g ≤ d) : a * g / d ≤ a :=
  Nat.div_le_of_le_mul (by rw [Nat.mul_comm d]; exact Nat.mul_le_mul_left a h)

theorem dividedLevel_le (grant signalSum ambientSum : Nat) (o : Overlay) (nominal level : Nat) :
    dividedLevel grant signalSum ambientSum o.signal nominal level ≤ level := by
  rw [dividedLevel_eq]
  split_ifs with whole signal covered
  · exact le_rfl
  · exact le_rfl
  · exact mul_div_le_of_le (by omega)
  · exact mul_div_le_of_le (by omega)
  · exact Nat.zero_le _

theorem DriveType.driven_eq (d : DriveType) (v : Nat) : d.driven v = if d = .onOff ∧ v < 255 then 0 else v := by
  cases d <;> simp [DriveType.driven]

theorem DriveType.driven_le (d : DriveType) (v : Nat) : d.driven v ≤ v := by
  rw [d.driven_eq]
  split <;> omega

/-! ### What an output is driven with (R132, R145, R146) -/

theorem LightInput.output_fault {i : LightInput} (h : i.stage = .fault) (sig amb : Nat) (o : LightOut)
    (c : OutputSetting) : (i.output sig amb o c).driven = o.selected := if_pos h

theorem LightInput.output_divided {i : LightInput} (h : i.stage ≠ .fault) (sig amb : Nat) (o : LightOut)
    (c : OutputSetting) :
    (i.output sig amb o c).driven =
      c.drive.driven (dividedLevel (i.grant * 100) sig amb o.overlay.signal c.nominal o.selected) := if_neg h

theorem LightInput.output_pin (i : LightInput) (sig amb : Nat) (o : LightOut) (c : OutputSetting) :
    (i.output sig amb o c).pin = c.drive.pin (i.output sig amb o c).driven := rfl

theorem LightInput.output_driven_le (i : LightInput) (sig amb : Nat) (o : LightOut) (c : OutputSetting) :
    (i.output sig amb o c).driven ≤ o.selected := by
  by_cases fault : i.stage = .fault
  · rw [LightInput.output_fault fault]
  · rw [LightInput.output_divided fault]
    exact (c.drive.driven_le _).trans (dividedLevel_le _ _ _ _ _ _)

/-- An ON_OFF output is driven fully or not at all (R144, R145). -/
theorem LightInput.output_onOff (i : LightInput) (sig amb : Nat) {o : LightOut} {c : OutputSetting}
    (typed : c.drive = .onOff) (selected : o.selected = 0 ∨ o.selected = 255) :
    (i.output sig amb o c).driven = 0 ∨ (i.output sig amb o c).driven = 255 := by
  by_cases fault : i.stage = .fault
  · rwa [LightInput.output_fault fault]
  · have bound := dividedLevel_le (i.grant * 100) sig amb o.overlay c.nominal o.selected
    rw [LightInput.output_divided fault, DriveType.driven_eq]
    split
    · exact .inl rfl
    · next full => exact .inr (by have := not_and.mp full typed; omega)

theorem typed_onOff (v : Nat) : typed .onOff v = 0 ∨ typed .onOff v = 255 := by
  rw [typed, if_pos rfl]
  split
  · exact .inl rfl
  · exact .inr rfl

theorem DriveType.pin_zero (d : DriveType) : d.pin 0 = .released := by cases d <;> rfl

theorem DriveType.pin_pwm {v : Nat} (h : 0 < v) : DriveType.pin .pwm v = .pwm v := if_neg (Nat.ne_of_gt h)

/-! ### The sums (R144) -/

theorem State.lightStep_chargeSum (s : State) (signal : Bool) :
    chargeSum signal (s.ltc.outs.zipWith (s.lightInput.select (s.ltc.readStep s.lightInput)) s.w.ltc.outputs)
        s.w.ltc.outputs =
      ((List.finRange 8).map fun k =>
        if (s.lightStep.ltc.outs.get k).overlay.signal = signal then
          (s.pst.working.ltc.outputs.get k).nominal * (s.lightStep.ltc.outs.get k).selected / 255 else 0).sum :=
  rfl

/-- In SHUTDOWN every output is dark (R143). -/
theorem State.lightStep_dark {s : State} (h : s.bsv.power = .shutdown) (k : Fin 8) :
    s.lightStep.ltc.outs.get k = ⟨.off, none, 0, 0, .released⟩ := by
  have overlay : (s.lightSelected k).overlay = .off := if_pos h
  have playback := (s.lightSelected_playback overlay).trans (nextPlayback_none rfl _ _ _)
  have selected : (s.lightSelected k).selected = 0 := by
    refine (s.lightSelected_level overlay).trans ?_
    cases (s.pst.working.ltc.outputs.get k).drive <;> rfl
  have driven : (s.lightStep.ltc.outs.get k).driven = 0 := by
    rw [s.lightStep_out k]
    exact Nat.le_zero.mp (selected ▸ LightInput.output_driven_le _ _ _ _ _)
  have pin : (s.lightStep.ltc.outs.get k).pin = .released := by
    rw [s.lightStep_out k, LightInput.output_pin, ← s.lightStep_out k, driven, DriveType.pin_zero]
  obtain ⟨shown, plays, level⟩ := s.lightStep_shown k
  rw [overlay] at shown
  rw [playback] at plays
  rw [selected] at level
  calc s.lightStep.ltc.outs.get k
      = ⟨(s.lightStep.ltc.outs.get k).overlay, (s.lightStep.ltc.outs.get k).playback,
          (s.lightStep.ltc.outs.get k).selected, (s.lightStep.ltc.outs.get k).driven,
          (s.lightStep.ltc.outs.get k).pin⟩ := rfl
    _ = ⟨.off, none, 0, 0, .released⟩ := by rw [shown, plays, level, driven, pin]

/-- Settles O56: the sums are those of the levels step 4 formed, and each output takes its share by R145's table. -/
theorem lightGrantDivided : Obligations.LightGrantDivided := by
  intro s
  refine ⟨s.lightStep, rfl, fun chargeOf charges => ⟨?_, ?_⟩, rfl, rfl, fun k o c g level hout hc hg hlevel => ?_⟩
  · refine (s.lightStep_chargeSum true).trans ?_
    simp only [charges, Overlay.mem_signalOverlays_iff]
  · refine (s.lightStep_chargeSum false).trans ?_
    simp only [charges, Overlay.mem_signalOverlays_iff, ← Bool.not_eq_true, ite_not]
  rw [s.lightStep_out k, ← hc] at hout
  have divided := dividedLevel_eq g s.lightStep.ltc.signalSum s.lightStep.ltc.ambientSum (s.lightSelected k).overlay
    c.nominal (s.lightSelected k).selected
  have pin : o.pin = c.drive.pin o.driven := by rw [hout, LightInput.output_pin]
  refine ⟨fun fault => ?_, fun running => ?_, ?_, fun dark => ?_, fun lit pwm => ?_, fun lit onOff => ?_⟩
  · exact hout ▸ LightInput.output_fault fault _ _ _ _
  · have driven := LightInput.output_divided (i := s.lightInput) running s.lightStep.ltc.signalSum
      s.lightStep.ltc.ambientSum (s.lightSelected k) c
    rw [show s.lightInput.grant * 100 = g from hg.symm, divided, DriveType.driven_eq] at driven
    rw [hlevel, hout]
    exact driven
  · exact hout ▸ LightInput.output_driven_le _ _ _ _ _
  · rw [pin, dark, DriveType.pin_zero]
  · rw [pin, pwm, DriveType.pin_pwm lit]
  · have selected : (s.lightSelected k).selected = 0 ∨ (s.lightSelected k).selected = 255 := by
      rw [s.lightSelected_level rfl, ← hc, onOff]
      exact typed_onOff _
    have driven := LightInput.output_onOff s.lightInput s.lightStep.ltc.signalSum s.lightStep.ltc.ambientSum onOff
      selected
    rw [← hout] at driven
    rw [pin, onOff, driven.resolve_left (Nat.ne_of_gt lit)]
    rfl

/-- Settles O55: the turn flags by where the steer stands, and each output by whether the overlay it found plays a
pattern or shows a level. -/
theorem lightOverlaysShown : Obligations.LightOverlaysShown := by
  intro s
  refine ⟨s.lightStep, rfl, rfl, rfl, rfl, rfl, rfl, rfl, rfl, ?_, fun k before now c hbefore hnow hc => ?_⟩
  · rintro turn steer rfl rfl
    refine ⟨fun set => turnFlag_of_le set, fun clear => turnFlag_of_lt clear, fun low high => turnFlag_between low high,
      fun set => turnFlag_of_le (Int.le_neg_of_le_neg set), fun clear => turnFlag_of_lt (Int.neg_lt_of_neg_lt clear),
      fun high low => turnFlag_between (Int.le_neg_of_le_neg low) (Int.neg_lt_of_neg_lt high)⟩
  obtain ⟨overlay, playback, selected⟩ := s.lightStep_shown k
  rw [← hnow] at overlay playback selected
  have level {o : Overlay} (shows : now.overlay = o) : now.selected =
      typed c.drive (s.lightInput.rawLevel s.ltc.scene c.role o now.playback) := by
    rw [selected, playback, hc]
    exact s.lightSelected_level (overlay ▸ shows)
  have plays {o : Overlay} (shows : now.overlay = o) :
      now.playback = nextPlayback before o s.ltc.patternWritten s.pst.working.ltc.patterns := by
    rw [playback, hbefore]
    exact s.lightSelected_playback (overlay ▸ shows)
  refine ⟨fun down => hnow.trans (s.lightStep_dark down k), fun up => ⟨?_, fun plain => ?_, fun p pattern => ?_,
    fun brake => level brake, fun reverse => level reverse, fun scene active => ?_, fun scene parked => ?_⟩⟩
  · rw [overlay, hc]
    exact State.find_overlay up _ _ _
  · have none : now.overlay.pattern = none := Option.eq_none_iff_forall_ne_some.mpr fun p h =>
      plain p ((Overlay.mem_overlayPattern_iff _ p).mpr h)
    exact (plays rfl).trans (nextPlayback_none none _ _ _)
  · have played := (Overlay.mem_overlayPattern_iff _ p).mp pattern
    have position := (plays rfl).trans
      (nextPlayback_pattern played before s.ltc.patternWritten s.pst.working.ltc.patterns)
    refine ⟨_, position, playOn_restarts _, fun b step same playing goesOn reached => ?_, fun step reached => ?_⟩
    · rw [goesOn, playOn_advances same playing reached]
    · rw [level rfl, position, LightInput.rawLevel_pattern _ played]
      exact congrArg (fun p : PatternStep => typed c.drive p.level) (stepAt_eq reached)
  · exact (level scene).trans (congrArg _ (if_neg (show s.bsv.power ≠ .parked by rw [active]; decide)))
  · exact (level scene).trans (congrArg _ (if_pos parked))

end Sys2Proof.Machine
end

section
/-! The receiver frame: a frame written as bytes (R149, R150) is read back by the assembler and by its fields. -/

namespace Sys2Proof.Machine

/-! ### Numbers as bytes -/

theorem toNat_byteOf {n : Nat} (h : n < 256) : (byteOf n).toNat = n :=
  (BitVec.toNat_ofNat n 8).trans (Nat.mod_eq_of_lt h)

theorem ofLe16_byteOf {v : Nat} (h : v < 65536) : ofLe16 (byteOf (v % 256)) (byteOf (v / 256)) = v := by
  rw [ofLe16, toNat_byteOf (Nat.mod_lt v (by decide)), toNat_byteOf (Nat.div_lt_of_lt_mul h)]
  exact Nat.mod_add_div v 256

theorem length_flatMap_le16 (values : List Nat) : (values.flatMap le16).length = 2 * values.length := by
  simp [List.length_flatMap, le16, Nat.mul_comm]

/-- Channel values of 16 bits come back from their pairs of bytes. -/
theorem channelValues_flatMap_le16 {values : List Nat} (h : ∀ v ∈ values, v < 65536) :
    channelValues (values.flatMap le16) = values := by
  induction values with
  | nil => rfl
  | cons v values ih =>
    obtain ⟨small, rest⟩ := List.forall_mem_cons.mp h
    exact congrArg₂ List.cons (ofLe16_byteOf small) (ih rest)

/-! ### The assembler (R149) -/

/-- Bytes ahead of the sync byte leave the assembler hunting and give no command. -/
theorem readReceiver_noise {noise : List Byte} (h : ∀ x ∈ noise, x ≠ 0xB5) (bytes : List Byte) :
    readReceiver .hunting (noise ++ bytes) = readReceiver .hunting bytes := by
  induction noise with
  | nil => rfl
  | cons x noise ih =>
    obtain ⟨stray, rest⟩ := List.forall_mem_cons.mp h
    have stays : receiverByte .hunting x = (.hunting, []) := by rw [receiverByte, if_neg stray]
    rw [List.cons_append, readReceiver, stays]
    exact ih rest

/-- After a good LEN, LEN + 1 further bytes are taken whatever they are; the last one completes the frame. -/
theorem readReceiver_assembling {len : Byte} (last : Byte) {got rest : List Byte}
    (h : got.length + rest.length = len.toNat) :
    readReceiver (.assembling (len :: got)) (rest ++ [last]) = [.channelFrame (len :: (got ++ rest ++ [last]))] := by
  induction rest generalizing got with
  | nil =>
    have done : receiverByte (.assembling (len :: got)) last = (.hunting, [.channelFrame (len :: (got ++ [last]))]) :=
      if_pos h
    rw [List.nil_append, List.append_nil, readReceiver, done]
    rfl
  | cons b rest ih =>
    have short : got.length ≠ len.toNat := by
      rw [List.length_cons] at h
      omega
    have goesOn : receiverByte (.assembling (len :: got)) b = (.assembling (len :: (got ++ [b])), []) := if_neg short
    have left : (got ++ [b]).length + rest.length = len.toNat := by
      rw [List.length_append, List.length_singleton, Nat.add_assoc, Nat.add_comm 1]
      exact h
    rw [List.cons_append, readReceiver, goesOn, List.append_cons got b rest]
    exact ih left

/-- A sync byte, a good LEN and LEN + 1 further bytes are one frame. -/
theorem readReceiver_frame {len : Byte} (good : receiverLenOk len = true) (last : Byte) {rest : List Byte}
    (h : rest.length = len.toNat) :
    readReceiver .hunting (0xB5 :: len :: (rest ++ [last])) = [.channelFrame (len :: (rest ++ [last]))] := by
  have opens : receiverByte (.assembling []) len = (.assembling [len], []) := if_pos good
  calc readReceiver .hunting (0xB5 :: len :: (rest ++ [last]))
    _ = readReceiver (.assembling []) (len :: (rest ++ [last])) := rfl
    _ = readReceiver (.assembling [len]) (rest ++ [last]) := by
        rw [readReceiver, opens]
        rfl
    _ = [.channelFrame (len :: (rest ++ [last]))] := readReceiver_assembling last ((Nat.zero_add _).trans h)

/-! ### The fields (R149, R150) -/

/-- The fields of LEN, HDR, the channel bytes and a CRC byte. -/
theorem receiverFrameOf_eq {len : Byte} (good : receiverLenOk len = true) (hdr crc : Byte) {body : List Byte}
    (h : body.length + 1 = len.toNat) :
    receiverFrameOf (len :: hdr :: (body ++ [crc])) =
      some ⟨len :: hdr :: body, hdr.toNat % 16, hdr.getLsbD 7, channelValues body, crc⟩ := by
  have whole : (body ++ [crc]).length = len.toNat := List.length_append.trans h
  simp [receiverFrameOf, good, whole]

/-- 4 to 12 channels give a good LEN: 1 more than twice their number. -/
theorem receiverLenOk_byteOf {n : Nat} (least : 4 ≤ n) (most : n ≤ 12) : receiverLenOk (byteOf (1 + 2 * n)) = true := by
  have value : (byteOf (1 + 2 * n)).toNat = 1 + 2 * n := toNat_byteOf (by omega)
  simp only [receiverLenOk, value, Bool.and_eq_true, decide_eq_true_eq]
  omega

/-- Settles O13: the assembler hunts through the noise, takes the whole frame by its LEN, and the fields of the frame
are those written, with the CRC-8 computed over the same bytes. -/
theorem receiverFrameReadsBack : Obligations.ReceiverFrameReadsBack := by
  intro noise hdr values strays least most small
  have good := receiverLenOk_byteOf least most
  have count : (values.flatMap le16).length + 1 = (byteOf (1 + 2 * values.length)).toNat := by
    rw [length_flatMap_le16, toNat_byteOf (by omega), Nat.add_comm]
  refine ⟨?_, _, receiverFrameOf_eq good hdr _ count, rfl, rfl, channelValues_flatMap_le16 small, rfl⟩
  exact (readReceiver_noise strays _).trans (readReceiver_frame good _ (rest := hdr :: values.flatMap le16) count)

end Sys2Proof.Machine
end

section
/-! The frame of a batch: a pit frame written as bytes (R158, section 9.1) is read back by the assembler and cut into its
blocks again, and each block is its command again. -/

namespace Sys2Proof.Machine

/-! ### Request blocks as bytes (section 9.1) -/

/-- A well-formed request block is the command of its CODE again, and has at most 16 parameter bytes. -/
theorem wellFormedBlock (i : Instr) : Laws.WellFormedBlock.Statement i := by
  cases block : commandBlock i with
  | none => exact Laws.wellFormed_of_event block
  | some p =>
    cases i <;> cases block
    case some.unknownCode.refl code b => exact Laws.WellFormedBlock.unknownCode code b
    all_goals exact Laws.wellFormed_of_request rfl rfl rfl

/-- A command's request block as the line carries it; an event has none. -/
def rawBlock (i : Instr) : Option RawBlock :=
  (commandBlock i).map fun (code, b) => ⟨code, b.flags, b.params⟩

theorem blockBytes_length {i : Instr} {code : Byte} {b : Block} (block : commandBlock i = some (code, b)) :
    (blockBytes i).length = b.params.length + 3 := by
  simp [blockBytes, block]

/-- The bytes of a batch: 3 to 19 for each of its blocks. -/
theorem length_flatMap_blockBytes {l : List Instr} (formed : ∀ i ∈ l, i.wellFormed = true)
    (blocks : ∀ i ∈ l, commandBlock i ≠ none) :
    3 * l.length ≤ (l.flatMap blockBytes).length ∧ (l.flatMap blockBytes).length ≤ 19 * l.length := by
  induction l with
  | nil => exact ⟨le_rfl, le_rfl⟩
  | cons i l ih =>
    obtain ⟨formedHead, formedTail⟩ := List.forall_mem_cons.mp formed
    obtain ⟨blockHead, blocksTail⟩ := List.forall_mem_cons.mp blocks
    obtain ⟨⟨code, b⟩, block⟩ := Option.ne_none_iff_exists'.mp blockHead
    obtain ⟨-, short⟩ := wellFormedBlock i formedHead code b block
    have tail := ih formedTail blocksTail
    rw [List.flatMap_cons, List.length_append, blockBytes_length block, List.length_cons]
    omega

/-- The first block of a body is cut off by its PLEN. -/
theorem splitBlocks_cons (n : Nat) (code flags : Byte) {params : List Byte} (short : params.length ≤ 16)
    (rest : List Byte) :
    splitBlocks (n + 1) (code :: flags :: byteOf params.length :: (params ++ rest)) =
      (splitBlocks n rest).map fun l => ⟨code, flags, params⟩ :: l := by
  have plen : (byteOf params.length).toNat = params.length := toNat_byteOf (by omega)
  simp [splitBlocks, plen, short]

/-- A body of well-formed blocks, no more than its number allows, is cut into these blocks. -/
theorem splitBlocks_flatMap_blockBytes {n : Nat} {l : List Instr} (few : l.length ≤ n)
    (formed : ∀ i ∈ l, i.wellFormed = true) : splitBlocks n (l.flatMap blockBytes) = some (l.filterMap rawBlock) := by
  induction l generalizing n with
  | nil => cases n <;> rfl
  | cons i l ih =>
    obtain ⟨formedHead, formedTail⟩ := List.forall_mem_cons.mp formed
    rw [List.length_cons] at few
    cases block : commandBlock i with
    | none =>
      have bytes : blockBytes i = [] := by rw [blockBytes, block]
      have raw : rawBlock i = none := by rw [rawBlock, block]; rfl
      rw [List.flatMap_cons, bytes, List.nil_append, List.filterMap_cons_none raw]
      exact ih (by omega) formedTail
    | some p =>
      obtain ⟨code, b⟩ := p
      obtain ⟨-, short⟩ := wellFormedBlock i formedHead code b block
      have bytes : blockBytes i = code :: b.flags :: byteOf b.params.length :: b.params := by rw [blockBytes, block]
      have raw : rawBlock i = some ⟨code, b.flags, b.params⟩ := by rw [rawBlock, block]; rfl
      obtain ⟨m, rfl⟩ : ∃ m, n = m + 1 := ⟨n - 1, by omega⟩
      rw [List.flatMap_cons, bytes, List.filterMap_cons_some raw, List.cons_append, List.cons_append, List.cons_append,
        splitBlocks_cons m code b.flags short, ih (by omega) formedTail]
      rfl

/-! ### The marks of a batch (R158) -/

/-- Each command is a request block; the last of them and no other has the mark. -/
def BatchMarked (l : List Instr) : Prop :=
  (l.map fun i => (commandBlock i).map fun p => p.2.last) = List.replicate (l.length - 1) (some false) ++ [some true]

theorem BatchMarked.blocks {l : List Instr} (h : BatchMarked l) : ∀ i ∈ l, commandBlock i ≠ none := by
  intro i mem event
  have marks := List.mem_map_of_mem (f := fun i => (commandBlock i).map fun p => p.2.last) mem
  rw [show (l.map fun i => (commandBlock i).map fun p => p.2.last) = _ from h, event] at marks
  simp at marks

theorem batchCommands_cons (r : RawBlock) {rest : List RawBlock} (more : rest ≠ []) :
    batchCommands (r :: rest) = blockCommand r.code ⟨r.flags, r.params, false⟩ :: batchCommands rest := by
  cases rest with
  | nil => exact absurd rfl more
  | cons _ _ => rfl

/-- The blocks of a batch become its commands again, with the mark on the last. -/
theorem batchCommands_rawBlock {l : List Instr} (formed : ∀ i ∈ l, i.wellFormed = true) (marked : BatchMarked l) :
    batchCommands (l.filterMap rawBlock) = l := by
  induction l with
  | nil => rfl
  | cons i l ih =>
    obtain ⟨formedHead, formedTail⟩ := List.forall_mem_cons.mp formed
    obtain ⟨⟨code, b⟩, block⟩ := Option.ne_none_iff_exists'.mp (marked.blocks i List.mem_cons_self)
    obtain ⟨command, -⟩ := wellFormedBlock i formedHead code b block
    have raw : rawBlock i = some ⟨code, b.flags, b.params⟩ := by rw [rawBlock, block]; rfl
    rw [List.filterMap_cons_some raw]
    unfold BatchMarked at marked
    cases l with
    | nil =>
      have last : b.last = true := by simpa [block] using marked
      show [blockCommand code ⟨b.flags, b.params, true⟩] = [i]
      rw [← last, command]
    | cons j l =>
      obtain ⟨last, tail⟩ : b.last = false ∧ BatchMarked (j :: l) := by
        simpa [block, List.replicate_succ, BatchMarked] using marked
      have rest := ih formedTail tail
      have more : (j :: l).filterMap rawBlock ≠ [] := fun empty => by
        rw [empty] at rest
        cases rest
      rw [batchCommands_cons _ more, rest, ← last, command]

/-! ### The assembler (R158) -/

/-- Bytes ahead of the START leave the assembler hunting and give no command. -/
theorem readPit_noise {noise : List Byte} (h : ∀ x ∈ noise, x ≠ 0x5C) (bytes : List Byte) :
    readPit .hunting (noise ++ bytes) = readPit .hunting bytes := by
  induction noise with
  | nil => rfl
  | cons x noise ih =>
    obtain ⟨stray, rest⟩ := List.forall_mem_cons.mp h
    have stays : pitByte .hunting x = (.hunting, []) := by rw [pitByte, if_neg stray]
    rw [List.cons_append, readPit, stays]
    exact ih rest

/-- After a good LEN, LEN + 2 further bytes are taken whatever they are; the last one completes the frame. -/
theorem readPit_assembling {len : Byte} (hi : Byte) {got rest : List Byte}
    (h : got.length + rest.length = len.toNat + 1) :
    readPit (.assembling (len :: got)) (rest ++ [hi]) =
      pitFrameCommands len ((got ++ rest).take len.toNat) ((got ++ rest).getD len.toNat 0) hi := by
  induction rest generalizing got with
  | nil =>
    have done : pitByte (.assembling (len :: got)) hi =
        (.hunting, pitFrameCommands len (got.take len.toNat) (got.getD len.toNat 0) hi) := if_pos h
    rw [List.nil_append, List.append_nil, readPit, done]
    exact List.append_nil _
  | cons b rest ih =>
    have short : got.length ≠ len.toNat + 1 := by
      rw [List.length_cons] at h
      omega
    have goesOn : pitByte (.assembling (len :: got)) b = (.assembling (len :: (got ++ [b])), []) := if_neg short
    have left : (got ++ [b]).length + rest.length = len.toNat + 1 := by
      rw [List.length_append, List.length_singleton, Nat.add_assoc, Nat.add_comm 1]
      exact h
    rw [List.cons_append, readPit, goesOn, List.append_cons got b rest]
    exact ih left

/-- A START, a good LEN, LEN body bytes and two CRC bytes are one frame. -/
theorem readPit_frame {len : Byte} (good : pitLenOk len = true) {body : List Byte} (h : body.length = len.toNat)
    (lo hi : Byte) : readPit .hunting (0x5C :: len :: (body ++ [lo, hi])) = pitFrameCommands len body lo hi := by
  have opens : pitByte (.assembling []) len = (.assembling [len], []) := if_pos good
  have count : ([] : List Byte).length + (body ++ [lo]).length = len.toNat + 1 := by simp [h]
  calc readPit .hunting (0x5C :: len :: (body ++ [lo, hi]))
    _ = readPit (.assembling []) (len :: (body ++ [lo, hi])) := rfl
    _ = readPit (.assembling [len]) ((body ++ [lo]) ++ [hi]) := by
        rw [readPit, opens, List.append_assoc]
        rfl
    _ = pitFrameCommands len ((body ++ [lo]).take len.toNat) ((body ++ [lo]).getD len.toNat 0) hi :=
        readPit_assembling hi count
    _ = pitFrameCommands len body lo hi := by simp [← h]

/-- A framed body of 2 to 120 bytes that is whole blocks is read back as their commands: LEN is good and the CRC-16
matches. -/
theorem readPit_frameBody {body : List Byte} (least : 2 ≤ body.length) (most : body.length ≤ 120) {l : List RawBlock}
    (blocks : bodyBlocks body = some l) : readPit .hunting (frameBody body) = batchCommands l := by
  have len : (byteOf body.length).toNat = body.length := toNat_byteOf (by omega)
  have good : pitLenOk (byteOf body.length) = true := by simp [pitLenOk, len, least, most]
  refine (readPit_frame good len.symm _ _).trans ?_
  rw [pitFrameCommands, blocks]
  exact if_neg (not_not.mpr rfl)

/-- Settles O12: the assembler hunts through the noise, takes the whole frame by its LEN, and the body is cut into the
blocks that it was written from. -/
theorem pitBatchReadsBack : Obligations.PitBatchReadsBack := by
  intro noise l strays nonempty few formed marked
  have batch : BatchMarked l := marked
  obtain ⟨least, most⟩ := length_flatMap_blockBytes formed batch.blocks
  have blocks : 0 < l.length := List.length_pos_iff.mpr nonempty
  calc readPit .hunting (noise ++ batchFrame l)
    _ = readPit .hunting (batchFrame l) := readPit_noise strays _
    _ = batchCommands (l.filterMap rawBlock) :=
        readPit_frameBody (by omega) (by omega) (splitBlocks_flatMap_blockBytes few formed)
    _ = l := batchCommands_rawBlock formed batch

end Sys2Proof.Machine
end

section
/-! How a request block is decided: blocks not examined, reports in the place of a block, and refused requests (R160 to
R162, R167). -/

namespace Sys2Proof.Machine

/-! ### Entries (R161, R164) -/

/-- An entry that is not GOOD is the entry of `State.answered` in a stopped batch as well. -/
theorem State.answerBlock_failed (s : State) (b : Block) {e : ReplyEntry} (h : e.status ≠ .good) :
    s.setPli (s.pli.answerBlock s.pli.currentBatch (isLastBlock s.pli.currentBatch b) e) = s.answered b e := by
  rw [s.isLastBlock_eq]
  unfold PitLink.answerBlock State.answered
  rw [s.currentBatch_entries]
  by_cases last : b.last = true ∨ 3 ≤ s.formed.length
  · simp [last, State.setPli]
  · simp only [last, h, State.setPli, decide_false, if_false, Bool.false_eq_true, ne_eq, not_false_eq_true, decide_true,
      Bool.or_true]
    unfold PitLink.currentBatch
    cases s.pli.batch <;> rfl

theorem State.answered_bsv (s : State) (b : Block) (e : ReplyEntry) : (s.answered b e).bsv = s.bsv := by
  unfold State.answered
  split <;> rfl

/-- A CHECK of a block of the batch in progress: the sense record takes its sense, and the entry holds it. -/
theorem State.checkBlock_eq (s : State) (b : Block) (code : Byte) (e : Sense) (tail : List Byte) :
    s.checkBlock s.pli.currentBatch (isLastBlock s.pli.currentBatch b) code e tail =
      State.answered { s with pli := { s.pli with sense := e } } b ⟨code, .check, e.toBytes ++ tail⟩ :=
  State.answerBlock_failed { s with pli := { s.pli with sense := e } } b nofun

theorem State.checkBlock_checkEntry (s : State) (b : Block) (code : Byte) (k : SenseKind) :
    s.checkBlock s.pli.currentBatch (isLastBlock s.pli.currentBatch b) code (Sense.of k) [] = s.checkEntry b code k := by
  rw [s.checkBlock_eq, List.append_nil]
  rfl

/-! ### Blocks that are not examined (R161, R162) -/

/-- The batch of a block under an owed reply is restricted as the model judges it. -/
theorem State.restricted_iff (s : State) : s.pli.currentBatch.restricted = true ↔ s.Restricted := by
  unfold PitLink.currentBatch State.Restricted
  cases s.pli.batch with
  | none => exact Option.isSome_iff_ne_none
  | some bt => exact Iff.rfl

/-- The requests that run while a reply is owed are those of CODE 0x01, 0x02 and 0x37 (R162). -/
theorem mayRunWhileOwed_eq_false {req : Option Request} {code : Byte} (named : ∀ r, req = some r → r.code = code)
    (other : code ∉ [0x01, 0x02, 0x37]) : mayRunWhileOwed req = false := by
  cases req with
  | none => rfl
  | some r =>
    rw [← named r rfl] at other
    cases r
    case reportStatus | requestSense | abort => exact absurd (by decide) other
    all_goals rfl

/-- Settles O16: both are decided before the block is looked at. -/
theorem batchStopsAndRestricts : Obligations.BatchStopsAndRestricts := by
  intro c code b s block
  obtain ⟨req, m, run, named⟩ := exec_block block
  refine ⟨fun ⟨bt, batch, stopped⟩ => ?_, fun going restricted other => ?_⟩
  · have current : s.pli.currentBatch.stopped = true := by rw [PitLink.currentBatch, batch]; exact stopped
    rw [run, State.runBlock]
    simp only [current, if_true]
    exact congrArg Host.Outcome.next (s.answerBlock_failed b nofun)
  · have held : (s.pli.currentBatch.restricted && !mayRunWhileOwed req) = true := by
      rw [s.restricted_iff.mpr restricted, mayRunWhileOwed_eq_false named other]
      rfl
    rw [run, State.runBlock]
    simp only [s.currentBatch_stopped going, held, if_true, if_false, Bool.false_eq_true]
    exact congrArg Host.Outcome.next (s.answerBlock_eq b _ going)

/-! ### Reports in the place of a block (R160, step 4) -/

/-- In ACTIVE outside IDENT a block that is not exempt comes to step 4 of R160, which ABORT skips. -/
theorem State.Open.runBlock_active {s : State} (h : s.Open) {req : Option Request} (plain : isExempt req = false)
    (stage : s.bsv.stage ≠ .ident) (power : s.bsv.power = .active) (code : Byte) (b : Block)
    (m : Bool → State → Answer) :
    s.runBlock req code b m =
      if req = some .abort then runForm s.pli.currentBatch (isLastBlock s.pli.currentBatch b) req code false m s
      else runReports s.pli.currentBatch (isLastBlock s.pli.currentBatch b) req code m s := by
  have awake : s.wake = s := State.wake_awake (by rw [power]; decide)
  rw [h.runBlock plain, runNonExempt, if_neg stage, if_neg (by rw [power]; decide),
    if_neg (fun parked => by rw [power] at parked; cases parked.1), awake]

/-- Settles O15: step 4 of R160 reports from the attention list first. -/
theorem reportsGoFirst : Obligations.ReportsGoFirst := by
  intro c code b s block open_ plain stage power
  obtain ⟨req, m, run, named⟩ := exec_block block
  have exempt : isExempt req = false := isExempt_eq_false named fun mem => plain (List.mem_append_left [0x37] mem)
  have other : req ≠ some .abort := fun abort => plain (by rw [← named .abort abort]; decide)
  have reports := (open_.runBlock_active exempt stage power code b m).trans (if_neg other)
  have restart (t : State) (e : ReplyEntry) (h : t.bsv = s.bsv) :
      (t.answered b e).restartParkTimer = (t.answered b e).timerRestarted :=
    State.restartParkTimer_eq _ (by rw [t.answered_bsv, h]; exact power) (by rw [t.answered_bsv, h]; exact stage)
  refine ⟨fun a rest attention => ?_, fun d attention deferred => ?_⟩
  · rw [run, reports, runReports, attention]
    refine congrArg Host.Outcome.next ?_
    refine (congrArg State.restartParkTimer (State.checkBlock_checkEntry (s.setPli _) b code a.kind)).trans ?_
    cases a <;> exact restart _ _ rfl
  · rw [run, reports, runReports, attention, deferred]
    refine congrArg Host.Outcome.next ?_
    refine (congrArg State.restartParkTimer (State.checkBlock_eq (s.setPli _) b code d.report d.tail)).trans ?_
    exact restart _ _ rfl

/-! ### Refused parameters (R167) -/

/-- What a request means once it is examined. -/
def Request.answer (r : Request) (b : Block) : Bool → State → Answer :=
  match r with
  | .reportStatus => reportStatusAnswer b
  | .requestSense => requestSenseAnswer b
  | .identify => identifyAnswer b
  | .claim => claimAnswer b
  | .release => releaseAnswer b
  | .setDrive => setDriveAnswer b
  | .setSteer => setSteerAnswer b
  | .setGear => setGearAnswer b
  | .setScene => setSceneAnswer b
  | .winchPayOut => payOutAnswer b
  | .winchHaulIn => haulInAnswer b
  | .winchHaulToTension => haulToTensionAnswer b
  | .winchHome => homeAnswer b
  | .winchAssistHaul => assistHaulAnswer b
  | .winchFreespool => freespoolAnswer b
  | .winchStop => winchStopAnswer b
  | .abort => abortAnswer b
  | .readSetting => readSettingAnswer b
  | .writeSetting => writeSettingAnswer b
  | .selectProfile => selectAnswer b
  | .commitProfile => commitAnswer b
  | .loadDefaults => loadDefaultsAnswer b
  | .park => parkAnswer b
  | .reset => resetAnswer b

theorem exec_command (r : Request) (b : Block) (s : State) :
    exec (r.command b) s = .next (s.runRequest r b (r.answer b)) := by
  cases r <;> rfl

/-- Parameters that do not have what every parse shows are refused. -/
theorem withParam_refused {α : Type} {P : Prop} {s : State} {p : Option α} {k : α → Answer} (bad : ¬P)
    (parsed : ∀ a, p = some a → P) : withParam s p k = .check s .badParameter := by
  cases p with
  | none => rfl
  | some a => exact absurd (parsed a rfl) bad

theorem noParams_some {l : List Byte} {u : Unit} (h : noParams l = some u) : l = [] := by
  cases l with
  | nil => rfl
  | cons => cases h

theorem byteParam_some {least most n : Nat} {l : List Byte} (h : byteParam least most l = some n) :
    ∃ k : Byte, l = [k] ∧ least ≤ k.toNat ∧ k.toNat ≤ most := by
  unfold byteParam at h
  split at h
  next k => exact ⟨k, rfl, (Option.ite_none_right_eq_some.mp h).1⟩
  next => cases h

theorem wordParam_some {least most n : Nat} {l : List Byte} (h : wordParam least most l = some n) :
    ∃ lo hi : Byte, l = [lo, hi] ∧ least ≤ wordOf lo hi ∧ wordOf lo hi ≤ most := by
  unfold wordParam at h
  split at h
  next lo hi => exact ⟨lo, hi, rfl, (Option.ite_none_right_eq_some.mp h).1⟩
  next => cases h

theorem commandParam_good {v : Int} {l : List Byte} (h : commandParam l = some v) : GoodParams .setDrive l := by
  unfold commandParam at h
  split at h
  next lo hi =>
    rw [signed16_eq_signedOf] at h
    exact ⟨lo, hi, rfl, (Option.ite_none_right_eq_some.mp h).1⟩
  next => cases h

theorem Row.ofPlace_le {n : Nat} {r : Row} (h : Row.ofPlace n = some r) : n ≤ 3 := by
  unfold Row.ofPlace at h
  split at h
  case h_5 => cases h
  all_goals decide

theorem SteerMode.ofPlace_le {n : Nat} {m : SteerMode} (h : SteerMode.ofPlace n = some m) : n ≤ 3 := by
  unfold SteerMode.ofPlace at h
  split at h
  case h_5 => cases h
  all_goals decide

theorem Gear.ofPlace_le {n : Nat} {g : Gear} (h : Gear.ofPlace n = some g) : n ≤ 2 := by
  unfold Gear.ofPlace at h
  split at h
  case h_4 => cases h
  all_goals decide

theorem rowParam_good {r : Row} {l : List Byte} (h : rowParam l = some r) : GoodParams .claim l := by
  unfold rowParam at h
  split at h
  next k => exact ⟨k, rfl, Row.ofPlace_le h⟩
  next => cases h

theorem gearParam_good {g : Gear} {l : List Byte} (h : gearParam l = some g) : GoodParams .setGear l := by
  unfold gearParam at h
  split at h
  next k => exact ⟨k, rfl, Gear.ofPlace_le h⟩
  next => cases h

theorem fourParam_good {k : Fin 4} {l : List Byte} (h : fourParam l = some k) : GoodParams .setScene l := by
  unfold fourParam sceneOf at h
  split at h
  next k =>
    obtain ⟨small, -⟩ := Option.dite_none_right_eq_some.mp h
    exact ⟨k, rfl, Nat.le_of_lt_succ small⟩
  next => cases h

theorem steerParam_good {p : Int × Option SteerMode} {l : List Byte} (h : steerParam l = some p) :
    GoodParams .setSteer l := by
  unfold steerParam at h
  split at h
  next lo hi =>
    obtain ⟨v, command, -⟩ := Option.map_eq_some_iff.mp h
    exact .inl (commandParam_good command)
  next lo hi k =>
    split at h
    next v mode command place =>
      obtain ⟨_, _, bytes, range⟩ := commandParam_good command
      cases bytes
      exact .inr ⟨lo, hi, k, rfl, range, SteerMode.ofPlace_le place⟩
    next => cases h
  next => cases h

theorem tensionParam_good {p : TensionParams} {l : List Byte} (h : tensionParam l = some p) :
    GoodParams .winchHaulToTension l := by
  unfold tensionParam at h
  split at h
  next lo hi tlo thi k =>
    split at h
    next allowance tension settle =>
      obtain ⟨_, _, bytes, word⟩ := wordParam_some allowance
      obtain ⟨_, _, bytes', word'⟩ := wordParam_some tension
      obtain ⟨_, bytes'', byte⟩ := byteParam_some settle
      cases bytes
      cases bytes'
      cases bytes''
      exact ⟨lo, hi, tlo, thi, k, rfl, word, word', byte⟩
    next => cases h
  next => cases h

/-- A number that names a setting is the number of a setting in the table. -/
theorem SettingId.ofNumber_some {n : Nat} {i : SettingId} (h : SettingId.ofNumber n = some i) :
    ∃ i ∈ SettingId.list, i.number = n :=
  ⟨i, List.mem_of_find?_eq_some h, of_decide_eq_true (List.find?_some h :)⟩

theorem settingParam_good {i : SettingId} {l : List Byte} (h : settingParam l = some i) : GoodParams .readSetting l := by
  unfold settingParam at h
  split at h
  next lo hi => exact ⟨lo, hi, rfl, SettingId.ofNumber_some h⟩
  next => cases h

theorem settingValueParam_good {p : SettingId × List Byte} {l : List Byte} (h : settingValueParam l = some p) :
    GoodParams .writeSetting l := by
  unfold settingValueParam at h
  split at h
  next lo hi value =>
    obtain ⟨length, found⟩ := Option.ite_none_right_eq_some.mp h
    obtain ⟨i, number, -⟩ := Option.map_eq_some_iff.mp found
    exact ⟨lo, hi, value, rfl, SettingId.ofNumber_some number, length⟩
  next => cases h

/-- Parameters outside the catalogue are refused, wherever the block stands. -/
theorem Request.answer_badParams {r : Request} {b : Block} (bad : ¬GoodParams r b.params) (l : Bool) (s : State) :
    r.answer b l s = .check s .badParameter := by
  cases r
  case reportStatus =>
    refine withParam_refused bad fun _ parsed => ?_
    obtain ⟨k, bytes, -, most⟩ := byteParam_some parsed
    exact ⟨k, bytes, most⟩
  case claim | release => exact withParam_refused bad fun _ => rowParam_good
  case setScene | selectProfile => exact withParam_refused bad fun _ => fourParam_good
  case setGear => exact withParam_refused bad fun _ => gearParam_good
  case setDrive => exact withParam_refused bad fun _ => commandParam_good
  case setSteer => exact withParam_refused bad fun _ => steerParam_good
  case winchPayOut | winchHaulIn | winchAssistHaul => exact withParam_refused bad fun _ => wordParam_some
  case winchHaulToTension => exact withParam_refused bad fun _ => tensionParam_good
  case readSetting => exact withParam_refused bad fun _ => settingParam_good
  case writeSetting => exact withParam_refused bad fun _ => settingValueParam_good
  all_goals exact withParam_refused bad fun _ => noParams_some

/-! ### A wrong place in the batch (R167) -/

theorem withParam_notLast {α : Type} {s : State} {l : Bool} (p : Option α) (k : α → Answer) (h : l = false) :
    withParam s p (fun a => whenLast s l (k a)) = .check s .badParameter := by
  rw [h]
  cases p <;> rfl

/-- A block that has to be last and is not is refused, whatever its parameters. -/
theorem Request.answer_misplaced {r : Request} {b : Block} {s : State} (bad : ¬s.WellPlaced r b) :
    r.answer b (isLastBlock s.pli.currentBatch b) s = .check s .badParameter := by
  have notLast (early : ¬s.IsLast b) : isLastBlock s.pli.currentBatch b = false := by
    rw [s.isLastBlock_eq]
    exact decide_eq_false early
  rcases not_and_or.mp bad with bad | bad
  · obtain ⟨which, early⟩ := Classical.not_imp.mp bad
    rcases which with rfl | rfl <;> exact withParam_notLast _ _ (notLast early)
  · obtain ⟨operation, bad⟩ := Classical.not_imp.mp bad
    obtain ⟨waits, early⟩ := not_or.mp bad
    have refused : lastUnlessImmediate b (isLastBlock s.pli.currentBatch b) = false := by
      rw [notLast early]
      simpa [lastUnlessImmediate, isImmediate] using waits
    simp only [operationRequests, List.mem_cons, List.not_mem_nil, or_false] at operation
    rcases operation with rfl | rfl | rfl | rfl | rfl <;> exact withParam_notLast _ _ refused

/-! ### The fit check and the answer (R160, R161) -/

theorem State.fits_iff (s : State) (r : Request) :
    s.Fits r.largestData ↔ ¬108 < entriesSize s.pli.currentBatch.entries + largestEntry (some r) := by
  rw [s.currentBatch_entries, not_lt, largestEntry, ← Nat.add_assoc]
  rfl

/-- A request that does not fit, or whose meaning refuses it, comes to the same answer. -/
theorem State.runForm_refused {s : State} {r : Request} {m : Bool → State → Answer} {l : Bool}
    (h : s.Fits r.largestData → m l s = .check s .badParameter) (code : Byte) (exempt : Bool) :
    runForm s.pli.currentBatch l (some r) code exempt m s =
      finishBlock s.pli.currentBatch l code exempt (.check s .badParameter) := by
  unfold runForm
  split
  · rfl
  next fits => rw [h ((s.fits_iff r).mpr fits)]

/-- A ready block that is not exempt comes to the fit check. -/
theorem State.Ready.runBlock {s : State} (h : s.Ready) {req : Option Request} (plain : isExempt req = false)
    (code : Byte) (b : Block) (m : Bool → State → Answer) :
    s.runBlock req code b m =
      runForm s.pli.currentBatch (isLastBlock s.pli.currentBatch b) req code false m s := by
  obtain ⟨open_, stage, power, attention, deferred⟩ := h
  rw [open_.runBlock_active plain stage power, runReports, attention, deferred]
  exact ite_self _

/-- A CHECK of a ready block, whose effect is its entry and the restart of the park idle timer (R39). -/
theorem State.Ready.finish_check {s : State} (h : s.Ready) (b : Block) (code : Byte) (k : SenseKind) :
    finishBlock s.pli.currentBatch (isLastBlock s.pli.currentBatch b) code false (.check s k) =
      (s.checkEntry b code k).timerRestarted := by
  obtain ⟨-, stage, power, -, -⟩ := h
  have same : (s.checkEntry b code k).bsv = s.bsv := State.answered_bsv _ _ _
  refine (congrArg State.restartParkTimer (s.checkBlock_checkEntry b code k)).trans ?_
  exact State.restartParkTimer_eq _ (by rw [same]; exact power) (by rw [same]; exact stage)

/-- Settles O17: the fit check, the parameters and the place each refuse with BAD_PARAMETER; an unknown code that fits is
refused by its meaning. -/
theorem illegalBlocksChecked : Obligations.IllegalBlocksChecked := by
  refine ⟨fun r b s ready plain illegal => ?_, fun r b s going exempt free illegal => ?_, fun code b s ready => ?_⟩
  · have refused (fits : s.Fits r.largestData) :
        r.answer b (isLastBlock s.pli.currentBatch b) s = .check s .badParameter :=
      (illegal.resolve_left (not_not.mpr fits)).elim (Request.answer_badParams · _ s) Request.answer_misplaced
    rw [exec_command, State.runRequest, ready.runBlock (req := some r) plain, State.runForm_refused refused,
      ready.finish_check]
    rfl
  · have refused (fits : s.Fits r.largestData) :
        r.answer b (isLastBlock s.pli.currentBatch b) s = .check s .badParameter :=
      Request.answer_badParams (illegal.resolve_left (not_not.mpr fits)) _ s
    have runs : (s.pli.currentBatch.restricted && !mayRunWhileOwed (some r)) = false := by
      rw [Bool.and_eq_false_iff, ← Bool.not_eq_true, s.restricted_iff]
      refine free.imp_right fun other => ?_
      cases r
      case identify => exact absurd rfl other
      case reportStatus | requestSense => rfl
      all_goals cases exempt
    rw [exec_command, State.runRequest, State.runBlock]
    simp only [s.currentBatch_stopped going, runs, isExempt, exempt, if_false, if_true, Bool.false_eq_true]
    rw [State.runForm_refused refused]
    exact congrArg Host.Outcome.next (s.checkBlock_checkEntry b r.code .badParameter)
  · have size : entriesSize s.pli.currentBatch.entries + largestEntry none =
        (s.formed.map fun e => 3 + e.data.length).sum + 3 + 9 := by
      rw [s.currentBatch_entries]
      rfl
    show Host.Outcome.next (s.runBlock none code b _) = _
    rw [ready.runBlock (req := none) rfl, runForm, size]
    by_cases fits : (s.formed.map fun e => 3 + e.data.length).sum + 3 + 9 ≤ 108
    · rw [if_neg (not_lt.mpr fits), if_pos fits, ready.finish_check]
    · rw [if_pos (not_le.mp fits), if_neg fits, ready.finish_check]

end Sys2Proof.Machine
end

section
/-! REQUEST SENSE and IDENTIFY (R164, R166), the transmission of a reply (R158, R161, R162), and the step itself. -/

namespace Sys2Proof.Machine

/-! ### REQUEST SENSE and IDENTIFY (R164, R166) -/

/-- An exempt request answered GOOD, whose effect leaves the batch as it was. -/
theorem State.Going.run_exemptGood {s t : State} {r : Request} (h : s.Going)
    (runs : s.pli.currentBatch.restricted = false ∨ r.runsWhileOwed = true) (fits : s.Fits r.largestData)
    (exempt : r.exempt = true) {b : Block} {m : Bool → State → Answer} {data : List Byte}
    (answer : m (isLastBlock s.pli.currentBatch b) s = .good t data) (batch : t.pli.batch = s.pli.batch)
    (owed : t.pli.owed = s.pli.owed) : s.runRequest r b m = t.answered b ⟨r.code, .good, data⟩ := by
  have going : t.Going := fun bt hb => h bt (batch ▸ hb)
  have current : t.pli.currentBatch = s.pli.currentBatch := by rw [PitLink.currentBatch, batch, owed]; rfl
  rw [State.runRequest_exempt h runs fits exempt, answer, ← current]
  exact t.answerBlock_eq b _ going

/-- Taking a sense leaves the batch and the owed reply as they were. -/
theorem PitLink.takeSense_kept (p : PitLink) :
    p.takeSense.2.batch = p.batch ∧ p.takeSense.2.owed = p.owed := by
  unfold PitLink.takeSense
  split
  · exact ⟨rfl, rfl⟩
  · split <;> exact ⟨rfl, rfl⟩

section
variable {p : PitLink}

theorem PitLink.takeSense_sense (held : p.sense.kind ≠ .clear) :
    p.takeSense = (p.sense, { p with sense := .cleared }) := if_pos held

theorem PitLink.takeSense_attention (clear : ¬p.sense.kind ≠ .clear) {a : Attention} {rest : List Attention}
    (attention : p.attention = a :: rest) : p.takeSense = (Sense.of a.kind, { p with attention := rest }) := by
  rw [PitLink.takeSense, if_neg clear, attention]

theorem PitLink.takeSense_deferred (clear : ¬p.sense.kind ≠ .clear) (attention : p.attention = []) {d : Deferred}
    (deferred : p.deferred = some d) : p.takeSense = (d.report, { p with deferred := none }) := by
  rw [PitLink.takeSense, if_neg clear]
  split
  next full => cases attention.symm.trans full
  next held => cases deferred.symm.trans held; rfl
  next empty => cases deferred.symm.trans empty

theorem PitLink.takeSense_none (clear : ¬p.sense.kind ≠ .clear) (attention : p.attention = [])
    (deferred : p.deferred = none) : p.takeSense = (.cleared, p) := by
  rw [PitLink.takeSense, if_neg clear, attention, deferred]

end

/-- The sense of an attention entry: key 7, the place of its kind, no flags and no residual (R165). -/
theorem Attention.toBytes_kind (a : Attention) :
    (Sense.of a.kind).toBytes = [7, match a with
      | .resetOccurred => 1
      | .packChanged => 2
      | .defaultsLoaded => 3, 0, 0, 0] := by
  cases a <;> rfl

theorem Sense.toBytes_cleared : Sense.cleared.toBytes = [0, 0, 0, 0, 0] := rfl

/-- Settles O19: the sources of R164 in their order, and the bytes of R166 in theirs. -/
theorem senseAndIdentityAnswered : Obligations.SenseAndIdentityAnswered := by
  refine ⟨fun b s going fits params => ?_, fun b s v0 v1 v2 v3 going free fits params slots => ?_⟩
  · obtain ⟨batch, owed⟩ := s.pli.takeSense_kept
    have answer (l : Bool) : requestSenseAnswer b l s =
        .good (s.setPli s.pli.takeSense.2) s.pli.takeSense.1.toBytes := by
      rw [requestSenseAnswer, params]
      rfl
    refine congrArg Host.Outcome.next ?_
    rw [going.run_exemptGood (r := .requestSense) (.inr rfl) fits rfl (answer _) batch owed]
    by_cases held : s.pli.sense.kind ≠ .clear
    · rw [if_pos held, PitLink.takeSense_sense held]
      rfl
    · rw [if_neg held]
      split
      next a rest _ attention => rw [PitLink.takeSense_attention held attention, Attention.toBytes_kind]; rfl
      next d attention deferred => rw [PitLink.takeSense_deferred held attention deferred]; rfl
      next attention deferred => rw [PitLink.takeSense_none held attention deferred, Sense.toBytes_cleared]; rfl
  · have answer (l : Bool) : identifyAnswer b l s = .good s s.pst.identify := by
      rw [identifyAnswer, params]
      rfl
    have runs : s.pli.currentBatch.restricted = false := by
      rw [← Bool.not_eq_true, s.restricted_iff]
      exact free
    have data : s.pst.identify = [0x34, 0x4C, 2, BitVec.ofNat 8 s.pst.active.val] ++
        [v0, v1, v2, v3].flatMap fun v =>
          [(crc16 (Config.profileBytes v)).truncate 8, ((crc16 (Config.profileBytes v)) >>> 8).truncate 8] := by
      rw [Store.identify, slots]
      rfl
    rw [← data]
    exact congrArg Host.Outcome.next (going.run_exemptGood (r := .identify) (.inl runs) fits rfl (answer _) rfl rfl)

/-! ### The transmission of a reply (R158, R161, R162) -/

/-- The first owed reply goes first; with none owed, the one that became ready first. -/
theorem nextReply_eq {l1 l2 : List Reply} {r : Reply}
    (first : r.owed = true ∧ (∀ x ∈ l1, x.owed = false) ∨ l1 = [] ∧ ∀ x ∈ r :: l2, x.owed = false) :
    nextReply (l1 ++ r :: l2) = some r := by
  unfold nextReply
  rcases first with ⟨owed, before⟩ | ⟨rfl, unowed⟩
  · have found : (l1 ++ r :: l2).find? Reply.owed = some r := by
      rw [List.find?_append, List.find?_eq_none.mpr fun x mem => by simp [before x mem], List.find?_cons_of_pos owed]
      rfl
    rw [found]
  · have found : (r :: l2).find? Reply.owed = none := List.find?_eq_none.mpr fun x mem => by simp [unowed x mem]
    rw [List.nil_append, found]
    rfl

/-- The reply that goes first is taken out of its place. -/
theorem erase_nextReply {l1 l2 : List Reply} {r : Reply}
    (first : r.owed = true ∧ (∀ x ∈ l1, x.owed = false) ∨ l1 = [] ∧ ∀ x ∈ r :: l2, x.owed = false) :
    (l1 ++ r :: l2).erase r = l1 ++ l2 := by
  have fresh : r ∉ l1 := by
    rcases first with ⟨owed, before⟩ | ⟨rfl, -⟩
    · intro mem
      rw [before r mem] at owed
      cases owed
    · exact List.not_mem_nil
  rw [List.erase_append_right _ fresh, List.erase_cons_head]

/-- A reply entry as bytes, with the number of its status. -/
theorem ReplyEntry.toBytes_eq (e : ReplyEntry) :
    e.toBytes = [e.code, (match e.status with
      | .good => 0
      | .check => 1
      | .busy => 2
      | .skipped => 3 : Byte), BitVec.ofNat 8 e.data.length] ++ e.data := by
  unfold ReplyEntry.toBytes
  cases e.status <;> rfl

theorem Reply.resets_eq (r : Reply) : r.resets = r.entries.any fun e => e.code = 0x51 && e.status = .good := by
  unfold Reply.resets
  simp only [Bool.decide_and]
  rfl

/-- Settles O60: the reply that goes first leaves the ready replies and is framed; with nothing ready, or in the middle
of a frame, nothing changes. -/
theorem replyTransmitted : Obligations.ReplyTransmitted := by
  refine fun s => ⟨fun idle => ?_, fun l1 l2 r body hunting ready first bytes => ?_⟩
  · have kept : s.pli.transmit = s.pli := by
      unfold PitLink.transmit
      rcases idle with ready | busy
      · rw [ready]
        exact ite_self _
      · exact if_neg busy
    show Host.Outcome.next (s.setPli s.pli.transmit) = _
    rw [kept]
    rfl
  · have written : r.entries.flatMap ReplyEntry.toBytes = body := by
      rw [bytes]
      exact List.flatMap_congr fun e _ => e.toBytes_eq
    have sent : s.pli.transmit = { s.pli with
        ready := l1 ++ l2
        lastSent := frameBody body
        resetAwaited := s.pli.resetAwaited || r.entries.any fun e => e.code = 0x51 && e.status = .good } := by
      rw [PitLink.transmit, if_pos hunting, ready, nextReply_eq first]
      simp only
      rw [erase_nextReply first, Reply.frame, written, r.resets_eq]
    show Host.Outcome.next (s.setPli s.pli.transmit) = _
    rw [sent]
    rfl

/-! ### One step (section 2) -/

/-- Settles O1: the two cases of the queue. -/
theorem stepRunsFrontCommand : Obligations.StepRunsFrontCommand := by
  refine ⟨fun c rest s queue => ?_, fun s queue => ?_⟩
  · rw [step, queue]
    rfl
  · rw [step, queue]

end Sys2Proof.Machine
end

section
/-! READ SETTING, and a written value read back with every other setting as it was (R170). -/

namespace Sys2Proof.Machine

/-! ### The answer of READ SETTING -/

theorem settingParam_eq {lo hi : Byte} {i : SettingId} (h : i ∈ SettingId.list) (number : i.number = wordOf lo hi) :
    settingParam [lo, hi] = some i :=
  (congrArg SettingId.ofNumber number.symm).trans (SettingId.ofNumber_number h)

/-- A request answered GOOD with data, which has no effect. -/
theorem State.Reaches.run_goodData {s : State} {r : Request} (h : s.Reaches r) (he : r.exempt = false) {b : Block}
    {m : Bool → State → Answer} {data : List Byte} (hm : m (isLastBlock s.pli.currentBatch b) s = .good s data) :
    s.runRequest r b m = (s.answered b ⟨r.code, .good, data⟩).timerRestarted := by
  obtain ⟨open_, stage, active, _, _⟩ := h.1
  rw [State.runRequest_reaches h he b m, hm]
  show (s.setPli (s.pli.answerBlock s.pli.currentBatch (isLastBlock s.pli.currentBatch b)
    ⟨r.code, .good, data⟩)).restartParkTimer = _
  rw [s.answerBlock_eq b _ open_.going]
  have same := s.answered_bsv b ⟨r.code, .good, data⟩
  exact State.restartParkTimer_eq _ (by rw [same]; exact active) (by rw [same]; exact stage)

/-! ### A number read from bytes gives the same bytes -/

@[simp] theorem byteOf_toNat (b : Byte) : byteOf b.toNat = b :=
  (BitVec.ofNat_toNat 8 b).trans b.setWidth_eq

theorem le16_ofLe16 (lo hi : Byte) : le16 (ofLe16 lo hi) = [lo, hi] := by
  have low : ofLe16 lo hi % 256 = lo.toNat := by unfold ofLe16; omega
  have high : ofLe16 lo hi / 256 = hi.toNat := by unfold ofLe16; omega
  rw [le16, low, high, byteOf_toNat, byteOf_toNat]

theorem byteOf_signed8 (b : Byte) : byteOf (signed8 b % 256).toNat = b := by
  have same : (signed8 b % 256).toNat = b.toNat := by unfold signed8; split <;> omega
  rw [same, byteOf_toNat]

theorem flagByte_eq_one {b : Byte} (h : b.toNat ≤ 1) : flagByte (b.toNat = 1) = b := by
  have same : flagNat (b.toNat = 1) = b.toNat := by
    interval_cases b.toNat <;> rfl
  rw [flagByte, same, byteOf_toNat]

theorem numberBytes_numberOf {len n : Nat} {v : List Byte} (h : numberOf len v = some n) : numberBytes len n = v := by
  unfold numberOf at h
  split at h
  next a =>
    split at h
    next one => cases h; rw [numberBytes, if_pos one, byteOf_toNat]
    next => cases h
  next a b =>
    split at h
    next two => cases h; rw [numberBytes, if_neg (by omega), le16_ofLe16]
    next => cases h
  · cases h

theorem SteerMode.place_ofPlace {n : Nat} {m : SteerMode} (h : SteerMode.ofPlace n = some m) : m.place = n := by
  unfold SteerMode.ofPlace at h
  split at h <;> cases h <;> rfl

theorem Role.place_ofPlace {n : Nat} {r : Role} (h : Role.ofPlace n = some r) : r.place = n := by
  unfold Role.ofPlace at h
  split at h <;> cases h <;> rfl

theorem DriveType.place_ofPlace {n : Nat} {d : DriveType} (h : DriveType.ofPlace n = some d) : d.place = n := by
  unfold DriveType.ofPlace at h
  split at h <;> cases h <;> rfl

theorem sceneOf_val {n : Nat} {k : Fin 4} (h : sceneOf n = some k) : k.val = n := by
  unfold sceneOf at h
  split at h <;> cases h
  rfl

/-! ### A value read from bytes is written as the same bytes (R132, R135, R155, R170) -/

theorem bindingOf_bytes {v : List Byte} {b : Binding} (h : bindingOf v = some b) :
    [byteOf b.channel, flagByte b.reverse, byteOf (b.trim % 256).toNat, byteOf b.deadBand] = v := by
  unfold bindingOf at h
  split at h
  next c r t d =>
    dsimp only at h
    split at h
    next ok => cases h; simp only [byteOf_toNat, flagByte_eq_one ok.1, byteOf_signed8]
    next => cases h
  · cases h

theorem modeListOf_bytes {v : List Byte} {l : Three SteerMode} (h : modeListOf v = some l) :
    [byteOf l.at0.place, byteOf l.at1.place, byteOf l.at2.place] = v := by
  unfold modeListOf at h
  split at h
  · split at h
    next x y z hx hy hz =>
      cases h
      simp only [SteerMode.place_ofPlace hx, SteerMode.place_ofPlace hy, SteerMode.place_ofPlace hz, byteOf_toNat]
    next => cases h
  · cases h

theorem outputOf_bytes {v : List Byte} {o : OutputSetting} (h : outputOf v = some o) :
    byteOf o.role.place :: le16 o.nominal ++ [byteOf o.drive.place] = v := by
  unfold outputOf at h
  split at h
  · split at h
    next role drive hr hd =>
      split at h
      next =>
        cases h
        simp only [Role.place_ofPlace hr, DriveType.place_ofPlace hd, le16_ofLe16, byteOf_toNat]
        rfl
      next => cases h
    · cases h
  · cases h

theorem sceneLevelsOf_bytes {v : List Byte} {c : SceneLevels} (h : sceneLevelsOf v = some c) :
    c.toList.map byteOf = v := by
  unfold sceneLevelsOf at h
  split at h
  · cases h
    simp only [SceneLevels.toList, List.map_cons, List.map_nil, byteOf_toNat]
  · cases h

theorem sceneListOf_bytes {v : List Byte} {l : Three (Fin 4)} (h : sceneListOf v = some l) :
    [byteOf l.at0, byteOf l.at1, byteOf l.at2] = v := by
  unfold sceneListOf at h
  split at h
  · split at h
    next x y z hx hy hz =>
      cases h
      simp only [sceneOf_val hx, sceneOf_val hy, sceneOf_val hz, byteOf_toNat]
    next => cases h
  · cases h

/-! ### One place of four and of eight replaced, and read -/

theorem Four.get_set {α : Type} (t : Four α) (k n : Fin 4) (a : α) :
    (t.set k a).get n = if n = k then a else t.get n := by
  fin_cases k <;> fin_cases n <;> rfl

theorem Eight.get_set {α : Type} (t : Eight α) (k n : Fin 8) (a : α) :
    (t.set k a).get n = if n = k then a else t.get n := by
  fin_cases k <;> fin_cases n <;> rfl

/-! ### What a write leaves of the other settings (R170) -/

theorem Settings.binding_setBinding (w : Settings) (f g : Func) (b : Binding) :
    (w.setBinding f b).binding g = if g = f then b else w.binding g := by
  cases f <;> cases g <;> rfl

/-- A binding has no share in the scalars. -/
theorem Settings.scalar_setBinding (w : Settings) (f : Func) (b : Binding) (x : ScalarId) :
    (w.setBinding f b).scalar x = w.scalar x := by
  cases f <;> cases x <;> rfl

theorem settingBytes_setBinding_ne (w : Settings) {f : Func} (b : Binding) {j : SettingId} (h : j ≠ .binding f) :
    settingBytes (w.setBinding f b) j = settingBytes w j := by
  cases j with
  | binding g =>
    have other : g ≠ f := fun same => h (congrArg SettingId.binding same)
    simp only [settingBytes, w.binding_setBinding, if_neg other]
  | scalar x => simp only [settingBytes, w.scalar_setBinding]
  | _ => cases f <;> rfl

theorem settingBytes_setScalar_ne (w : Settings) {x : ScalarId} (n : Nat) {j : SettingId} (h : j ≠ .scalar x) :
    settingBytes (w.setScalar x n) j = settingBytes w j := by
  cases j with
  | scalar y =>
    have other : y ≠ x := fun same => h (congrArg SettingId.scalar same)
    simp only [settingBytes, w.scalar_setScalar_ne n other]
  | _ => cases x <;> rfl

theorem settingBytes_setModeList_ne (w : Settings) (l : Three SteerMode) {j : SettingId} (h : j ≠ .modeList) :
    settingBytes { w with stc := { w.stc with modeList := l } } j = settingBytes w j := by
  cases j with
  | modeList => exact absurd rfl h
  | scalar x => cases x <;> rfl
  | _ => rfl

/-- New lists of outputs, scenes and scene places have no share in the scalars. -/
theorem Settings.scalar_setLists (w : Settings) (outputs : Eight OutputSetting) (scenes : Four SceneLevels)
    (sceneList : Three (Fin 4)) (x : ScalarId) :
    Settings.scalar { w with ltc := { w.ltc with outputs, scenes, sceneList } } x = w.scalar x := by
  cases x <;> rfl

theorem settingBytes_setOutput_ne (w : Settings) {k : Fin 8} (o : OutputSetting) {j : SettingId} (h : j ≠ .output k) :
    settingBytes { w with ltc := { w.ltc with outputs := w.ltc.outputs.set k o } } j = settingBytes w j := by
  cases j with
  | output n =>
    have other : n ≠ k := fun same => h (congrArg SettingId.output same)
    simp only [settingBytes, Eight.get_set, if_neg other]
  | scalar x => simp only [settingBytes, w.scalar_setLists]
  | _ => rfl

theorem settingBytes_setScene_ne (w : Settings) {k : Fin 4} (c : SceneLevels) {j : SettingId} (h : j ≠ .scene k) :
    settingBytes { w with ltc := { w.ltc with scenes := w.ltc.scenes.set k c } } j = settingBytes w j := by
  cases j with
  | scene n =>
    have other : n ≠ k := fun same => h (congrArg SettingId.scene same)
    simp only [settingBytes, Four.get_set, if_neg other]
  | scalar x => simp only [settingBytes, w.scalar_setLists]
  | _ => rfl

theorem settingBytes_setSceneList_ne (w : Settings) (l : Three (Fin 4)) {j : SettingId} (h : j ≠ .sceneList) :
    settingBytes { w with ltc := { w.ltc with sceneList := l } } j = settingBytes w j := by
  cases j with
  | sceneList => exact absurd rfl h
  | scalar x => simp only [settingBytes, w.scalar_setLists]
  | _ => rfl

/-! ### Reading back (R170) -/

/-- A written scalar met its length and its range. -/
theorem writeValue_scalar {w w' : Settings} {x : ScalarId} {v : List Byte}
    (h : writeValue w (.scalar x) v = some w') :
    ∃ n, numberOf x.row.bytes v = some n ∧ n ≤ x.row.hi ∧ w' = w.setScalar x n := by
  unfold writeValue at h
  dsimp only at h
  split at h
  next n number =>
    split at h
    next range => cases h; exact ⟨n, number, range.2, rfl⟩
    next => cases h
  next => cases h

/-- A written value reads back as the bytes that wrote it. -/
theorem settingBytes_writeValue_same {w w' : Settings} {i : SettingId} {v : List Byte}
    (written : writeValue w i v = some w') : settingBytes w' i = v := by
  cases i with
  | binding f =>
    obtain ⟨b, hb, rfl⟩ := Option.map_eq_some_iff.mp written
    simp only [settingBytes, w.binding_setBinding, if_true]
    exact bindingOf_bytes hb
  | scalar x =>
    obtain ⟨n, number, most, rfl⟩ := writeValue_scalar written
    simp only [settingBytes, w.scalar_setScalar_same x most]
    exact numberBytes_numberOf number
  | modeList =>
    obtain ⟨l, hl, rfl⟩ := Option.map_eq_some_iff.mp written
    exact modeListOf_bytes hl
  | output k =>
    obtain ⟨o, ho, rfl⟩ := Option.map_eq_some_iff.mp written
    simp only [settingBytes, Eight.get_set, if_true]
    exact outputOf_bytes ho
  | scene k =>
    obtain ⟨c, hc, rfl⟩ := Option.map_eq_some_iff.mp written
    simp only [settingBytes, Four.get_set, if_true]
    exact sceneLevelsOf_bytes hc
  | sceneList =>
    obtain ⟨l, hl, rfl⟩ := Option.map_eq_some_iff.mp written
    exact sceneListOf_bytes hl
  | pattern k => cases written

/-- A written value leaves every other setting as it was. -/
theorem settingBytes_writeValue_ne {w w' : Settings} {i j : SettingId} {v : List Byte}
    (written : writeValue w i v = some w') (h : j ≠ i) : settingBytes w' j = settingBytes w j := by
  cases i with
  | binding f =>
    obtain ⟨b, _, rfl⟩ := Option.map_eq_some_iff.mp written
    exact settingBytes_setBinding_ne w b h
  | scalar x =>
    obtain ⟨n, _, _, rfl⟩ := writeValue_scalar written
    exact settingBytes_setScalar_ne w n h
  | modeList =>
    obtain ⟨l, _, rfl⟩ := Option.map_eq_some_iff.mp written
    exact settingBytes_setModeList_ne w l h
  | output k =>
    obtain ⟨o, _, rfl⟩ := Option.map_eq_some_iff.mp written
    exact settingBytes_setOutput_ne w o h
  | scene k =>
    obtain ⟨c, _, rfl⟩ := Option.map_eq_some_iff.mp written
    exact settingBytes_setScene_ne w c h
  | sceneList =>
    obtain ⟨l, _, rfl⟩ := Option.map_eq_some_iff.mp written
    exact settingBytes_setSceneList_ne w l h
  | pattern k => cases written

/-- Settles O30: the data of a read name the setting and hold its bytes, and bytes that spell a value are the bytes of that
value. The legality of the working copy is not used. -/
theorem settingReadsBack : Obligations.SettingReadsBack := by
  refine ⟨fun b lo hi i s h params listed number => ?_, fun w w' i j value _ written =>
    ⟨settingBytes_writeValue_same written, settingBytes_writeValue_ne written⟩⟩
  have bytes : le16 i.number = [lo, hi] := number ▸ le16_ofLe16 lo hi
  have answer (l : Bool) : readSettingAnswer b l s = .good s ([lo, hi] ++ settingBytes s.pst.working i) := by
    rw [readSettingAnswer, params, settingParam_eq listed number, withParam_some, readData, bytes]
  exact congrArg Host.Outcome.next (h.run_goodData rfl (answer _))

end Sys2Proof.Machine
end
